-- ==== Sys2Proof/Word.lean ====
section
/-! DEFINITION. The words of the CV640: bytes, capture timer ticks and part time. -/

namespace Sys2Proof

/-- One byte of a frame or of the calibration store. -/
abbrev Byte := BitVec 8

/-- A value of the capture timer, a 24-bit count of 100 ns ticks (R1). -/
abbrev Ticks := BitVec 24

/-- A value of part time, a 32-bit count of milliseconds that wraps (R170). -/
abbrev Ms := BitVec 32

end Sys2Proof
end

