-- ==== Sys2Proof/Syntax.lean ====
section
/-! DEFINITION. The commands of the block: one constructor of `Instr` per row of spec/opcode_table.json, with the
operands that reach the part from outside. A request carries no operand: it is the frame at the head of the receive
queue when it is taken (R159). -/

namespace Sys2Proof

/-- The product the part serves, from the ROLE strap (R171). -/
inductive Role where
  | stick
  | dock
  deriving DecidableEq, Repr

/-- A measurement: a number or one of the three value codes (00_scope.md, 'Measurement value codes'). -/
inductive Reading where
  | num (n : Int)
  | above
  | below
  | absent
  deriving DecidableEq, Repr

/-- The wake sources of SHIP (R175). -/
inductive WakeSource where
  | wakePin
  | contact
  deriving DecidableEq, Repr

/-- The raw measurements of one scan (R50): eight tap voltages, of which the first N are cells, the pack voltage, the
pack current, and three thermistors, of which `none` is open. -/
structure RawScan where
  taps : List Int
  packV : Int
  packI : Int
  t1 : Option Int
  t2 : Option Int
  t3 : Option Int
  deriving DecidableEq, Repr

/-- The charger stage's readings of its output voltage, its output current and the dock supply (R143); a voltage of
`none` is an open sense. -/
structure ChargerReadings where
  vOut : Option Nat
  iOut : Reading
  supply : Option Nat
  deriving DecidableEq, Repr

/-- The commands: the rows of spec/opcode_table.json in the table's order. -/
inductive Instr where
  | powerOnReset (role : Role) (cells : BitVec 2)
  | pinReset
  | shipWake (source : WakeSource)
  | hostFrameArrival (check : Byte)
  | hostRxGapTimeout
  | hostRxFramingError
  | hostRxLenInvalid (len : Byte)
  | unknownKind
  | identify
  | status
  | subscribe
  | supervise
  | readFaults
  | clearFaults
  | clearCause
  | resetPart
  | setPowerMode
  | setSuction
  | driveStatus
  | setModePower
  | setLimits
  | lockLimits
  | budgetStatus
  | packStatus
  | setPack
  | clearProtection
  | dirtStatus
  | setDirtLevels
  | clearBin
  | calibrateFloor
  | attachmentStatus
  | setAttachment
  | rollRestart
  | dockStatus
  | setEvacuation
  | chargerStatus
  | setDockSupply
  | startEvacuation
  | storeRead
  | storeWrite
  | storeErase
  | storeStatus
  | frameTransmitDone
  | supervisionExpiry
  | standbyTimerExpiry
  | zeroCrossing (timestamp : Ticks)
  | crossingWindowExpiry
  | commutation
  | forcedCommutation
  | alignTimerExpiry
  | rampTimerExpiry
  | coastTimerExpiry
  | crossingTimerExpiry
  | faultTimerExpiry
  | busCurrentReading (reading : Reading)
  | governorPeriod (readings : List ChargerReadings)
  | scanTimerExpiry
  | packRecordPublication (scan : RawScan)
  | dsgOcClearExpiry
  | piezoPulse
  | debrisWindow (ledOff ledOn : Nat)
  | bandTimerExpiry
  | idSample (reading : Reading)
  | waitTimerExpiry
  | rollCurrentReading (reading : Reading)
  | contactRxGapTimeout
  | contactFrameInvalid (check : Byte)
  | hailTaken (check : Byte)
  | pollTaken (check : Byte)
  | stickReplyStart
  | contactFrameSent
  | contactVoltageSample (mV : Nat)
  | silenceTimerExpiry
  | contactCurrentSample (mA : Nat)
  | hailTimerExpiry
  | pollTimerExpiry
  | replyWindowExpiry
  | answerAccepted (check : Byte)
  | needAccepted (check : Byte)
  | chargerReading (readings : ChargerReadings)
  | restartTimerExpiry
  | durationTimerExpiry
  | storeWriteComplete (matched : Bool)
  | storeEraseComplete (matched : Bool)
  | compactionStepComplete (mismatch : Option (Fin 4))
  | hostByteArrival (byte : Byte)
  | contactByteArrival (byte : Byte)
  | stickReplySent
  deriving DecidableEq, Repr

end Sys2Proof
end

