-- ==== Sys2Proof/Decode.lean ====
section
/-! DEFINITION. No row of spec/opcode_table.json has bits: the commands of this block are events, not words. -/

namespace Sys2Proof

/-- The command that a word spells by the table's bits. The table gives none of its 88 rows any bits ("fields": [] in
every row), so no word spells a command (log 38). -/
def decodeTableWord (_nbits _w : Nat) : Option Instr :=
  none

end Sys2Proof
end

