-- ==== Sys2Proof/Config.lean ====
section
/-! DEFINITION. The free values of the model: values that the spec leaves open.
None has a body, so that no proof can rest on a value of it. -/

namespace Sys2Proof

/-- FREE VALUE (logs 8, 9, 17). The byte at the given offset of the free value number `k`:
what a torn or failed store operation leaves in the memory (R182 to R184), and the byte sent for a Boolean or set
field of a record that is absent (R189 gives such a field no code for ABSENT). -/
opaque Config.freeByte (k offset : Nat) : Byte

/-- FREE VALUE (logs 8, 9, 20). The number with index `i` of the free value number `k`: how many bytes of a record
a torn write has stored, the speed when the six periods of the ring sum to 0 ticks (R2 divides by that sum), and the
duty of a catch when speed_at_stop is 0 (R17 divides by it). -/
opaque Config.freeNat (k i : Nat) : Nat

end Sys2Proof
end

