-- ==== Sys2Proof/Machine/Records.lean ====
section
/-! DEFINITION. The records of the blocks as plain data, chapter by chapter. Every record cites the rule that names it. -/

namespace Sys2Proof.Machine

/-! ### Suction drive (chapter 1) -/

/-- The state of channel A (R6). -/
inductive DriveState where
  | off | align | ramp | run | coast | fault
  deriving DecidableEq, Repr

/-- The suction request mode (R7). -/
inductive SuctionMode where
  | off | eco | med | boost | auto
  deriving DecidableEq, Repr

/-- Which party holds the drive (R7). -/
inductive Owner where
  | none | host | calibration | evacuation
  deriving DecidableEq, Repr

/-- The fault causes of the two drives (R18, R111). -/
inductive DriveFault where
  | overcurrent | desync | stall | overspeed | startFail | short
  deriving DecidableEq, Repr

/-- The cause a DRIVE report carries (R22, R113). -/
inductive DriveCause where
  | request | rampDone | retry | catchDone | noGrant | coastEnd | release | dischargeLost | docked | hostSilent
  | calibration | evacuation | blocked | overcurrent | desync | stall | overspeed | startFail | jam | jamLatched
  | short | restart
  deriving DecidableEq, Repr

/-- The crossing reference: the reference time and the reference period, in ticks (R1). -/
structure CrossRef where
  tRef : Ticks
  pRef : Nat
  deriving DecidableEq, Repr

/-- The drive record (R6), the suction request mode (R7), the timers of R10 to R18 as the part times at which they are
due, and the schedules of R3 and R11. -/
structure Drive where
  state : DriveState
  step : Nat
  ring : List Nat
  xref : Option CrossRef
  speed : Option Nat
  duty : Nat
  heldDuty : Option Nat
  forcedPeriod : Option Nat
  forcedIn : Option Nat
  commIn : Option Nat
  validCount : Nat
  missCount : Nat
  catchCount : Option Nat
  attempts : Nat
  retryPending : Bool
  startPending : Bool
  blocked : Bool
  zeroGrant : Nat
  stallTimer : Option Ms
  overTimer : Option Ms
  blockTimer : Option Ms
  lastRunDuty : Nat
  speedAtStop : Option Nat
  faultCause : Option DriveFault
  released : Option Bool
  owner : Owner
  busCurrent : Reading
  enteredAt : Ms
  mode : SuctionMode
  alignTimer : Option Ms
  rampTimer : Option Ms
  coastTimer : Option Ms
  crossTimer : Option Ms
  faultTimer : Option Ms
  captureTimer : Ticks
  deriving DecidableEq, Repr

/-! ### Power governor (chapter 2) -/

/-- The consumers of the grant table (R32, R34). -/
inductive Consumer where
  | overhead | roll | suction | fan | charger
  deriving DecidableEq, Repr

/-- A row of the grant table (R25): its time is absent until a period fills it. -/
structure GrantRow where
  consumer : Consumer
  demand : Nat
  grant : Nat
  time : Option Ms
  deriving DecidableEq, Repr

/-- The mode-power table in W (R42). -/
structure ModePowers where
  eco : Nat
  med : Nat
  boost : Nat
  autoMax : Nat
  deriving DecidableEq, Repr

/-- The four limits (R43). -/
structure Limits where
  discharge : Nat
  charge : Nat
  cellTarget : Nat
  dutyMax : Nat
  deriving DecidableEq, Repr

/-- The limit lock record: the five values it holds while it is set (R44). -/
structure LockRecord where
  limits : Limits
  supPeriod : Nat
  deriving DecidableEq, Repr

/-- The current readings of the governor period in progress, for their mean (R13, R106): their sum and their number, and
whether one of them was ABOVE. -/
structure CurrentSum where
  sum : Nat
  count : Nat
  above : Bool
  deriving DecidableEq, Repr

/-- A period with no reading yet. -/
def CurrentSum.empty : CurrentSum := ⟨0, 0, false⟩

/-- The governor record and the governor's settings (R25, R42, R43, R48), and the readings of the bus current (R13) and of
the roll current (R106) of the period in progress. -/
structure Gov where
  allowance : Option Nat
  fTp : Option Nat
  fV : Option Nat
  fTb : Option Nat
  row1 : GrantRow
  row2 : GrantRow
  row3 : GrantRow
  rollDuty : Nat
  pDem : Nat
  pAv : Nat
  pCmd : Nat
  pMeas : Nat
  e : Int
  a : Int
  residue : Nat
  prev : Nat
  saturated : Bool
  pHold : Option Nat
  vStart : Option Reading
  handedDuty : Nat
  busSamples : CurrentSum
  rollSamples : CurrentSum
  timer : Option Ms
  powers : ModePowers
  kp : Nat
  ki : Nat
  limits : Limits
  deriving DecidableEq, Repr

/-! ### Pack monitor and protection (chapter 3) -/

/-- A pack record (R51). -/
structure PackRecord where
  scanTime : Ms
  cells : List Reading
  packV : Reading
  packI : Reading
  t1 : Reading
  t2 : Reading
  t3 : Reading
  deriving DecidableEq, Repr

/-- Why the stick does or does not take charge (R71). -/
inductive NeedReason where
  | none | full | temp | protection | cutoffChg
  deriving DecidableEq, Repr

/-- The charge need record (R71). -/
structure Need where
  target : Nat
  limit : Nat
  permitted : Bool
  reason : NeedReason
  precharge : Bool
  deriving DecidableEq, Repr

/-- The pack record, the charge counter, the balance set, FULL, the charge need record, the settings of the pack monitor
and the scan (R49 to R57, R69 to R72). -/
structure Pack where
  record : Option PackRecord
  q : Nat
  valid : Bool
  acc : Int
  capacity : Nat
  restTimer : Option Ms
  balance : List Nat
  full : Bool
  fullTimer : Option Ms
  need : Need
  ocv : List Nat
  offsets : List Int
  scanTimer : Option Ms
  scanning : Bool
  lastScan : Ms
  deriving DecidableEq, Repr

/-- The protection level (R58). -/
inductive ProtLevel where
  | normal | derated | cutoff | lockout
  deriving DecidableEq, Repr

/-- The set of active causes (R58). -/
structure CauseSet where
  cellOv : Bool
  cellUv : Bool
  dsgOt : Bool
  dsgOc : Bool
  chgOc : Bool
  sense : Bool
  deriving DecidableEq, Repr

/-- The set of lockout causes (R58). -/
structure LockoutSet where
  ovSevere : Bool
  uvSevere : Bool
  ocRepeat : Bool
  strap : Bool
  deriving DecidableEq, Repr

/-- The protection record (R58). The DSG_OC clear timer holds the part time at which it is due. -/
structure Prot where
  level : ProtLevel
  active : CauseSet
  lockedOut : Bool
  lockout : LockoutSet
  dischargeOk : Bool
  chargeOk : Bool
  evaluated : Bool
  ocEvents : List Ms
  tOv : Option Ms
  tUv : Option Ms
  tOt : Option Ms
  tOc : Option Ms
  tChgCeiling : Option Ms
  tChgNeed : Option Ms
  tOvSevere : Option Ms
  tUvSevere : Option Ms
  senseTimer : Option Ms
  ocClear : Option Ms
  lastChange : Ms
  deriving DecidableEq, Repr

/-! ### Debris sensor (chapter 4) -/

/-- The dirt level (R86). -/
inductive DirtLevel where
  | clean | light | medium | heavy
  deriving DecidableEq, Repr

/-- The figures of the latest evaluated window; each may be ABSENT (R76). -/
structure LastWindow where
  speed : Option Nat
  band : Option Nat
  c : Option Nat
  n : Option Nat
  diff : Option Nat
  a : Option Nat
  r : Option Nat
  deriving DecidableEq, Repr

/-- The phases of a floor calibration (R90). -/
inductive CalPhase where
  | starting | seeking | counting
  deriving DecidableEq, Repr

/-- The record of the floor calibration in flight (R90). `staged` holds the floors of the bands done, band 1 first. -/
structure FloorCal where
  phase : CalPhase
  band : Nat
  target : Nat
  settle : Option Ms
  bandTimer : Option Ms
  windows : Nat
  countSum : Nat
  diffSum : Nat
  staged : List Nat
  candidate : Option Nat
  deriving DecidableEq, Repr

/-- The dirt settings (R77). -/
structure DirtLevels where
  light : Nat
  medium : Nat
  heavy : Nat
  hysteresis : Nat
  ga : Nat
  go : Nat
  binThreshold : Nat
  deriving DecidableEq, Repr

/-- The debris record (R76) with its settings (R77). An entry of the floor table that is not valid is `none`. -/
structure Debris where
  c : Nat
  last : LastWindow
  s : Nat
  d : Option Nat
  level : DirtLevel
  dirtyLogged : Bool
  clearRef : Nat
  floors : List (Option Nat)
  b : Nat
  binFull : Bool
  cal : Option FloorCal
  levels : DirtLevels
  acoustic : Nat
  windowTimer : Option Ms
  deriving DecidableEq, Repr

/-! ### Attachment identifier and roll drive (chapter 5) -/

/-- An entry of the attachment table (R101). -/
structure AttEntry where
  enabled : Bool
  idLow : Nat
  idHigh : Nat
  cls : Nat
  rollDuty : Nat
  rollCap : Nat
  jam : Nat
  suctionCap : Nat
  autoAllowed : Bool
  deriving DecidableEq, Repr

/-- What a reading of the ID line resolves to (R102): bare wand, unknown, or the entry of an index. -/
inductive MatchResult where
  | bare
  | unknown
  | entry (index : Nat)
  deriving DecidableEq, Repr

/-- The attachment table and the match record (R101, R103). -/
structure Att where
  entries : List AttEntry
  result : MatchResult
  voltage : Reading
  candidate : Option MatchResult
  count : Nat
  latest : Reading
  sampleTimer : Option Ms
  deriving DecidableEq, Repr

/-- The state of the roll drive (R106). -/
inductive RollState where
  | off | spinup | run | jamWait | jamLatched | fault
  deriving DecidableEq, Repr

/-- The roll record (R106). -/
structure Roll where
  state : RollState
  grantedDuty : Nat
  grant : Nat
  appliedDuty : Nat
  current : Reading
  jamCount : Nat
  jamTimer : Option Ms
  waitTimer : Option Ms
  faultCause : Option DriveFault
  enteredAt : Ms
  deriving DecidableEq, Repr

/-! ### Dock link (chapter 6) -/

/-- The stick session (R120). -/
inductive StickState where
  | detached | docked | charging
  deriving DecidableEq, Repr

/-- The dock session (R129). -/
inductive DockState where
  | vacant | hailing | bound | charging | evacuating | hold
  deriving DecidableEq, Repr

/-- The evacuation state that POLLs carry (R129). -/
inductive EvacState where
  | idle | running | done | failed | blocked
  deriving DecidableEq, Repr

/-- The charger state (R142). -/
inductive ChargerState where
  | off | softstart | cc | cv | fault
  deriving DecidableEq, Repr

/-- The dock fault flags (R131). -/
structure DockFlags where
  supplyLow : Bool
  chargerLatched : Bool
  fanFault : Bool
  deriving DecidableEq, Repr

/-- The fields of a HAIL (R130). -/
structure HailMsg where
  version : Nat
  budget : Nat
  flags : DockFlags
  deriving DecidableEq, Repr

/-- The fields of a POLL (R131). -/
structure PollMsg where
  charger : ChargerState
  vOut : Option Nat
  iOut : Reading
  evac : EvacState
  flags : DockFlags
  deriving DecidableEq, Repr

/-- The fields of an ANSWER (R122). -/
structure AnswerMsg where
  cells : Nat
  soc : Option Nat
  binLoad : Nat
  level : ProtLevel
  evacRequest : Bool
  deriving DecidableEq, Repr

/-- The fields of a NEED (R123). -/
structure NeedMsg where
  need : Need
  evacRequest : Bool
  level : ProtLevel
  soc : Option Nat
  deriving DecidableEq, Repr

/-- A contact frame that a HAIL or POLL is (R117). -/
inductive DockFrame where
  | hail
  | poll
  deriving DecidableEq, Repr

/-- The contact frame engine, shared by both roles (R117 to R119): the receiver (`none` while it discards bytes, else the
bytes after the start byte) and its gap measure, the stick's reply that waits and the part time at which it starts, the
frame being sent (with the kind of a dock frame), and the dock frame that an open window holds back. -/
structure Contact where
  rx : Option (List Byte)
  rxGap : Option Ms
  waiting : Option (List Byte)
  replyDue : Option Ms
  tx : Option (List Byte)
  txKind : Option DockFrame
  held : Option DockFrame
  deriving DecidableEq, Repr

/-- The stick binding record (R120). -/
structure StickBinding where
  version : Option Nat
  budget : Option Nat
  flags : DockFlags
  lastPoll : Option PollMsg
  seenDone : Bool
  deriving DecidableEq, Repr

/-- The session record in STICK role (R120). The silence timer holds the part time at which it is due. -/
structure Stick where
  state : StickState
  contactV : Option Nat
  presentTimer : Option Ms
  absentTimer : Option Ms
  silence : Option Ms
  evacRequest : Bool
  binding : Option StickBinding
  enteredAt : Ms
  deriving DecidableEq, Repr

/-- A run of the fan ends in one of three ways (R152). -/
inductive RunResult where
  | done | failed | blocked
  deriving DecidableEq, Repr

/-- The dock binding record (R129). -/
structure DockBinding where
  cells : Nat
  soc : Option Nat
  binLoad : Nat
  level : ProtLevel
  need : Option NeedMsg
  needTime : Ms
  missCount : Nat
  evacsDone : Nat
  evacResult : Option RunResult
  boundAt : Ms
  deriving DecidableEq, Repr

/-- The session record in DOCK role (R129). The timers and the reply window hold the part times at which they are due;
`window` names the frame whose answer is awaited. -/
structure Dock where
  state : DockState
  contactI : Option Nat
  presentTimer : Option Ms
  absentTimer : Option Ms
  hailCount : Nat
  noAnswerLogged : Bool
  hailTimer : Option Ms
  hailPeriod : Nat
  pollTimer : Option Ms
  window : Option DockFrame
  windowDue : Option Ms
  report : EvacState
  binding : Option DockBinding
  enteredAt : Ms
  deriving DecidableEq, Repr

/-- When the stick asks for an evacuation (R138). -/
inductive EvacPolicy where
  | never | whenFull | always
  deriving DecidableEq, Repr

/-- The four evacuation settings: policy, threshold, duration in s and power in W (R138). -/
structure EvacSettings where
  policy : EvacPolicy
  threshold : Nat
  duration : Nat
  power : Nat
  deriving DecidableEq, Repr

/-! ### Charger and evacuation (chapter 7) -/

/-- The charger's fault causes (R147). -/
inductive ChargerFault where
  | ovp | ocp | supplyUv
  deriving DecidableEq, Repr

/-- The dock supply split of one period (R141). -/
structure Split where
  budget : Nat
  fanDemand : Nat
  fanGrant : Nat
  allowance : Nat
  cap : Nat
  deriving DecidableEq, Repr

/-- The charger record, the dock supply budget and the last split (R140 to R142). -/
structure Charger where
  state : ChargerState
  target : Nat
  needLimit : Nat
  precharge : Bool
  setpoint : Nat
  vOut : Option Nat
  iOut : Reading
  supply : Option Nat
  faultCause : Option ChargerFault
  faultCount : Nat
  latched : Bool
  restartPending : Bool
  restartTimer : Option Ms
  ovpTimer : Option Ms
  ocpTimer : Option Ms
  enteredAt : Ms
  budget : Nat
  split : Option Split
  deriving DecidableEq, Repr

/-- The phase of the evacuation run (R149). -/
inductive RunPhase where
  | none | spinning | timing
  deriving DecidableEq, Repr

/-- The kind of an evacuation run (R149). -/
inductive RunKind where
  | counted | manual
  deriving DecidableEq, Repr

/-- The evacuation record (R149). The duration timer holds the part time at which it is due. `endMisses` is the model's own: the
miss count of a fan that the end DONE of the last run took out of RUN, by which a fault of the same instant is judged
(R152; log 59). -/
structure Evac where
  phase : RunPhase
  kind : Option RunKind
  duration : Option Nat
  durationTimer : Option Ms
  startTime : Option Ms
  lastResult : Option RunResult
  lastKind : Option RunKind
  lastEnd : Option Ms
  endMisses : Option Nat
  deriving DecidableEq, Repr

/-! ### Fault ring and mode controller (chapter 9) -/

/-- The source of a fault entry (R169). -/
inductive FaultSource where
  | channelA | channelB | packMonitor | debrisSensor | dockLink | charger | hostLink | modeController | store
  deriving DecidableEq, Repr

/-- The fault codes (section 11.4). -/
inductive FaultCode where
  | overcurrent | desync | stall | overspeed | startFail | cellOv | cellUv | dsgOt | dsgOc | chgOc | sense | ovSevere
  | uvSevere | ocRepeat | rollJam | rollShort | sensorDirty | noAnswer | needLost | ovp | ocp | supplyUv | hostSilent
  | strapInvalid | autoShip | verify | full
  deriving DecidableEq, Repr

/-- An entry of the fault ring (R169). -/
structure FaultEntry where
  seq : BitVec 32
  time : Ms
  source : FaultSource
  code : FaultCode
  value : Reading
  second : Option Reading
  deriving DecidableEq, Repr

/-- The reset kinds (R170). -/
inductive ResetKind where
  | powerOn | pin | request | shipWake
  deriving DecidableEq, Repr

/-- The reset cause record (R172). -/
structure CauseRecord where
  powerOn : Bool
  pin : Bool
  request : Bool
  shipWake : Bool
  lastKind : ResetKind
  deriving DecidableEq, Repr

/-- The power modes (R173). -/
inductive PowerMode where
  | active | standby | ship
  deriving DecidableEq, Repr

/-- The cause a MODE report carries (R173). -/
inductive ModeCause where
  | idle | request | drive | contact | lowCell
  deriving DecidableEq, Repr

/-- What the mode controller keeps (R169 to R175), with the limit lock record of the retention domain (R44). -/
structure Ctl where
  role : Role
  cells : BitVec 2
  ring : List FaultEntry
  nextSeq : BitVec 32
  partTime : Ms
  cause : CauseRecord
  power : PowerMode
  shipDecided : Bool
  standbyTimer : Option Ms
  lowCells : Nat
  lock : Option LockRecord
  deriving DecidableEq, Repr

/-! ### Host link (chapter 8) -/

/-- A request frame with a good check (R157). -/
structure HostFrame where
  kind : Byte
  payload : List Byte
  deriving DecidableEq, Repr

/-- A reply that waits; `resets` marks the reply of RESET_PART (R161). -/
structure Reply where
  kind : Byte
  payload : List Byte
  resets : Bool
  deriving DecidableEq, Repr

/-- The cause a DIRT report carries (R87). -/
inductive DirtCause where
  | level | binFull | binEmptied
  deriving DecidableEq, Repr

/-- The cause an ATTACHMENT report carries (R104). -/
inductive AttCause where
  | sample | tableWrite
  deriving DecidableEq, Repr

/-- The cause a stick's DOCK report carries (R126). -/
inductive StickCause where
  | contact | charger | hail | silence | evacuation
  deriving DecidableEq, Repr

/-- The cause a dock's DOCK report carries (R137). -/
inductive DockCause where
  | presence | answer | need | miss | evacuation
  deriving DecidableEq, Repr

/-- The result a DONE report carries (section 11.4). -/
inductive DoneResult where
  | ok | storeFailed | aborted | driveFault | noSpeed | done | failed | blocked
  deriving DecidableEq, Repr

/-- A report as it stands at its hand-over (R162), with the fields of its row in section 11.3. -/
inductive Report where
  | drive (cause : DriveCause) (state : DriveState) (mode : SuctionMode) (speed : Option Nat) (duty : Nat)
  | roll (cause : DriveCause) (state : RollState) (jamCount appliedDuty : Nat) (current : Reading)
  | protection (level : ProtLevel) (active : CauseSet) (lockout : LockoutSet) (dischargeOk chargeOk : Bool)
  | dirt (cause : DirtCause) (d : Option Nat) (level : Option DirtLevel) (b : Nat) (binFull : Bool)
  | stick (session : StickState) (evac : EvacState) (evacRequest : Bool) (cause : StickCause)
  | dock (session : DockState) (evac : EvacState) (missCount : Nat) (cause : DockCause)
  | attachment (result : MatchResult) (cls : Option Nat) (voltage : Reading) (cause : AttCause)
  | fault (entry : FaultEntry)
  | done (operation : Nat) (result : DoneResult) (detail : Nat)
  | mode (power : PowerMode) (cause : ModeCause)
  deriving DecidableEq, Repr

/-- The frame being sent on TXD (R161). -/
structure Sending where
  wire : List Byte
  resets : Bool
  deriving DecidableEq, Repr

/-- The host link record (R156). `rx` is `none` in HUNTING, else the bytes after the start byte. -/
structure HostLink where
  rxq : List HostFrame
  replies : List Reply
  reports : List Report
  mask : BitVec 8
  govSat : Bool
  overrun : Bool
  linkError : Bool
  faultNew : Bool
  errors : Nat
  rx : Option (List Byte)
  rxGap : Option Ms
  supPeriod : Nat
  supTimer : Option Ms
  tx : Option Sending
  deriving DecidableEq, Repr

/-! ### Calibration store (chapter 10) -/

/-- The kinds of store operation (R182). -/
inductive OpKind where
  | write | compaction | erase
  deriving DecidableEq, Repr

/-- The operation record (R182), with what the operation works on: the value of the record being written, the step of a
compaction in progress (1 to 5) and the generation it will write. `origin` is the KIND of the request that started it. -/
structure StoreOp where
  kind : OpKind
  segment : Nat
  tag : Nat
  origin : Nat
  value : List Byte
  step : Nat
  generation : Nat
  deriving DecidableEq, Repr

/-- The calibration store: its memory in canonical form (addresses strictly rising, no byte 0xFF listed), the append
position of each segment (`none` when it counts as full), the active segment, the factory lock and the operation in
flight (R181, R182). -/
structure Store where
  mem : List Host.Cell
  append : List (Option Nat)
  active : Option Nat
  factoryLock : Bool
  op : Option StoreOp
  deriving DecidableEq, Repr

end Sys2Proof.Machine
end

