-- ==== Sys2Proof/Machine/ResetValues.lean ====
section
/-! DEFINITION. The values each record takes at a reset, and the built-in defaults of the settings. -/

namespace Sys2Proof.Machine

/-- The attachment table's defaults (R101). -/
def defaultEntries : List AttEntry :=
  [⟨true, 400, 900, 1, 800, 2500, 3000, 500, true⟩,
   ⟨true, 1000, 1500, 2, 600, 1500, 3000, 420, true⟩,
   ⟨true, 1600, 2100, 3, 1000, 1200, 3000, 250, false⟩,
   ⟨true, 2200, 2700, 4, 0, 0, 3000, 420, false⟩,
   ⟨false, 0, 0, 0, 0, 0, 3000, 500, false⟩,
   ⟨false, 0, 0, 0, 0, 0, 3000, 500, false⟩,
   ⟨false, 0, 0, 0, 0, 0, 3000, 500, false⟩,
   ⟨false, 0, 0, 0, 0, 0, 3000, 500, false⟩]

/-- The default OCV table (R52). -/
def defaultOcv : List Nat := [3000, 3300, 3450, 3550, 3650, 3750, 3850, 4000, 4150]

/-- The drive record after a reset at part time `now` (R6, R7). The capture timer's value is given: the spec names no
reset value for it (log 6). -/
def Drive.atReset (now : Ms) (capture : Ticks) : Drive :=
  { state := .off, step := 0, ring := [], xref := none, speed := none, duty := 0, heldDuty := none,
    forcedPeriod := none, forcedIn := none, commIn := none, validCount := 0, missCount := 0, catchCount := none,
    attempts := 0, retryPending := false, startPending := false, blocked := false, zeroGrant := 0, stallTimer := none,
    overTimer := none, blockTimer := none, lastRunDuty := 0, speedAtStop := none, faultCause := none, released := none,
    owner := .none, busCurrent := .num 0, enteredAt := now, mode := .off,
    alignTimer := none, rampTimer := none, coastTimer := none, crossTimer := none, faultTimer := none,
    captureTimer := capture }

/-- An allowance or factor after a reset: 0 in STICK role, ABSENT in DOCK role (R25). -/
def zeroInStick : Role → Option Nat
  | .stick => some 0
  | .dock => none

/-- The governor record after a reset with the given settings (R25). -/
def Gov.atReset (role : Role) (powers : ModePowers) (kp ki : Nat) (limits : Limits) : Gov :=
  { allowance := zeroInStick role, fTp := zeroInStick role, fV := zeroInStick role, fTb := zeroInStick role,
    row1 := ⟨.overhead, 0, 0, none⟩,
    row2 := ⟨match role with | .stick => .roll | .dock => .fan, 0, 0, none⟩,
    row3 := ⟨match role with | .stick => .suction | .dock => .charger, 0, 0, none⟩,
    rollDuty := 0, pDem := 0, pAv := 0, pCmd := 0, pMeas := 0, e := 0, a := 0, residue := 0, prev := 0,
    saturated := false, pHold := none, vStart := none, handedDuty := 0,
    busSamples := CurrentSum.empty, rollSamples := CurrentSum.empty, timer := none, powers := powers, kp := kp,
    ki := ki, limits := limits }

/-- The roll record after a reset (R106). -/
def Roll.atReset (now : Ms) : Roll :=
  { state := .off, grantedDuty := 0, grant := 0, appliedDuty := 0, current := .num 0, jamCount := 0,
    jamTimer := none, waitTimer := none, faultCause := none, enteredAt := now }

/-- The empty set of active causes. -/
def CauseSet.empty : CauseSet := ⟨false, false, false, false, false, false⟩

/-- The empty set of lockout causes. -/
def LockoutSet.empty : LockoutSet := ⟨false, false, false, false⟩

/-- The protection record after a reset, with the retained lockout (R58): until the first publication both permissions
are false, and the level is LOCKOUT when locked out and DERATED otherwise. -/
def Prot.atReset (now : Ms) (lockedOut : Bool) (lockout : LockoutSet) : Prot :=
  { level := if lockedOut then .lockout else .derated, active := CauseSet.empty, lockedOut := lockedOut,
    lockout := lockout, dischargeOk := false, chargeOk := false, evaluated := false, ocEvents := [], tOv := none,
    tUv := none, tOt := none, tOc := none, tChgCeiling := none, tChgNeed := none, tOvSevere := none,
    tUvSevere := none, senseTimer := none, ocClear := none, lastChange := now }

/-- A window none of whose figures is known (R76). -/
def LastWindow.absent : LastWindow := ⟨none, none, none, none, none, none, none⟩

/-- The contact frame engine after a reset, which abandons every frame in transit (R170). -/
def Contact.atReset : Contact := ⟨none, none, none, none, none, none, none⟩

/-- The stick session after a reset (R120). -/
def Stick.atReset (now : Ms) : Stick :=
  { state := .detached, contactV := none, presentTimer := none, absentTimer := none, silence := none,
    evacRequest := false, binding := none, enteredAt := now }

/-- The dock session after a reset (R129). The hail timer is stopped; its period, which the entry to HAILING sets
before it is used, is the model's value (log 42). -/
def Dock.atReset (now : Ms) : Dock :=
  { state := .vacant, contactI := none, presentTimer := none, absentTimer := none, hailCount := 0,
    noAnswerLogged := false, hailTimer := none, hailPeriod := 250, pollTimer := none, window := none,
    windowDue := none, report := .idle, binding := none, enteredAt := now }

/-- The charger record after a reset with the given budget (R142). -/
def Charger.atReset (now : Ms) (budget : Nat) : Charger :=
  { state := .off, target := 0, needLimit := 0, precharge := false, setpoint := 0, vOut := none, iOut := .num 0,
    supply := none, faultCause := none, faultCount := 0, latched := false, restartPending := false,
    restartTimer := none, ovpTimer := none, ocpTimer := none, enteredAt := now, budget := budget, split := none }

/-- The evacuation record after a reset (R149). -/
def Evac.atReset : Evac := ⟨.none, none, none, none, none, none, none, none, none⟩

/-- The host link record after a reset with the given supervision period (R156): the mask has FAULT (bit 5) and DONE
(bit 6) set. -/
def HostLink.atReset (period : Nat) : HostLink :=
  { rxq := [], replies := [], reports := [], mask := 0x60, govSat := false, overrun := false, linkError := false,
    faultNew := false, errors := 0, rx := none, rxGap := none, supPeriod := period, supTimer := none, tx := none }

end Sys2Proof.Machine
end

