-- ==== Sys2Proof/Machine/State.lean ====
section
/-! DEFINITION. The state of the part as plain data, one record per block, the setter of its queue, and the state after
a power-on reset. -/

namespace Sys2Proof.Machine

open Sys2Proof

/-- Why the machine stops with a fault. No event stops this part: the spec gives every event an outcome, and what it
calls a fault is state (the FAULT states, the protection causes, the fault ring). Nothing raises one, so the type has
no constructor; that is safe. -/
inductive Fault where
  deriving DecidableEq, Repr

/-- Why a command has no meaning. -/
inductive Refusal where
  /-- The command has no meaning in the model yet. Only an arm of `exec` raises it, and none does; it is safe. -/
  | notModelled (mnemonic : String)
  deriving DecidableEq, Repr

/-- The state of the part, with the model's own queue of waiting commands and counter of free values. -/
structure State where
  ctl : Ctl
  host : HostLink
  drive : Drive
  gov : Gov
  pack : Pack
  prot : Prot
  debris : Debris
  att : Att
  roll : Roll
  contact : Contact
  stick : Stick
  dock : Dock
  evacSet : EvacSettings
  charger : Charger
  evac : Evac
  store : Store
  freeCount : Nat
  pending : List Instr
  deriving DecidableEq, Repr

/-- The state with another queue of waiting commands. -/
def State.withPending (s : State) (x : List Instr) : State := { s with pending := x }

/-- The part right after a power-on reset in STICK role with CELLS strap 0 (N = 6; log 2) and an erased store (log 3):
every setting is its built-in default, the scan timer is due at once (R49), and the ID sample timer (R102) and the
standby timer (R173) are running. -/
def State.reset : State :=
  { ctl :=
      { role := .stick, cells := 0, ring := [], nextSeq := 0, partTime := 0,
        cause := ⟨true, false, false, false, .powerOn⟩, power := .active, shipDecided := false,
        standbyTimer := some 30000, lowCells := 0, lock := none }
    host := HostLink.atReset 500
    drive := Drive.atReset 0 0
    gov := Gov.atReset .stick ⟨90, 180, 420, 300⟩ 96 8 ⟨25000, 2000, 4200, 3968⟩
    pack :=
      { record := none, q := 0, valid := false, acc := 0, capacity := 2500, restTimer := none, balance := [],
        full := false, fullTimer := none, need := ⟨25200, 0, false, .protection, false⟩, ocv := defaultOcv,
        offsets := [0, 0, 0, 0, 0, 0], scanTimer := some 0, scanning := false, lastScan := 0 }
    prot := Prot.atReset 0 false LockoutSet.empty
    debris :=
      { c := 0, last := LastWindow.absent, s := 0, d := none, level := .clean, dirtyLogged := false, clearRef := 0,
        floors := [none, none, none, none, none, none, none, none], b := 0, binFull := false, cal := none,
        levels := ⟨24, 72, 144, 8, 16, 32, 400000⟩, acoustic := 80, windowTimer := none }
    att :=
      { entries := defaultEntries, result := .unknown, voltage := .absent, candidate := none, count := 0,
        latest := .absent, sampleTimer := some 50 }
    roll := Roll.atReset 0
    contact := Contact.atReset
    stick := Stick.atReset 0
    dock := Dock.atReset 0
    evacSet := ⟨.whenFull, 400000, 8, 300⟩
    charger := Charger.atReset 0 360000
    evac := Evac.atReset
    store := { mem := [], append := [some 2, some 2, some 2, some 2], active := none, factoryLock := false, op := none }
    freeCount := 0
    pending := [] }

end Sys2Proof.Machine
end

