-- ==== Sys2Proof/Machine/Encode.lean ====
section
/-! DEFINITION. Encodings (chapter 11): fields as little-endian bytes, value codes, the codes of the enumerations and
sets, the checks of both links, and the reading of fields out of received bytes. -/

namespace Sys2Proof

/-- The value code a quantity takes in a 16-bit signed field: ABOVE or BELOW where it lies beyond −32,766..32,766
(R189). -/
def Reading.fit16 : Reading → Reading
  | .num n => if 32766 < n then .above else if n < -32766 then .below else .num n
  | .above => .above
  | .below => .below
  | .absent => .absent

end Sys2Proof

namespace Sys2Proof.Machine

open Sys2Proof

/-! ### Fields sent -/

/-- One byte. -/
def u8 (n : Nat) : List Byte := [BitVec.ofNat 8 n]

/-- Two bytes, least significant first (00_scope.md, 'Byte order'). A status value of 65,535, for which section 11.1 has no
number, goes out as 0xFFFF (DESIGN CHOICE, log 67). -/
def u16 (n : Nat) : List Byte := [BitVec.ofNat 8 n, BitVec.ofNat 8 (n / 256)]

/-- Three bytes, least significant first. -/
def u24 (n : Nat) : List Byte := u16 n ++ u8 (n / 65536)

/-- Four bytes, least significant first. The number 0xFFFFFFFF goes out as it is, which is also the code of ABSENT (DESIGN
CHOICE, log 67). -/
def u32 (n : Nat) : List Byte := u16 n ++ u16 (n / 65536)

/-- A signed 32-bit number (section 11.1). -/
def s32 (n : Int) : List Byte := u32 (BitVec.ofInt 32 n).toNat

/-- A Boolean: 0 false, 1 true (section 11.1). -/
def boolByte (b : Bool) : List Byte := u8 (if b then 1 else 0)

/-- A one-byte enumeration, index or number that may be ABSENT, sent as 0xFF: the code of section 11.1 for an enumeration
and an index. For a number of one byte that is neither (the windows and the band of a calibration, the duration in force,
the cells, the miss count, the evacuations done, the protocol version) section 11.1 gives none, and the model sends 0xFF
there too (DESIGN CHOICE, log 76). -/
def opt8 : Option Nat → List Byte
  | some n => u8 n
  | none => [0xFF]

/-- An unsigned 16-bit status value: 0xFFFF is ABSENT (section 11.1). -/
def opt16 : Option Nat → List Byte
  | some n => u16 n
  | none => [0xFF, 0xFF]

/-- An unsigned 32-bit value: 0xFFFFFFFF is ABSENT (section 11.1). Every 32-bit field that can be ABSENT is coded as an
unsigned one (DEDUCED, log 80). -/
def opt32 : Option Nat → List Byte
  | some n => u32 n
  | none => [0xFF, 0xFF, 0xFF, 0xFF]

/-- A part time that may be ABSENT. -/
def optMs (t : Option Ms) : List Byte := opt32 (t.map BitVec.toNat)

/-- A signed measurement of 16 bits (section 11.1): ABOVE 0x7FFF, BELOW 0x8001, ABSENT 0x8000. -/
def s16 (r : Reading) : List Byte :=
  match r.fit16 with
  | .num n => u16 (BitVec.ofInt 16 n).toNat
  | .above => u16 0x7FFF
  | .below => u16 0x8001
  | .absent => u16 0x8000

/-- A quantity that may be ABSENT as a reading. -/
def optReading : Option Nat → Reading
  | some n => .num n
  | none => .absent

/-- A speed in units of 10 rpm, truncated, or ABSENT; one above 327,660 rpm is ABOVE (R2, R189). -/
def speedReading : Option Nat → Reading
  | some v => if 327660 < v then .above else .num (v / 10 : Nat)
  | none => .absent

/-- A speed field (R189). -/
def speedField (speed : Option Nat) : List Byte := s16 (speedReading speed)

/-- A set: the n-th listed member is bit n (section 11.1). -/
def setCode : List Bool → Nat
  | [] => 0
  | b :: rest => (if b then 1 else 0) + 2 * setCode rest

/-! ### Codes of the enumerations (section 11.4) -/

/-- The code of a role. -/
def roleCode : Role → Nat
  | .stick => 0
  | .dock => 1

/-- The code of a suction mode. -/
def suctionModeCode : SuctionMode → Nat
  | .off => 0
  | .eco => 1
  | .med => 2
  | .boost => 3
  | .auto => 4

/-- The suction mode a code names (R23 refuses a value that is not one of the five). -/
def suctionModeOf : Nat → Option SuctionMode
  | 0 => some .off
  | 1 => some .eco
  | 2 => some .med
  | 3 => some .boost
  | 4 => some .auto
  | _ => none

/-- The code of a channel A state. -/
def driveStateCode : DriveState → Nat
  | .off => 0
  | .align => 1
  | .ramp => 2
  | .run => 3
  | .coast => 4
  | .fault => 5

/-- The code of a roll state. -/
def rollStateCode : RollState → Nat
  | .off => 0
  | .spinup => 1
  | .run => 2
  | .jamWait => 3
  | .jamLatched => 4
  | .fault => 5

/-- The code of an owner. -/
def ownerCode : Owner → Nat
  | .none => 0
  | .host => 1
  | .calibration => 2
  | .evacuation => 3

/-- The code of a drive fault cause. -/
def driveFaultCode : DriveFault → Nat
  | .overcurrent => 0
  | .desync => 1
  | .stall => 2
  | .overspeed => 3
  | .startFail => 4
  | .short => 5

/-- The code of a DRIVE cause. -/
def driveCauseCode : DriveCause → Nat
  | .request => 0
  | .rampDone => 1
  | .retry => 2
  | .catchDone => 3
  | .noGrant => 4
  | .coastEnd => 5
  | .release => 6
  | .dischargeLost => 7
  | .docked => 8
  | .hostSilent => 9
  | .calibration => 10
  | .evacuation => 11
  | .blocked => 12
  | .overcurrent => 13
  | .desync => 14
  | .stall => 15
  | .overspeed => 16
  | .startFail => 17
  | .jam => 18
  | .jamLatched => 19
  | .short => 20
  | .restart => 21

/-- The code of a protection level. -/
def protLevelCode : ProtLevel → Nat
  | .normal => 0
  | .derated => 1
  | .cutoff => 2
  | .lockout => 3

/-- The protection level a code names. -/
def protLevelOf : Nat → Option ProtLevel
  | 0 => some .normal
  | 1 => some .derated
  | 2 => some .cutoff
  | 3 => some .lockout
  | _ => none

/-- The code of a stick session state. -/
def stickStateCode : StickState → Nat
  | .detached => 0
  | .docked => 1
  | .charging => 2

/-- The code of a dock session state. -/
def dockStateCode : DockState → Nat
  | .vacant => 0
  | .hailing => 1
  | .bound => 2
  | .charging => 3
  | .evacuating => 4
  | .hold => 5

/-- The code of a dirt level. -/
def dirtLevelCode : DirtLevel → Nat
  | .clean => 0
  | .light => 1
  | .medium => 2
  | .heavy => 3

/-- The code of a power mode. -/
def powerModeCode : PowerMode → Nat
  | .active => 0
  | .standby => 1
  | .ship => 2

/-- The power mode a code names. -/
def powerModeOf : Nat → Option PowerMode
  | 0 => some .active
  | 1 => some .standby
  | 2 => some .ship
  | _ => none

/-- The code of a charger state. -/
def chargerStateCode : ChargerState → Nat
  | .off => 0
  | .softstart => 1
  | .cc => 2
  | .cv => 3
  | .fault => 4

/-- The charger state a code names. -/
def chargerStateOf : Nat → Option ChargerState
  | 0 => some .off
  | 1 => some .softstart
  | 2 => some .cc
  | 3 => some .cv
  | 4 => some .fault
  | _ => none

/-- The code of a charger fault cause. -/
def chargerFaultCode : ChargerFault → Nat
  | .ovp => 0
  | .ocp => 1
  | .supplyUv => 2

/-- The code of an evacuation state. -/
def evacStateCode : EvacState → Nat
  | .idle => 0
  | .running => 1
  | .done => 2
  | .failed => 3
  | .blocked => 4

/-- The evacuation state a code names. -/
def evacStateOf : Nat → Option EvacState
  | 0 => some .idle
  | 1 => some .running
  | 2 => some .done
  | 3 => some .failed
  | 4 => some .blocked
  | _ => none

/-- The code of an evacuation policy. -/
def policyCode : EvacPolicy → Nat
  | .never => 0
  | .whenFull => 1
  | .always => 2

/-- The policy a code names. -/
def policyOf : Nat → Option EvacPolicy
  | 0 => some .never
  | 1 => some .whenFull
  | 2 => some .always
  | _ => none

/-- The code of a NEED's reason. -/
def reasonCode : NeedReason → Nat
  | .none => 0
  | .full => 1
  | .temp => 2
  | .protection => 3
  | .cutoffChg => 4

/-- The reason a code names. -/
def reasonOf : Nat → Option NeedReason
  | 0 => some .none
  | 1 => some .full
  | 2 => some .temp
  | 3 => some .protection
  | 4 => some .cutoffChg
  | _ => none

/-- The code of a match result: NONE, UNKNOWN, ENTRY. -/
def matchCode : MatchResult → Nat
  | .bare => 0
  | .unknown => 1
  | .entry _ => 2

/-- The entry index of a match result, if it has one. -/
def matchIndex : MatchResult → Option Nat
  | .bare => none
  | .unknown => none
  | .entry i => some i

/-- The code of a calibration phase. -/
def calPhaseCode : CalPhase → Nat
  | .starting => 0
  | .seeking => 1
  | .counting => 2

/-- The code of a run phase. -/
def runPhaseCode : RunPhase → Nat
  | .none => 0
  | .spinning => 1
  | .timing => 2

/-- The code of a run kind. -/
def runKindCode : RunKind → Nat
  | .counted => 0
  | .manual => 1

/-- The code of a consumer. -/
def consumerCode : Consumer → Nat
  | .overhead => 0
  | .roll => 1
  | .suction => 2
  | .fan => 3
  | .charger => 4

/-- The code of a store operation kind. -/
def opKindCode : OpKind → Nat
  | .write => 0
  | .compaction => 1
  | .erase => 2

/-- The code of a DIRT cause. -/
def dirtCauseCode : DirtCause → Nat
  | .level => 0
  | .binFull => 1
  | .binEmptied => 2

/-- The code of an ATTACHMENT cause. -/
def attCauseCode : AttCause → Nat
  | .sample => 0
  | .tableWrite => 1

/-- The code of a MODE cause. -/
def modeCauseCode : ModeCause → Nat
  | .idle => 0
  | .request => 1
  | .drive => 2
  | .contact => 3
  | .lowCell => 4

/-- The code of a stick's DOCK cause. -/
def stickCauseCode : StickCause → Nat
  | .contact => 0
  | .charger => 1
  | .hail => 2
  | .silence => 3
  | .evacuation => 4

/-- The code of a dock's DOCK cause. -/
def dockCauseCode : DockCause → Nat
  | .presence => 0
  | .answer => 1
  | .need => 2
  | .miss => 3
  | .evacuation => 4

/-- The code of a DONE result. -/
def doneResultCode : DoneResult → Nat
  | .ok => 0
  | .storeFailed => 1
  | .aborted => 2
  | .driveFault => 3
  | .noSpeed => 4
  | .done => 5
  | .failed => 6
  | .blocked => 7

/-- A run's result as a DONE result (R152). -/
def runDoneResult : RunResult → DoneResult
  | .done => .done
  | .failed => .failed
  | .blocked => .blocked

/-- A run's result as the evacuation state that POLLs carry (R134). -/
def runEvacState : RunResult → EvacState
  | .done => .done
  | .failed => .failed
  | .blocked => .blocked

/-- The code of a run's result in DOCK_STATUS and CHARGER_STATUS: its evacuation state (section 11.4; log 39). -/
def runResultCode (r : RunResult) : Nat := evacStateCode (runEvacState r)

/-- The code of a fault source. -/
def faultSourceCode : FaultSource → Nat
  | .channelA => 0
  | .channelB => 1
  | .packMonitor => 2
  | .debrisSensor => 3
  | .dockLink => 4
  | .charger => 5
  | .hostLink => 6
  | .modeController => 7
  | .store => 8

/-- The code of a fault code. -/
def faultCodeCode : FaultCode → Nat
  | .overcurrent => 0
  | .desync => 1
  | .stall => 2
  | .overspeed => 3
  | .startFail => 4
  | .cellOv => 5
  | .cellUv => 6
  | .dsgOt => 7
  | .dsgOc => 8
  | .chgOc => 9
  | .sense => 10
  | .ovSevere => 11
  | .uvSevere => 12
  | .ocRepeat => 13
  | .rollJam => 14
  | .rollShort => 15
  | .sensorDirty => 16
  | .noAnswer => 17
  | .needLost => 18
  | .ovp => 19
  | .ocp => 20
  | .supplyUv => 21
  | .hostSilent => 22
  | .strapInvalid => 23
  | .autoShip => 24
  | .verify => 25
  | .full => 26

/-- The code of a reset kind (last kind). -/
def resetKindCode : ResetKind → Nat
  | .powerOn => 0
  | .pin => 1
  | .request => 2
  | .shipWake => 3

/-- The active cause set as a byte. -/
def causeSetCode (c : CauseSet) : Nat := setCode [c.cellOv, c.cellUv, c.dsgOt, c.dsgOc, c.chgOc, c.sense]

/-- The lockout cause set as a byte. -/
def lockoutCode (c : LockoutSet) : Nat := setCode [c.ovSevere, c.uvSevere, c.ocRepeat, c.strap]

/-- The dock fault flags as a byte. -/
def dockFlagsCode (f : DockFlags) : Nat := setCode [f.supplyLow, f.chargerLatched, f.fanFault]

/-- The dock fault flags that a byte spells; its unused bits must be zero (R117, R189). -/
def dockFlagsOf (n : Nat) : Option DockFlags :=
  if n < 8 then some ⟨n.testBit 0, n.testBit 1, n.testBit 2⟩ else none

/-- The reset cause flags as a byte. -/
def causeFlagsCode (c : CauseRecord) : Nat := setCode [c.powerOn, c.pin, c.request, c.shipWake]

/-! ### Results (section 11.2) -/

/-- The result of a taken request (R160). -/
inductive Result where
  | ok | accepted | clamped | busy | unknownKind | badLength | noncanonical | outOfRange | wrongRole | denied | locked
  deriving DecidableEq, Repr

/-- The code of a result. -/
def resultCode : Result → Nat
  | .ok => 0x00
  | .accepted => 0x01
  | .clamped => 0x02
  | .busy => 0x10
  | .unknownKind => 0x11
  | .badLength => 0x12
  | .noncanonical => 0x13
  | .outOfRange => 0x14
  | .wrongRole => 0x15
  | .denied => 0x16
  | .locked => 0x17

/-! ### Fields received -/

/-- The byte at an offset, as a number. -/
def byteAt (p : List Byte) (i : Nat) : Nat := (p.getD i 0).toNat

/-- The unsigned 16-bit field at an offset. -/
def u16At (p : List Byte) (i : Nat) : Nat := byteAt p i + 256 * byteAt p (i + 1)

/-- The unsigned 24-bit field at an offset. -/
def u24At (p : List Byte) (i : Nat) : Nat := u16At p i + 65536 * byteAt p (i + 2)

/-- The unsigned 32-bit field at an offset. -/
def u32At (p : List Byte) (i : Nat) : Nat := u16At p i + 65536 * u16At p (i + 2)

/-- The signed 16-bit field at an offset. -/
def s16At (p : List Byte) (i : Nat) : Int := (BitVec.ofNat 16 (u16At p i)).toInt

/-- The signed measurement at an offset, with its value codes (section 11.1). -/
def readingAt (p : List Byte) (i : Nat) : Reading :=
  if u16At p i = 0x7FFF then .above
  else if u16At p i = 0x8001 then .below
  else if u16At p i = 0x8000 then .absent
  else .num (s16At p i)

/-- The unsigned status value at an offset; 0xFFFF is ABSENT (section 11.1). -/
def opt16At (p : List Byte) (i : Nat) : Option Nat :=
  if u16At p i = 0xFFFF then none else some (u16At p i)

/-- The Boolean at an offset; a byte that is neither 0 nor 1 is no Boolean (section 11.1). -/
def boolAt (p : List Byte) (i : Nat) : Option Bool :=
  match byteAt p i with
  | 0 => some false
  | 1 => some true
  | _ => none

/-! ### Checks -/

/-- One shift of the host frame check: generator x^16 + x^12 + x^5 + 1 (R157). -/
def crc16Shift (c : BitVec 16) : BitVec 16 := if c.msb then (c <<< 1) ^^^ 0x1021 else c <<< 1

/-- A function applied a number of times. -/
def repeatStep {α : Type} (f : α → α) : Nat → α → α
  | 0, x => x
  | k + 1, x => repeatStep f k (f x)

/-- The check register after one byte, taken most significant bit first (R157). -/
def crc16Byte (c : BitVec 16) (b : Byte) : BitVec 16 :=
  repeatStep crc16Shift 8 (c ^^^ (b.setWidth 16 <<< 8))

/-- The check of a host frame over LEN, KIND and the payload, from 0xFFFF (R157). -/
def crc16 (bytes : List Byte) : BitVec 16 := bytes.foldl crc16Byte 0xFFFF

/-- One shift of the contact frame check: generator x^8 + x^2 + x + 1 (R117). -/
def crc8Shift (c : BitVec 8) : BitVec 8 := if c.msb then (c <<< 1) ^^^ 0x07 else c <<< 1

/-- The contact check register after one byte (R117). -/
def crc8Byte (c : BitVec 8) (b : Byte) : BitVec 8 := repeatStep crc8Shift 8 (c ^^^ b)

/-- The check of a contact frame over the kind, the length and the payload, from 0x00 (R117). -/
def crc8 (bytes : List Byte) : BitVec 8 := bytes.foldl crc8Byte 0x00

/-- A host frame on the line: start byte, LEN, KIND, payload, check low byte first (R157, section 11.2). -/
def hostWire (kind : Byte) (payload : List Byte) : List Byte :=
  let body := BitVec.ofNat 8 (payload.length + 1) :: kind :: payload
  0xA5 :: body ++ u16 (crc16 body).toNat

/-- A contact frame on the line: start byte, kind, length, payload, check (R117, section 11.5). -/
def contactWire (kind : Byte) (payload : List Byte) : List Byte :=
  let body := kind :: BitVec.ofNat 8 payload.length :: payload
  0x5A :: body ++ [crc8 body]

/-! ### Reports (section 11.3) -/

/-- A fault entry, 14 bytes (section 11.3, READ_FAULTS); the second value reads ABSENT where there is none (R176). -/
def faultEntryBytes (e : FaultEntry) : List Byte :=
  u32 e.seq.toNat ++ u32 e.time.toNat ++ u8 (faultSourceCode e.source) ++ u8 (faultCodeCode e.code) ++ s16 e.value
    ++ s16 (e.second.getD .absent)

/-- The permissions as a set: discharge, charge. -/
def permissionsCode (dischargeOk chargeOk : Bool) : Nat := setCode [dischargeOk, chargeOk]

/-- The code of a reported dirt level: 0xFF while ABSENT in a one-byte field (section 11.1). -/
def dirtLevelField (l : Option DirtLevel) : List Byte := opt8 (l.map dirtLevelCode)

/-- The report type, 0x01 to 0x08 (section 11.2). -/
def reportType : Report → Nat
  | .drive _ _ _ _ _ => 0x01
  | .roll _ _ _ _ _ => 0x01
  | .protection _ _ _ _ _ => 0x02
  | .dirt _ _ _ _ _ => 0x03
  | .stick _ _ _ _ => 0x04
  | .dock _ _ _ _ => 0x04
  | .attachment _ _ _ _ => 0x05
  | .fault _ => 0x06
  | .done _ _ _ => 0x07
  | .mode _ _ => 0x08

/-- The payload of a report: its type and the fields of its row in section 11.3. -/
def reportPayload (r : Report) : List Byte :=
  u8 (reportType r) ++
  match r with
  | .drive cause state mode speed duty =>
    u8 0 ++ u8 (driveCauseCode cause) ++ u8 (driveStateCode state) ++ u8 (suctionModeCode mode) ++ speedField speed
      ++ u16 duty
  | .roll cause state jamCount appliedDuty current =>
    u8 1 ++ u8 (driveCauseCode cause) ++ u8 (rollStateCode state) ++ u8 jamCount ++ u16 appliedDuty ++ s16 current
  | .protection level active lockout dischargeOk chargeOk =>
    u8 (protLevelCode level) ++ u8 (causeSetCode active) ++ u8 (lockoutCode lockout)
      ++ u8 (permissionsCode dischargeOk chargeOk)
  | .dirt cause d level b binFull =>
    u8 (dirtCauseCode cause) ++ opt16 d ++ dirtLevelField level ++ u32 b ++ boolByte binFull
  | .stick session evac evacRequest cause =>
    u8 (roleCode .stick) ++ u8 (stickStateCode session) ++ u8 (evacStateCode evac) ++ boolByte evacRequest
      ++ u8 (stickCauseCode cause)
  | .dock session evac missCount cause =>
    u8 (roleCode .dock) ++ u8 (dockStateCode session) ++ u8 (evacStateCode evac) ++ u8 missCount
      ++ u8 (dockCauseCode cause)
  | .attachment result cls voltage cause =>
    u8 (matchCode result) ++ opt8 (matchIndex result) ++ opt8 cls ++ s16 voltage ++ u8 (attCauseCode cause)
  | .fault entry => faultEntryBytes entry
  | .done operation result detail => u8 operation ++ u8 (doneResultCode result) ++ u8 detail
  | .mode power cause => u8 (powerModeCode power) ++ u8 (modeCauseCode cause)

/-- A report on the line: KIND 0x80 (R162). -/
def reportWire (r : Report) : List Byte := hostWire 0x80 (reportPayload r)

end Sys2Proof.Machine
end

