-- ==== Sys2Proof/Machine/Operands.lean ====
section
/-! DEFINITION. The forms of the operands: how raw measurements become readings, how readings compare with thresholds,
and how fields are clamped into their ranges. -/

namespace Sys2Proof

/-! ### Comparison of readings: ABOVE is higher than every number, BELOW lower, and ABSENT meets no comparison (R59) -/

/-- The reading is above a threshold. -/
def Reading.gt : Reading → Int → Bool
  | .num n, x => decide (x < n)
  | .above, _ => true
  | .below, _ => false
  | .absent, _ => false

/-- The reading is at or above a threshold. -/
def Reading.ge : Reading → Int → Bool
  | .num n, x => decide (x ≤ n)
  | .above, _ => true
  | .below, _ => false
  | .absent, _ => false

/-- The reading is below a threshold. -/
def Reading.lt : Reading → Int → Bool
  | .num n, x => decide (n < x)
  | .above, _ => false
  | .below, _ => true
  | .absent, _ => false

/-- The reading is a number below a threshold. -/
def Reading.numLt : Reading → Int → Bool
  | .num n, x => decide (n < x)
  | .above, _ => false
  | .below, _ => false
  | .absent, _ => false

/-- The reading is a number of at least a threshold. -/
def Reading.numGe : Reading → Int → Bool
  | .num n, x => decide (x ≤ n)
  | .above, _ => false
  | .below, _ => false
  | .absent, _ => false

/-- The reading is a number with magnitude below a bound. -/
def Reading.within : Reading → Nat → Bool
  | .num n, x => decide (n.natAbs < x)
  | .above, _ => false
  | .below, _ => false
  | .absent, _ => false

/-- The reading is a number. -/
def Reading.isNum : Reading → Bool
  | .num _ => true
  | .above => false
  | .below => false
  | .absent => false

/-- The reading is ABSENT. -/
def Reading.isAbsent : Reading → Bool
  | .absent => true
  | .num _ => false
  | .above => false
  | .below => false

/-- The number of a reading, if it is one. -/
def Reading.toInt? : Reading → Option Int
  | .num n => some n
  | .above => none
  | .below => none
  | .absent => none

end Sys2Proof

namespace Sys2Proof.Machine

open Sys2Proof

/-! ### Ranges -/

/-- A number limited to a range, both ends included (00_scope.md, 'Units'). -/
def clampNat (lo hi n : Nat) : Nat := max lo (min hi n)

/-- An integer limited to a range. -/
def clampInt (lo hi n : Int) : Int := max lo (min hi n)

/-! ### Formation of readings (R50) -/

/-- A cell reading: the raw tap voltage plus the cell offset; below 500 mV ABSENT, above 5,000 mV ABOVE. -/
def cellReading (raw offset : Int) : Reading :=
  if raw + offset < 500 then .absent else if 5000 < raw + offset then .above else .num (raw + offset)

/-- The pack voltage: a number in 0..32,766 mV, or ABOVE. -/
def packVoltageReading (raw : Int) : Reading := if 32766 < raw then .above else .num raw

/-- The pack current: a number in −50,000..20,000 mA, BELOW or ABOVE. -/
def packCurrentReading (raw : Int) : Reading :=
  if raw < -50000 then .below else if 20000 < raw then .above else .num raw

/-- A temperature: a number in −400..1,250, BELOW, ABOVE, or ABSENT for an open thermistor. -/
def temperatureReading : Option Int → Reading
  | none => .absent
  | some t => if t < -400 then .below else if 1250 < t then .above else .num t

/-- A roll current reading above 10,000 mA is ABOVE (R106). -/
def rollReading : Reading → Reading
  | .num n => if 10000 < n then .above else .num n
  | .above => .above
  | .below => .below
  | .absent => .absent

/-- A current reading joins those of the period in progress (R13, R106). -/
def CurrentSum.add (c : CurrentSum) (r : Reading) : CurrentSum :=
  ⟨c.sum + (r.toInt?.getD 0).toNat, c.count + 1, c.above || decide (r = .above)⟩

/-- The mean of the current readings of a period: 0 when there are none, ABOVE when one of them was ABOVE (R13, R106;
log 12). -/
def meanReading (c : CurrentSum) : Reading := if c.above then .above else .num (c.sum / c.count : Nat)

/-- The mean bus current lies in 0..45,000 mA or is ABOVE (R6; log 12). -/
def busMean (c : CurrentSum) : Reading := if 45000 < c.sum / c.count then .above else meanReading c

/-! ### Derived readings of a pack record -/

/-- The higher of two temperatures, BELOW being lower than any number (R28). -/
def higherTemp : Reading → Reading → Reading
  | .num a, .num b => .num (max a b)
  | .num a, _ => .num a
  | _, .num b => .num b
  | a, _ => a

/-- T_pack: ABSENT when either thermistor is ABSENT, else ABOVE when either is ABOVE, else the larger (R28). -/
def tPack (t1 t2 : Reading) : Reading :=
  if t1.isAbsent || t2.isAbsent then .absent
  else if decide (t1 = .above) || decide (t2 = .above) then .above
  else higherTemp t1 t2

/-- The smallest number among cell readings (R59). -/
def lowestCell (cells : List Reading) : Option Int := (cells.filterMap Reading.toInt?).min?

/-- Vmin as the governor derives it: BELOW when any cell is ABSENT or BELOW, ABOVE when every cell is ABOVE, else the
smallest number (R28). -/
def vMin (cells : List Reading) : Reading :=
  if cells.any (fun r => r.isAbsent || decide (r = .below)) then .below
  else match lowestCell cells with
    | some v => .num v
    | none => .above

/-- The highest cell: ABOVE when any cell is ABOVE, else the largest number (R59). -/
def highestCell (cells : List Reading) : Option Reading :=
  if cells.any (fun r => decide (r = .above)) then some .above
  else ((cells.filterMap Reading.toInt?).max?).map Reading.num

/-- The index, from 1, of the first reading equal to the given one (R68: the lowest index among equals). -/
def cellIndex (cells : List Reading) (r : Reading) : Nat := cells.findIdx (fun x => decide (x = r)) + 1

/-- A condition about the highest cell (R59): not met when no cell gives a reading to compare. -/
def highestAbove (cells : List Reading) (mV : Int) : Bool :=
  match highestCell cells with
  | some r => r.gt mV
  | none => false

/-- The sum of the numbers among cell readings. -/
def cellSum (cells : List Reading) : Int := (cells.filterMap Reading.toInt?).sum

end Sys2Proof.Machine
end

