-- ==== Sys2Proof/Machine/Ops.lean ====
section
/-! DEFINITION. The named operations that every block uses: part time, the straps, the fault ring, the hand-over of reports,
the power mode, the timers that follow a condition of the state, the transmitter, and what one event is. -/

namespace Sys2Proof.Machine

open Sys2Proof

/-! ### Part time (R170) -/

/-- Part time. -/
def State.now (s : State) : Ms := s.ctl.partTime

/-- The part time a number of milliseconds from now: when a timer started now is due. -/
def State.after (s : State) (ms : Nat) : Ms := s.ctl.partTime + BitVec.ofNat 32 ms

/-- The milliseconds since a part time, as a difference modulo 2^32 (R170). -/
def State.since (s : State) (t : Ms) : Nat := (s.ctl.partTime - t).toNat

/-- Part time has reached a due time: the difference modulo 2^32 (R170) is below one half of the circle (log 4). -/
def State.reached (s : State) (due : Ms) : Bool := decide (s.since due < 2147483648)

/-- A run of evaluations of a condition with a qualifying time (R20, R21, R109, R147): the condition timer after this
evaluation, the part time of the first evaluation of the run, and whether the qualifying time has passed since then. Only
an evaluation at which the condition does not hold makes the timer absent. -/
def holdTimer (now : Ms) (timer : Option Ms) (holds : Bool) (time : Nat) : Option Ms × Bool :=
  match holds, timer with
  | false, _ => (none, false)
  | true, none => (some now, false)
  | true, some t => (some t, decide (time ≤ (now - t).toNat))

/-- The same for a condition whose timer becomes absent when it has qualified (R59; log 48). -/
def qualify (now : Ms) (timer : Option Ms) (holds : Bool) (time : Nat) : Option Ms × Bool :=
  let j := holdTimer now timer holds time
  (if j.2 then none else j.1, j.2)

/-- One millisecond passes with no command waiting: part time rises by one in ACTIVE and STANDBY and stands in SHIP
(R170), and the capture timer counts its 10,000 ticks (R1). DESIGN CHOICE, log 1 and log 6. -/
def tick (s : State) : State :=
  if s.ctl.power = .ship then s
  else { s with ctl := { s.ctl with partTime := s.ctl.partTime + 1 },
                drive := { s.drive with captureTimer := s.drive.captureTimer + 10000 } }

/-! ### Straps (R171) -/

/-- The part is in STICK role. -/
def State.isStick (s : State) : Bool := decide (s.ctl.role = .stick)

/-- The part is in DOCK role. -/
def State.isDock (s : State) : Bool := decide (s.ctl.role = .dock)

/-- The cell count N: 6, 7 or 8, and 0 in DOCK role or with an invalid CELLS strap (R165, R171). -/
def cellCountOf (role : Role) (cells : BitVec 2) : Nat :=
  if role = .dock then 0 else if cells = 3 then 0 else 6 + cells.toNat

/-- The cell count N of the part. -/
def State.cellCount (s : State) : Nat := cellCountOf s.ctl.role s.ctl.cells

/-- The pack monitor runs: STICK role with a valid CELLS strap (R49, R67). -/
def State.packRuns (s : State) : Bool := s.isStick && decide (s.ctl.cells ≠ 3)

/-! ### Reports and faults (R162, R169) -/

/-- A block hands a report to the host link: discarded when its type is clear in the mask, queued while fewer than 8 are
queued, else dropped with REPORT_OVERRUN set (R162). -/
def handReport (r : Report) (s : State) : State :=
  if s.host.mask.getLsbD (reportType r - 1) then
    if s.host.reports.length < 8 then { s with host := { s.host with reports := s.host.reports ++ [r] } }
    else { s with host := { s.host with overrun := true } }
  else s

/-- The ring with an entry placed last; the oldest of 16 is removed (R169). -/
def ringAppend (ring : List FaultEntry) (e : FaultEntry) : List FaultEntry :=
  if ring.length < 16 then ring ++ [e] else ring.drop (ring.length - 15) ++ [e]

/-- A block appends a fault entry (R169): it takes the next sequence number, FAULT_NEW is set and a FAULT report is
handed over. The value is a 16-bit measurement, so a number beyond its range is held as ABOVE or BELOW. -/
def appendFault (source : FaultSource) (code : FaultCode) (value : Reading) (second : Option Reading) (s : State) :
    State :=
  let e : FaultEntry := ⟨s.ctl.nextSeq, s.now, source, code, value.fit16, second.map Reading.fit16⟩
  handReport (.fault e)
    { s with ctl := { s.ctl with ring := ringAppend s.ctl.ring e, nextSeq := s.ctl.nextSeq + 1 },
             host := { s.host with faultNew := true } }

/-! ### Free values -/

/-- The free byte of the next number, whose low bits stand in a Boolean or set field of an absent record (log 17). -/
def State.freeByte (s : State) (offset : Nat) : Byte := Config.freeByte s.freeCount offset

/-- The counter of free values moves on, so that the next free value is another one. -/
def nextFree (s : State) : State := { s with freeCount := s.freeCount + 1 }

/-! ### Power mode (R173) -/

/-- An ACTIVE cause: in STANDBY the part returns to ACTIVE with a MODE report; the low-cell count becomes 0 (R174) and the
scan timer expires at once (R49). After the SHIP decision it changes no power mode (R175). -/
def enterActive (cause : ModeCause) (s : State) : State :=
  if s.ctl.power = .standby ∧ s.ctl.shipDecided = false then
    handReport (.mode .active cause)
      { s with ctl := { s.ctl with power := .active, lowCells := 0 },
               pack := { s.pack with scanTimer := if s.packRuns then some s.now else none } }
  else s

/-- The part enters STANDBY with a MODE report (R173): the standby timer stops, and the next scan comes 1,000 ms after the
start of the last one (R49). Taken in STANDBY, SET_POWER_MODE STANDBY enters ACTIVE, where the scan timer would expire at
once, and STANDBY again in one event (R180): the model starts no scan, and this entry sets the timer anew (DESIGN CHOICE,
log 73). -/
def enterStandby (cause : ModeCause) (s : State) : State :=
  handReport (.mode .standby cause)
    { s with ctl := { s.ctl with power := .standby, standbyTimer := none },
             pack := { s.pack with scanTimer := if s.packRuns then some (s.pack.lastScan + 1000) else none } }

/-- The SHIP decision (R175): the pack scan, the standby timer and the supervision timer stop, a scan in progress is
abandoned (R49), and the host link ceases to take requests; a MODE report is handed over. -/
def shipDecision (cause : ModeCause) (s : State) : State :=
  handReport (.mode .ship cause)
    { s with ctl := { s.ctl with shipDecided := true, standbyTimer := none },
             pack := { s.pack with scanTimer := none, scanning := false },
             host := { s.host with supTimer := none } }

/-- The idle condition of R173. -/
def State.idle (s : State) : Bool :=
  match s.ctl.role with
  | .stick =>
    decide (s.drive.state = .off) && decide (s.roll.state = .off) && s.debris.cal.isNone && s.store.op.isNone
      && decide (s.stick.state ≠ .charging)
  | .dock =>
    decide (s.drive.state = .off) && decide (s.charger.state = .off) && decide (s.evac.phase = .none)
      && s.store.op.isNone && decide (s.dock.state = .vacant)

/-! ### Timers that run while a condition holds -/

/-- A timer that runs while a condition holds: it starts in the event in which the condition begins to hold, runs on
while it holds, and stops in the event in which it ceases. -/
def follow (condition : Bool) (timer : Option Ms) (start : Ms) : Option Ms :=
  if condition then some (timer.getD start) else none

/-- The governor's period timer runs (R26). -/
def State.govRuns (s : State) : Bool :=
  decide (s.ctl.power = .active) &&
  match s.ctl.role with
  | .stick => decide (s.drive.state ≠ .off) || decide (s.roll.state ≠ .off)
  | .dock => decide (s.drive.state ≠ .off) || decide (s.charger.state ≠ .off)

/-- The drive is in ALIGN, RAMP or RUN. -/
def DriveState.drives : DriveState → Bool
  | .align => true
  | .ramp => true
  | .run => true
  | .off => false
  | .coast => false
  | .fault => false

/-- The host supervision timer runs (R164); it has stopped at a SHIP decision (R175). -/
def State.supervised (s : State) : Bool :=
  s.isStick && !s.ctl.shipDecided && (s.drive.state.drives || decide (s.roll.state ≠ .off))

/-- The standby timer runs (R173); it has stopped at a SHIP decision (R175). -/
def State.standbyRuns (s : State) : Bool := decide (s.ctl.power = .active) && !s.ctl.shipDecided && s.idle

/-- The ID sample timer runs (R102). -/
def State.samplesId (s : State) : Bool := decide (s.ctl.power = .active) && s.isStick

/-- The governor with its period timer stopped: V_start is absent (R26), and the readings of the period cut off join no
mean, since a mean is of the readings of the period just ended (R13, R106). -/
def Gov.stopped (g : Gov) : Gov :=
  { g with timer := none, vStart := none, busSamples := CurrentSum.empty, rollSamples := CurrentSum.empty }

/-- The governor's period timer follows its running condition (R26). -/
def Gov.follow (runs : Bool) (start : Ms) (g : Gov) : Gov :=
  if runs then { g with timer := some (g.timer.getD start) } else g.stopped

/-- The timers that follow a condition, after an event. The condition is judged once, as the event leaves the state: one
that ceases and holds again within the event has not ceased, so that an entry to OFF that goes on to ALIGN (R9) leaves the
period timer running and V_start held (DESIGN CHOICE, log 55). They are the governor's period timer (R26), the
supervision timer (R164), the standby timer (R173) and the ID sample timer (R102). -/
def followTimers (s : State) : State :=
  { s with
    gov := s.gov.follow s.govRuns (s.after 1),
    host := { s.host with supTimer := follow s.supervised s.host.supTimer (s.after s.host.supPeriod) },
    ctl := { s.ctl with standbyTimer := follow s.standbyRuns s.ctl.standbyTimer (s.after 30000) },
    att := { s.att with sampleTimer := follow s.samplesId s.att.sampleTimer (s.after 50) } }

/-! ### Transmitter (R161) -/

/-- An idle transmitter starts the oldest waiting reply, or failing that the oldest waiting report; the frame leaves its
queue as its transmission begins (R161). It chooses once an event is over (log 11). -/
def startFrame (s : State) : State :=
  match s.host.tx, s.host.replies, s.host.reports with
  | some _, _, _ => s
  | none, r :: rest, _ =>
    { s with host := { s.host with replies := rest, tx := some ⟨hostWire r.kind r.payload, r.resets⟩ } }
  | none, [], r :: rest => { s with host := { s.host with reports := rest, tx := some ⟨reportWire r, false⟩ } }
  | none, [], [] => s

/-- After the SHIP decision, the part is in SHIP once no frame is queued or being sent (R175): part time stops, the UART
is off, every output is inactive, so the balance set is empty (R69) and the contact link sends nothing and listens to
nothing, and every timer that follows a power mode stops. -/
def enterShipIfDrained (s : State) : State :=
  if s.ctl.shipDecided && s.host.tx.isNone && s.host.replies.isEmpty && s.host.reports.isEmpty then
    { s with ctl := { s.ctl with power := .ship, shipDecided := false }, att := { s.att with sampleTimer := none },
             gov := s.gov.stopped, host := { s.host with rx := none, rxGap := none },
             pack := { s.pack with balance := [] }, contact := Contact.atReset }
  else s

/-- What follows every event within it. -/
def settle (s : State) : State := enterShipIfDrained (startFrame (followTimers s))

/-- ALERTn is low while a report waits, and released in SHIP (R162). -/
def State.alertLow (s : State) : Bool := !s.host.reports.isEmpty && decide (s.ctl.power ≠ .ship)

/-! ### Events -/

/-- One event of the part: it occurs only where its condition holds, and never in SHIP, where the blocks stop (R175). An
event that cannot occur changes nothing (log 5). -/
def event (occurs : Bool) (effect : State → State) (s : State) : Host.Outcome State Fault Refusal :=
  if occurs && decide (s.ctl.power ≠ .ship) then .next (settle (effect s)) else .next s

end Sys2Proof.Machine
end

