-- ==== Sys2Proof/Machine/Memory.lean ====
section
/-! DEFINITION. The nonvolatile memory of the calibration store: 2,048 bytes in four segments, as a list of cells in one
canonical form, with the scan and the lookup of R181. -/

namespace Sys2Proof.Machine

open Sys2Proof

/-! ### Bytes -/

/-- What an unlisted address reads as: an erased byte (R181). -/
def erased : Byte := 0xFF

/-- The number of bytes of the store (chapter 10). -/
def storeSize : Nat := 2048

/-- The byte at an address. -/
def memRead : List Host.Cell → Nat → Byte
  | [], _ => erased
  | (k, v) :: rest, a => if k = a then v else memRead rest a

/-- A byte written at an address of the store, in canonical form: an erased byte is not listed. -/
def memInsert : List Host.Cell → Nat → Byte → List Host.Cell
  | [], a, v => if v = erased then [] else [(a, v)]
  | (k, w) :: rest, a, v =>
    if a < k then (if v = erased then (k, w) :: rest else (a, v) :: (k, w) :: rest)
    else if a = k then (if v = erased then rest else (k, v) :: rest)
    else (k, w) :: memInsert rest a v

/-- A write of one byte. The spec gives the store no address of 2,048 or more, and no operation forms one. -/
def memWrite (mem : List Host.Cell) (a : Nat) (v : Byte) : List Host.Cell :=
  if a < storeSize then memInsert mem a v else mem

/-- Bytes written in order from an address. -/
def memWriteList : List Host.Cell → Nat → List Byte → List Host.Cell
  | mem, _, [] => mem
  | mem, a, v :: rest => memWriteList (memWrite mem a v) (a + 1) rest

/-- The addresses rise strictly, from a bound up, stay in the store, and no listed byte is an erased one. -/
def memWfFrom : Nat → List Host.Cell → Bool
  | _, [] => true
  | lo, (k, v) :: rest => decide (lo ≤ k) && decide (k < storeSize) && decide (v ≠ erased) && memWfFrom (k + 1) rest

/-- The canonical form of the store's memory. -/
def memWf (mem : List Host.Cell) : Bool := memWfFrom 0 mem

/-! ### Segments (R181, section 11.6) -/

/-- The number of bytes of a segment. -/
def segSize : Nat := 512

/-- The byte at an offset of a segment. -/
def segByte (mem : List Host.Cell) (seg off : Nat) : Byte := memRead mem (seg * segSize + off)

/-- Bytes of a segment from an offset. -/
def segBytes (mem : List Host.Cell) (seg : Nat) : Nat → Nat → List Byte
  | _, 0 => []
  | off, k + 1 => segByte mem seg off :: segBytes mem seg (off + 1) k

/-- Bytes written in a segment from an offset. -/
def segWrite (mem : List Host.Cell) (seg off : Nat) (bytes : List Byte) : List Host.Cell :=
  memWriteList mem (seg * segSize + off) bytes

/-- A segment cleared to 0xFF: the cells of its addresses leave the list. -/
def segClear (mem : List Host.Cell) (seg : Nat) : List Host.Cell :=
  mem.filter (fun c => !(decide (seg * segSize ≤ c.1) && decide (c.1 < seg * segSize + segSize)))

/-- The header of a segment (section 11.6). -/
def segHeader (mem : List Host.Cell) (seg : Nat) : Nat :=
  (segByte mem seg 0).toNat + 256 * (segByte mem seg 1).toNat

/-- The header of a segment written. -/
def writeHeader (mem : List Host.Cell) (seg value : Nat) : List Host.Cell := segWrite mem seg 0 (u16 value)

/-- The generation a user segment holds: 1..65,534; a header of 0 or 0xFFFF holds none (R181). -/
def generation (mem : List Host.Cell) (seg : Nat) : Option Nat :=
  if segHeader mem seg = 0 ∨ segHeader mem seg = 0xFFFF then none else some (segHeader mem seg)

/-- The better of a user segment and the best one so far, by generation (log 29 for a tie). -/
def betterSegment (mem : List Host.Cell) (best : Option Nat) (seg : Nat) : Option Nat :=
  match generation mem seg, best with
  | none, b => b
  | some _, none => some seg
  | some g, some b => if (generation mem b).getD 0 < g then some seg else some b

/-- The active segment: the user segment holding the highest generation, or none (R181). -/
def activeOf (mem : List Host.Cell) : Option Nat := [1, 2, 3].foldl (betterSegment mem) none

/-! ### Records (section 10.1) -/

/-- The tags with their value lengths (section 10.1, table). -/
def tagLength (tag len : Nat) : Bool :=
  match tag with
  | 0x01 => decide (len = 6)
  | 0x02 => decide (len = 8)
  | 0x03 => decide (len = 12 ∨ len = 14 ∨ len = 16)
  | 0x04 => decide (len = 16)
  | 0x05 => decide (len = 2)
  | 0x06 => decide (len = 8)
  | 0x07 => decide (len = 9)
  | 0x08 => decide (len = 8)
  | 0x09 => decide (len = 4)
  | 0x0A => decide (len = 18)
  | 0x0B => decide (len = 1)
  | 0xFE => decide (len = 1)
  | t => decide (0x10 ≤ t ∧ t ≤ 0x17) && decide (len = 14)

/-- The tag is listed in the table of section 10.1. -/
def tagListed (tag : Nat) : Bool :=
  decide (0x01 ≤ tag ∧ tag ≤ 0x0B) || decide (0x10 ≤ tag ∧ tag ≤ 0x17) || decide (tag = 0xFE)

/-- Every listed tag, in increasing order. -/
def allTags : List Nat :=
  [0x01, 0x02, 0x03, 0x04, 0x05, 0x06, 0x07, 0x08, 0x09, 0x0A, 0x0B, 0x10, 0x11, 0x12, 0x13, 0x14, 0x15, 0x16, 0x17,
   0xFE]

/-- The sum of bytes modulo 256. -/
def byteSum (bytes : List Byte) : Byte := bytes.foldl (· + ·) 0

/-- The bytes of a record: tag, length, value, and the check that makes the byte sum 0 modulo 256 (R181). -/
def recordBytes (tag : Nat) (value : List Byte) : List Byte :=
  let body := BitVec.ofNat 8 tag :: BitVec.ofNat 8 value.length :: value
  body ++ [-(byteSum body)]

/-- A record found by the scan that is valid: its check is right and its tag is listed with its length, and a
FACTORY_LOCK lies in segment 0 (R181). -/
structure Rec where
  tag : Nat
  value : List Byte
  deriving DecidableEq, Repr

/-- The record at a position is valid (R181). -/
def recordValid (seg tag len : Nat) (bytes : List Byte) : Bool :=
  decide (byteSum bytes = 0) && tagLength tag len && (decide (tag ≠ 0xFE) || decide (seg = 0))

/-- A valid record stands at a position of a segment (R181). -/
def recordStands (mem : List Host.Cell) (seg pos : Nat) : Bool :=
  let len := (segByte mem seg (pos + 1)).toNat
  recordValid seg (segByte mem seg pos).toNat len (segBytes mem seg pos (len + 3))

/-- The scan of a segment from a position (R181): its valid records in order, and its append position, which is `none`
when the segment counts as full. The first argument bounds the number of records, each of at least four bytes. -/
def scanFrom (mem : List Host.Cell) (seg : Nat) : Nat → Nat → List Rec × Option Nat
  | 0, pos => ([], some pos)
  | fuel + 1, pos =>
    if segSize ≤ pos then ([], some pos)
    else
      let tag := (segByte mem seg pos).toNat
      let len := (segByte mem seg (pos + 1)).toNat
      if tag = 0xFF then ([], some pos)
      else if tag = 0 ∨ segSize ≤ pos + 1 ∨ len = 0 ∨ 60 < len ∨ segSize < pos + len + 3 then ([], none)
      else
        let bytes := segBytes mem seg pos (len + 3)
        let rest := scanFrom mem seg fuel (pos + len + 3)
        if recordValid seg tag len bytes then (⟨tag, (bytes.drop 2).take len⟩ :: rest.1, rest.2) else rest

/-- The scan of a segment from its first record (R181). -/
def scanSegment (mem : List Host.Cell) (seg : Nat) : List Rec × Option Nat := scanFrom mem seg 128 2

/-- The last valid record of a tag in a segment. -/
def lastRecord (mem : List Host.Cell) (seg tag : Nat) : Option (List Byte) :=
  (((scanSegment mem seg).1.filter (fun r => decide (r.tag = tag))).getLast?).map Rec.value

/-- A segment, if it holds a generation and a valid record of the tag, against the best one so far. -/
def betterHolder (mem : List Host.Cell) (tag : Nat) (best : Option Nat) (seg : Nat) : Option Nat :=
  if (lastRecord mem seg tag).isSome then betterSegment mem best seg else best

/-- Lookup of a tag (R181): the valid record of the highest generation among the user segments that hold one, the later
position within a segment; else the last valid record in segment 0; else nothing. -/
def lookup (mem : List Host.Cell) (tag : Nat) : Option (Nat × List Byte) :=
  match [1, 2, 3].foldl (betterHolder mem tag) none with
  | some seg => (lastRecord mem seg tag).map (fun v => (seg, v))
  | none => (lastRecord mem 0 tag).map (fun v => (0, v))

/-- The value that a lookup finds. -/
def lookupValue (mem : List Host.Cell) (tag : Nat) : Option (List Byte) := (lookup mem tag).map Prod.snd

/-- The records a compaction copies: the newest valid record of every tag held in a segment, in increasing tag order
(R183). -/
def compactionCopies (mem : List Host.Cell) (seg : Nat) : List (List Byte) :=
  allTags.filterMap (fun tag => (lastRecord mem seg tag).map (recordBytes tag))

/-- The store's working state as the scan at a reset finds it (R181). -/
def scanStore (mem : List Host.Cell) : Store :=
  { mem := mem, append := [0, 1, 2, 3].map (fun seg => (scanSegment mem seg).2), active := activeOf mem,
    factoryLock := (lastRecord mem 0 0xFE).isSome, op := none }

end Sys2Proof.Machine
end

