-- ==== Sys2Proof/Machine/Load.lean ====
section
/-! DEFINITION. Loading of the settings at a reset: what each block's check makes of the record that the lookup finds, and the
built-in default where none is found or the record is disregarded (R181, R189). -/

namespace Sys2Proof.Machine

open Sys2Proof

/-- A setting loaded by lookup of a tag: the default applies where nothing is found or the check disregards the record. -/
def loadSetting {α : Type} (mem : List Host.Cell) (tag : Nat) (check : List Byte → Option α) (default : α) : α :=
  match lookupValue mem tag with
  | some v => (check v).getD default
  | none => default

/-! ### Governor (R42, R43) -/

/-- MODE_POWERS: each value clamped, and the record disregarded when AUTO_MAX is then below ECO (R42). -/
def checkPowers (v : List Byte) : Option ModePowers :=
  let p : ModePowers :=
    ⟨clampNat 20 500 (u16At v 0), clampNat 20 500 (u16At v 2), clampNat 20 500 (u16At v 4), clampNat 20 500 (u16At v 6)⟩
  if p.autoMax < p.eco then none else some p

/-- DRIVE_GAINS: Kp and Ki; a record whose two reserved bytes are not zero is disregarded (R42, R189). -/
def checkGains (v : List Byte) : Option (Nat × Nat) :=
  if u16At v 4 = 0 then some (u16At v 0, u16At v 2) else none

/-- The four limits clamped into their ranges (R43). -/
def clampLimits (discharge charge cellTarget dutyMax : Nat) : Limits :=
  ⟨clampNat 5000 35000 discharge, clampNat 200 4000 charge, clampNat 4000 4200 cellTarget, clampNat 1024 4032 dutyMax⟩

/-- LIMITS (R43). -/
def checkLimits (v : List Byte) : Option Limits := some (clampLimits (u16At v 0) (u16At v 2) (u16At v 4) (u16At v 6))

/-- The mode-power table at a reset. -/
def loadPowers (mem : List Host.Cell) : ModePowers := loadSetting mem 0x02 checkPowers ⟨90, 180, 420, 300⟩

/-- The gains at a reset. -/
def loadGains (mem : List Host.Cell) : Nat × Nat := loadSetting mem 0x01 checkGains (96, 8)

/-- The limits at a reset: the lock record's while the limit lock is set, else loaded (R43, R44). -/
def loadLimits (mem : List Host.Cell) (lock : Option LockRecord) : Limits :=
  match lock with
  | some k => k.limits
  | none => loadSetting mem 0x06 checkLimits ⟨25000, 2000, 4200, 3968⟩

/-- The supervision period at a reset (R156, R168). -/
def loadPeriod (lock : Option LockRecord) : Nat :=
  match lock with
  | some k => k.supPeriod
  | none => 500

/-! ### Pack monitor (R52) -/

/-- CELL_OFFSETS: a record of another length than 2 × N is disregarded; each offset is clamped into −50..50. -/
def checkOffsets (n : Nat) (v : List Byte) : Option (List Int) :=
  if v.length = 2 * n then some ((List.range n).map (fun i => clampInt (-50) 50 (s16At v (2 * i)))) else none

/-- The voltages rise strictly. -/
def risesStrictly : List Nat → Bool
  | [] => true
  | [_] => true
  | a :: b :: rest => decide (a < b) && risesStrictly (b :: rest)

/-- OCV_TABLE: disregarded unless the nine voltages rise strictly. -/
def checkOcv (v : List Byte) : Option (List Nat) :=
  let t := (List.range 9).map (fun i => u16At v (2 * i))
  if risesStrictly t then some t else none

/-- The cell offsets at a reset. -/
def loadOffsets (mem : List Host.Cell) (n : Nat) : List Int :=
  loadSetting mem 0x03 (checkOffsets n) (List.replicate n 0)

/-- The OCV table at a reset. -/
def loadOcv (mem : List Host.Cell) : List Nat := loadSetting mem 0x0A checkOcv defaultOcv

/-- The capacity at a reset: clamped into 500..10,000 mAh. -/
def loadCapacity (mem : List Host.Cell) : Nat :=
  loadSetting mem 0x05 (fun v => some (clampNat 500 10000 (u16At v 0))) 2500

/-! ### Debris sensor (R77) -/

/-- A floor of a FLOOR_TABLE record: a number in 0..1,023, or not valid. -/
def checkFloor (n : Nat) : Option Nat := if n ≤ 1023 then some n else none

/-- FLOOR_TABLE: clear_ref limited to 1,023, and the floor table, whose entry 0 is never valid (R76, R77). -/
def checkFloors (v : List Byte) : Option (Nat × List (Option Nat)) :=
  some (min 1023 (u16At v 0), none :: (List.range 7).map (fun i => checkFloor (u16At v (2 + 2 * i))))

/-- Three thresholds lie within 1..254 and rise strictly (R77, R98). -/
def thresholdsOk (light medium heavy : Nat) : Bool :=
  decide (1 ≤ light) && decide (light < medium) && decide (medium < heavy) && decide (heavy ≤ 254)

/-- DIRT_LEVELS: disregarded when the thresholds fail their test or the bin threshold, 20 bits in three bytes, is not
extended (R77, R189); the other fields are clamped. -/
def checkDirtLevels (v : List Byte) : Option DirtLevels :=
  if thresholdsOk (byteAt v 0) (byteAt v 1) (byteAt v 2) && decide (u24At v 6 < 1048576) then
    some ⟨byteAt v 0, byteAt v 1, byteAt v 2, clampNat 0 32 (byteAt v 3), byteAt v 4, byteAt v 5,
      clampNat 10000 1000000 (u24At v 6)⟩
  else none

/-- clear_ref and the floor table at a reset. -/
def loadFloors (mem : List Host.Cell) : Nat × List (Option Nat) :=
  loadSetting mem 0x04 checkFloors (0, List.replicate 8 none)

/-- The dirt settings at a reset. -/
def loadDirtLevels (mem : List Host.Cell) : DirtLevels :=
  loadSetting mem 0x07 checkDirtLevels ⟨24, 72, 144, 8, 16, 32, 400000⟩

/-- The acoustic threshold at a reset. -/
def loadAcoustic (mem : List Host.Cell) : Nat := loadSetting mem 0x0B (fun v => some (byteAt v 0)) 80

/-! ### Attachment table (R101) -/

/-- The numeric fields of an entry clamped into their ranges (R101, R114). -/
def clampEntry (e : AttEntry) : AttEntry :=
  { e with idLow := clampNat 0 3300 e.idLow, idHigh := clampNat 0 3300 e.idHigh, cls := clampNat 0 15 e.cls,
           rollDuty := clampNat 0 1000 e.rollDuty, rollCap := clampNat 0 5000 e.rollCap, jam := clampNat 500 6000 e.jam,
           suctionCap := clampNat 20 500 e.suctionCap }

/-- An ATTACHMENT record: disregarded when a reserved bit or byte is set (R189), or when the bounds are out of order
after clamping (R101). -/
def checkEntry (v : List Byte) : Option AttEntry :=
  let flags := byteAt v 0
  let e := clampEntry
    ⟨flags.testBit 0, u16At v 1, u16At v 3, flags / 16, u16At v 5, u16At v 7, u16At v 9, u16At v 11, flags.testBit 1⟩
  if flags.testBit 2 || flags.testBit 3 || decide (byteAt v 13 ≠ 0) || decide (e.idHigh < e.idLow) then none else some e

/-- The value of an ATTACHMENT record (section 11.6). -/
def entryBytes (e : AttEntry) : List Byte :=
  u8 (setCode [e.enabled, e.autoAllowed] + 16 * e.cls) ++ u16 e.idLow ++ u16 e.idHigh ++ u16 e.rollDuty ++ u16 e.rollCap
    ++ u16 e.jam ++ u16 e.suctionCap ++ u8 0

/-- The entry of an index, with the last default of R101 beyond the table. -/
def disabledEntry : AttEntry := ⟨false, 0, 0, 0, 0, 0, 3000, 500, false⟩

/-- The attachment table at a reset. -/
def loadEntries (mem : List Host.Cell) : List AttEntry :=
  (List.range 8).map (fun i => loadSetting mem (0x10 + i) checkEntry (defaultEntries.getD i disabledEntry))

/-! ### Dock link and charger stage (R138, R140) -/

/-- The evacuation settings clamped into their ranges (R138). -/
def clampEvac (e : EvacSettings) : EvacSettings :=
  ⟨e.policy, clampNat 10000 1000000 e.threshold, clampNat 2 30 e.duration, clampNat 100 400 e.power⟩

/-- EVACUATION: disregarded when the policy is not named or the threshold, 20 bits in four bytes, is not extended (R138,
R189). -/
def checkEvac (v : List Byte) : Option EvacSettings :=
  if u32At v 1 < 1048576 then
    (policyOf (byteAt v 0)).map (fun p => clampEvac ⟨p, u32At v 1, byteAt v 5, u16At v 6⟩)
  else none

/-- The value of an EVACUATION record (section 11.6). -/
def evacBytes (e : EvacSettings) : List Byte :=
  u8 (policyCode e.policy) ++ u32 e.threshold ++ u8 e.duration ++ u16 e.power

/-- The evacuation settings at a reset. -/
def loadEvac (mem : List Host.Cell) : EvacSettings := loadSetting mem 0x08 checkEvac ⟨.whenFull, 400000, 8, 300⟩

/-- The dock supply budget at a reset (R140). -/
def loadBudget (mem : List Host.Cell) : Nat :=
  loadSetting mem 0x09 (fun v => some (clampNat 60000 600000 (u32At v 0))) 360000

end Sys2Proof.Machine
end

