-- ==== Sys2Proof/Machine/Flags.lean ====
section
/-! DEFINITION. The condition summary and the sticky flags (R163), and the flags that are derived from other state. -/

namespace Sys2Proof.Machine

open Sys2Proof

/-- The reported dirt level: the level while D is a number, ABSENT while D is ABSENT, and ABSENT in DOCK role
(R76, R163). -/
def State.reportedLevel (s : State) : Option DirtLevel :=
  if s.isDock then none else s.debris.d.map (fun _ => s.debris.level)

/-- The state of charge in permille, ABSENT while Q is not valid (R55). -/
def State.soc (s : State) : Option Nat :=
  if s.pack.valid then some (s.pack.q * 1000 / (s.pack.capacity * 3600)) else none

/-- The dock fault flags as they stand (R131). -/
def State.dockFlags (s : State) : DockFlags :=
  { supplyLow := match s.charger.supply with
      | some v => decide (v < 30000)
      | none => false,
    chargerLatched := s.charger.latched, fanFault := decide (s.drive.state = .fault) }

/-- The roll state a summary shows: OFF in DOCK role (R163). -/
def State.summaryRoll (s : State) : Nat := if s.isDock then 0 else rollStateCode s.roll.state

/-- The protection level a summary shows: NORMAL in DOCK role (R163). -/
def State.summaryLevel (s : State) : Nat := if s.isDock then 0 else protLevelCode s.prot.level

/-- The session state a summary shows: the role's session (R163). -/
def State.summarySession (s : State) : Nat :=
  if s.isDock then dockStateCode s.dock.state else stickStateCode s.stick.state

/-- The dirt level a summary shows: 7 while ABSENT (section 11.2). -/
def State.summaryDirt (s : State) : Nat := (s.reportedLevel.map dirtLevelCode).getD 7

/-- The condition summary, four bytes (R163, section 11.2). -/
def State.summary (s : State) : List Byte :=
  u8 (driveStateCode s.drive.state + 16 * s.summaryRoll)
    ++ u8 (s.summaryLevel + 16 * s.summarySession)
    ++ u8 (s.summaryDirt + 8 * powerModeCode s.ctl.power + 32 * setCode [s.drive.blocked, !s.isDock && s.debris.binFull])
    ++ u8 (setCode [s.host.govSat, s.host.overrun, s.host.linkError, s.host.faultNew])

/-- Forming a summary clears each sticky flag it carries set (R163). -/
def clearSticky (s : State) : State :=
  { s with host := { s.host with govSat := false, overrun := false, linkError := false, faultNew := false } }

/-- BIN_FULL: B at or above the bin threshold (R89). -/
def binFullOf (b threshold : Nat) : Bool := decide (threshold ≤ b)

/-- evacuate_request (R127). -/
def State.evacRequested (s : State) : Bool :=
  match s.stick.binding with
  | none => false
  | some k =>
    !k.seenDone &&
    match s.evacSet.policy with
    | .always => true
    | .whenFull => decide (s.evacSet.threshold ≤ s.debris.b)
    | .never => false

/-- evacuate_request is derived again (R127). -/
def deriveRequest (s : State) : State := { s with stick := { s.stick with evacRequest := s.evacRequested } }

end Sys2Proof.Machine
end

