-- ==== Sys2Proof/Machine/Requests.lean ====
section
/-! DEFINITION. The taking of a request (R159, R160): the stages that judge it, and the reply. The requests themselves stand
with the blocks that own them. -/

namespace Sys2Proof.Machine

open Sys2Proof

/-- What a request's own stage gives: the result, the state after it, and the request's reply fields. -/
structure Judged where
  result : Result
  state : State
  fields : List Byte

/-- A request refused by its own conditions changes nothing and returns no fields (R160). -/
def refuse (r : Result) (s : State) : Judged := ⟨r, s, []⟩

/-- A request: its code, the roles that accept it, the length and canonical stages, whether its reply always carries a
summary (R166) or asks for a reset (R179), and its own conditions and effect on a payload. -/
structure RequestSpec where
  code : Nat
  inStick : Bool
  inDock : Bool
  lengthOk : List Byte → Bool
  canonical : List Byte → Bool
  alwaysSummary : Bool
  resets : Bool
  act : List Byte → State → Judged

/-- The request belongs to a role. -/
def RequestSpec.accepts (q : RequestSpec) : Role → Bool
  | .stick => q.inStick
  | .dock => q.inDock

/-- The payload is empty. -/
def emptyPayload (p : List Byte) : Bool := p.isEmpty

/-- The payload has a given length. -/
def lengthIs (n : Nat) (p : List Byte) : Bool := decide (p.length = n)

/-- No field of the payload can depart from canonical form. -/
def anyForm (_ : List Byte) : Bool := true

/-- The unsigned 16-bit setting fields at the given offsets do not hold 0xFFFF (R160). -/
def settings16 (offsets : List Nat) (p : List Byte) : Bool := offsets.all (fun i => decide (u16At p i ≠ 0xFFFF))

/-- A request with an empty payload, accepted in both roles. -/
def plainRequest (code : Nat) (act : State → Judged) : RequestSpec :=
  ⟨code, true, true, emptyPayload, anyForm, false, false, fun _ s => act s⟩

/-- The codes chapter 11 assigns to requests (section 11.3). -/
def assignedCodes : List Nat :=
  [0x01, 0x02, 0x03, 0x04, 0x05, 0x06, 0x07, 0x08, 0x09, 0x10, 0x11, 0x12, 0x13, 0x14, 0x15, 0x18, 0x19, 0x1A, 0x20, 0x21,
   0x22, 0x23, 0x24, 0x25, 0x26, 0x28, 0x29, 0x2C, 0x2D, 0x2E, 0x30, 0x31, 0x32, 0x33]

/-- The request code of a KIND: its code with 0x40 cleared when it lies below 0x80 (R157). -/
def requestCode (kind : Byte) : Option Nat := if kind.toNat < 0x80 then some (kind.toNat % 0x40) else none

/-- The KIND asks for a condition summary: 0x41..0x7F (R157, R159). -/
def asksSummary (kind : Byte) : Bool := decide (0x40 ≤ kind.toNat)

/-- The KIND stage passes (R159). -/
def knownKind (kind : Byte) : Bool :=
  match requestCode kind with
  | some c => assignedCodes.contains c
  | none => false

/-- A request can be taken: the reply queue has room (R159) and no SHIP decision has been made (R175). -/
def State.canTake (s : State) : Bool := decide (s.host.replies.length < 4) && !s.ctl.shipDecided

/-- The request at the head of the receive queue has a given code. -/
def State.headIs (s : State) (code : Nat) : Bool :=
  match s.host.rxq with
  | f :: _ => decide (requestCode f.kind = some code)
  | [] => false

/-- The request at the head of the receive queue fails the KIND stage. -/
def State.headUnknown (s : State) : Bool :=
  match s.host.rxq with
  | f :: _ => !knownKind f.kind
  | [] => false

/-- A host request restarts a running standby timer with 30,000 ms (R173). -/
def restartStandby (s : State) : State :=
  { s with ctl := { s.ctl with standbyTimer := s.ctl.standbyTimer.map (fun _ => s.after 30000) } }

/-- The request leaves the receive queue, and the taking acts on the mode controller (R159, R173). -/
def beginTaking (rest : List HostFrame) (s : State) : State :=
  restartStandby (enterActive .request { s with host := { s.host with rxq := rest } })

/-- The stages after the KIND stage, in order (R160): in a role in which the request is accepted its length, its canonical
form and its own conditions; in the other role WRONG_ROLE whatever its length or contents. -/
def judge (q : RequestSpec) (p : List Byte) (s : State) : Judged :=
  if q.accepts s.ctl.role then
    if q.lengthOk p then
      if q.canonical p then q.act p s else refuse .noncanonical s
    else refuse .badLength s
  else refuse .wrongRole s

/-- A reply appended to the reply queue. -/
def pushReply (r : Reply) (s : State) : State := { s with host := { s.host with replies := s.host.replies ++ [r] } }

/-- The reply of a judged request (R159): the result, the summary when one was asked for, formed after the request has
acted, and the request's own fields. Forming the summary clears the sticky flags it carries (R163). Only the reply of a
RESET_PART that was taken brings the reset: a refused request changes nothing (R160, R179). -/
def replyTo (q : RequestSpec) (kind : Byte) (j : Judged) : State :=
  let asked := q.alwaysSummary || asksSummary kind
  let summary := if asked then j.state.summary else []
  let after := if asked then clearSticky j.state else j.state
  pushReply ⟨kind + 0x80, u8 (resultCode j.result) ++ summary ++ j.fields, q.resets && decide (j.result = .ok)⟩ after

/-- The taking of the request at the head of the receive queue (R159). -/
def takeRequest (q : RequestSpec) (s : State) : State :=
  match s.host.rxq with
  | [] => s
  | f :: rest => replyTo q f.kind (judge q f.payload (beginTaking rest s))

/-- The command that takes a request: it occurs when that request is at the head of the queue and can be taken. -/
def request (q : RequestSpec) (s : State) : Host.Outcome State Fault Refusal :=
  event (s.canTake && s.headIs q.code) (takeRequest q) s

/-- A request refused at the KIND stage: the reply has KIND 0xFF and carries the result and the received KIND, and no
summary (R159). -/
def takeUnknown (s : State) : State :=
  match s.host.rxq with
  | [] => s
  | f :: rest => pushReply ⟨0xFF, u8 (resultCode .unknownKind) ++ [f.kind], false⟩ (beginTaking rest s)

/-- A result of OK, or CLAMPED when a field was clamped. -/
def okOrClamped (clamped : Bool) : Result := if clamped then .clamped else .ok

/-- A keep field is 0 or 1. -/
def keepOk (keep : Nat) : Bool := decide (keep = 0 ∨ keep = 1)

/-- A keep request with keep 1 is refused BUSY while a store operation is in flight (section 10.3). -/
def keepBusy (keep : Nat) (s : State) : Bool := decide (keep = 1) && s.store.op.isSome

end Sys2Proof.Machine
end

