-- ==== Sys2Proof/Machine/Roll.lean ====
section
/-! DEFINITION. Roll drive, channel B (sections 5.3 to 5.5): the run condition, the states, the hand-over, and its commands. -/

namespace Sys2Proof.Machine

open Sys2Proof

/-- The matched entry of the attachment table, when the match is an entry. -/
def State.matched (s : State) : Option AttEntry :=
  match s.att.result with
  | .entry i => s.att.entries[i]?
  | .bare => none
  | .unknown => none

/-- The roll duty of the entry in force. -/
def State.dutyInForce (s : State) : Option Nat := s.matched.map AttEntry.rollDuty

/-- The match is an entry whose roll_duty_permille is above 0. -/
def State.rollEntry (s : State) : Bool :=
  match s.matched with
  | some e => decide (0 < e.rollDuty)
  | none => false

/-- The roll's run condition (R107). -/
def State.rollCondition (s : State) : Bool :=
  decide (s.drive.state = .run) && s.rollEntry && decide (0 < s.roll.grant) && s.debris.cal.isNone

/-- The roll drive is in SPINUP, RUN or JAM_WAIT. -/
def RollState.runs : RollState → Bool
  | .spinup => true
  | .run => true
  | .jamWait => true
  | .off => false
  | .jamLatched => false
  | .fault => false

/-- The roll drive is in JAM_LATCHED or FAULT. -/
def RollState.held : RollState → Bool
  | .jamLatched => true
  | .fault => true
  | .off => false
  | .spinup => false
  | .run => false
  | .jamWait => false

/-- Channel B drives: the states in which the current sense is read (R111). -/
def RollState.drives : RollState → Bool
  | .spinup => true
  | .run => true
  | .off => false
  | .jamWait => false
  | .jamLatched => false
  | .fault => false

/-- Entry of the roll drive to a state in which channel B is off: JAM_WAIT, JAM_LATCHED, FAULT or OFF (R108, R110,
R111). -/
def rollStop (state : RollState) (s : State) : State :=
  { s with roll := { s.roll with state := state, appliedDuty := 0, jamTimer := none, waitTimer := none,
                                 enteredAt := s.now } }

/-- Entry to OFF (R108); the jam count is set to 0 or kept. -/
def rollEnterOff (clearCount : Bool) (s : State) : State :=
  let t := rollStop .off s
  { t with roll := { t.roll with faultCause := none, jamCount := if clearCount then 0 else s.roll.jamCount } }

/-- Entry to SPINUP (R108). -/
def rollEnterSpinup (s : State) : State :=
  { s with roll := { s.roll with state := .spinup, appliedDuty := 0, waitTimer := none, enteredAt := s.now } }

/-- The roll drive's DRIVE report, with its state as it stands (R113). -/
def reportRoll (cause : DriveCause) (s : State) : State :=
  handReport (.roll cause s.roll.state s.roll.jamCount s.roll.appliedDuty s.roll.current) s

/-- The run condition evaluated: lost in SPINUP, RUN or JAM_WAIT, the roll drive enters OFF with its jam count kept
(R107, R108). -/
def rollEvaluate (s : State) : State :=
  if s.roll.state.runs && !s.rollCondition then rollEnterOff false s else s

/-- The release of a roll drive in JAM_LATCHED or FAULT, with its report (R112, R113). -/
def rollRelease (cause : DriveCause) (s : State) : State :=
  if s.roll.state.held then reportRoll cause (rollEnterOff true s) else s

/-- The expiry of host supervision at the roll drive: OFF from any state other than OFF with the jam count cleared; a
release of JAM_LATCHED or FAULT is reported (R112, R164). -/
def rollSilence (s : State) : State :=
  if s.roll.state.held then rollRelease .release s else if s.roll.state.runs then rollEnterOff true s else s

/-- A qualified jam (R110): the index of the entry in force is the fault entry's second value (R113). -/
def rollJam (s : State) : State :=
  if s.roll.jamCount < 2 then
    let t := rollStop .jamWait s
    reportRoll .jam
      { t with roll := { t.roll with jamCount := s.roll.jamCount + 1, waitTimer := some (s.after 2000) } }
  else
    let t := rollStop .jamLatched s
    reportRoll .jamLatched
      (appendFault .channelB .rollJam s.roll.current ((matchIndex s.att.result).map (fun i => .num i))
        { t with roll := { t.roll with jamCount := 3 } })

/-- The jam threshold of the entry in force. -/
def State.jamLimit (s : State) : Nat := (s.matched.map AttEntry.jam).getD 0

/-- The work of RUN at a hand-over whose run condition holds (R109): the granted duty is applied, 10 s in RUN clear the
jam count (before the jam test, log 44), and the roll current of the period is judged for a jam. -/
def rollRunStep (s : State) : State :=
  let count := if 10000 ≤ s.since s.roll.enteredAt then 0 else s.roll.jamCount
  let judged := holdTimer s.now s.roll.jamTimer (s.roll.current.gt s.jamLimit) 100
  let t : State := { s with roll := { s.roll with appliedDuty := s.roll.grantedDuty, jamCount := count,
                                                  jamTimer := judged.1 } }
  if judged.2 then rollJam t else t

/-- The work of SPINUP at a hand-over whose run condition holds (R108). -/
def rollSpinStep (s : State) : State :=
  let t := s.since s.roll.enteredAt
  if t < 200 then { s with roll := { s.roll with appliedDuty := s.roll.grantedDuty * t / 200 } }
  else { s with roll := { s.roll with state := .run, appliedDuty := s.roll.grantedDuty, jamTimer := none,
                                      enteredAt := s.now } }

/-- The hand-over of the roll grant and roll duty at the end of a governor period (R107 to R110). -/
def rollHandOver (grant duty : Nat) (s : State) : State :=
  let t : State := { s with roll := { s.roll with grant := grant, grantedDuty := duty } }
  match t.roll.state with
  | .off => if t.rollCondition then rollEnterSpinup t else t
  | .spinup => if t.rollCondition then rollSpinStep t else rollEnterOff false t
  | .run => if t.rollCondition then rollRunStep t else rollEnterOff false t
  | .jamWait => rollEvaluate t
  | .jamLatched => t
  | .fault => t

/-- The roll current of the period just ended enters the record, and the readings of the next period begin (R106). -/
def rollTakeMean (s : State) : State :=
  { s with roll := { s.roll with current := meanReading s.gov.rollSamples },
           gov := { s.gov with rollSamples := CurrentSum.empty } }

/-- A reading joins those of the period in progress (R106). -/
def rollSample (r : Reading) (s : State) : State :=
  { s with gov := { s.gov with rollSamples := s.gov.rollSamples.add r } }

/-- Entry to FAULT with cause SHORT (R111, R113). -/
def rollShort (r : Reading) (s : State) : State :=
  let t := rollStop .fault s
  reportRoll .short
    (appendFault .channelB .rollShort r (some (.num (rollStateCode s.roll.state)))
      { t with roll := { t.roll with faultCause := some .short } })

/-- A reading of the roll current sense while channel B drives (R106, R111). -/
def rollReadingTaken (reading : Reading) (s : State) : State :=
  let r := rollReading reading
  let t := rollSample r s
  if r.gt 8000 then rollShort r t else t

/-- ROLL_CURRENT_READING (R111). -/
def execRollCurrentReading (reading : Reading) (s : State) : Host.Outcome State Fault Refusal :=
  event s.roll.state.drives (rollReadingTaken reading) s

/-- WAIT_TIMER_EXPIRY: JAM_WAIT to SPINUP (R110). -/
def execWaitTimerExpiry (s : State) : Host.Outcome State Fault Refusal :=
  event (decide (s.roll.state = .jamWait) && s.roll.waitTimer.isSome) rollEnterSpinup s

/-- ROLL_RESTART (R116). -/
def rollRestartSpec : RequestSpec :=
  ⟨0x26, true, false, emptyPayload, anyForm, false, false, fun _ s =>
    if s.roll.state.held then ⟨.ok, rollRelease .restart s, []⟩ else refuse .denied s⟩

/-- ROLL_RESTART. -/
def execRollRestart (s : State) : Host.Outcome State Fault Refusal := request rollRestartSpec s

end Sys2Proof.Machine
end

