-- ==== Sys2Proof/Machine/Store.lean ====
section
/-! DEFINITION. Calibration store (chapter 10): writes, compactions and erases, their completions, and the store requests. -/

namespace Sys2Proof.Machine

open Sys2Proof

/-! ### Working state -/

/-- The append position of a segment, or `none` when it counts as full. -/
def Store.appendAt (st : Store) (seg : Nat) : Option Nat := (st.append.getD seg none)

/-- The store with another memory; the active segment follows the headers (R181). -/
def Store.setMem (st : Store) (mem : List Host.Cell) : Store := { st with mem := mem, active := activeOf mem }

/-- The store with another append position of a segment. -/
def Store.setAppend (st : Store) (seg : Nat) (pos : Option Nat) : Store := { st with append := st.append.set seg pos }

/-- A record with a value of the given length fits at the append position of a segment (R182). -/
def Store.fits (st : Store) (seg len : Nat) : Bool :=
  match st.appendAt seg with
  | some p => decide (p + len + 3 ≤ segSize)
  | none => false

/-- The detail byte of an operation's DONE report (R190): the band 7 for the write of a floor calibration (R93), the
segment for an erase, the tag otherwise. -/
def opDetail (op : StoreOp) : Nat :=
  if op.origin = 0x23 then 7
  else match op.kind with
    | .erase => op.segment
    | .write => op.tag
    | .compaction => op.tag

/-- The end of an operation: the record becomes absent and one DONE report is queued (R182). -/
def endOp (op : StoreOp) (result : DoneResult) (s : State) : State :=
  handReport (.done op.origin result (opDetail op)) { s with store := { s.store with op := none } }

/-- A fault entry of the store: the tag of the record being written (0 for an erase) and the segment (R182). -/
def storeFault (code : FaultCode) (tag seg : Nat) (s : State) : State :=
  appendFault .store code (.num tag) (some (.num seg)) s

/-- An operation ends STORE_FAILED with a fault entry. -/
def failOp (op : StoreOp) (code : FaultCode) (seg : Nat) (s : State) : State :=
  endOp op .storeFailed (storeFault code op.tag seg s)

/-- An operation comes to be in flight. -/
def beginOp (op : StoreOp) (s : State) : State := { s with store := { s.store with op := some op } }

/-- The header of a segment is written to 0, so that it holds no generation (R183). -/
def zeroHeader (seg : Nat) (s : State) : State :=
  { s with store := s.store.setMem (writeHeader s.store.mem seg 0) }

/-! ### Starting an operation (R182, R183) -/

/-- A compaction starts, with the header of its target written to 0 as the first step of the erase. -/
def startCompaction (target gen origin tag : Nat) (value : List Byte) (s : State) : State :=
  beginOp ⟨.compaction, target, tag, origin, value, 1, gen⟩ (zeroHeader target s)

/-- The segment after one in the ring 1, 2, 3, 1. -/
def nextSegment (seg : Nat) : Nat := seg % 3 + 1

/-- A user write starts: into the active segment when the record fits, else as a compaction; with generation 65,534 no
compaction is made and the write ends STORE_FAILED with FULL (R182, R183). -/
def startUserWrite (origin tag : Nat) (value : List Byte) (s : State) : State :=
  match s.store.active with
  | none => startCompaction 1 1 origin tag value s
  | some seg =>
    if s.store.fits seg value.length then beginOp ⟨.write, seg, tag, origin, value, 0, 0⟩ s
    else if segHeader s.store.mem seg = 65534 then failOp ⟨.write, seg, tag, origin, value, 0, 0⟩ .full seg s
    else startCompaction (nextSegment seg) (segHeader s.store.mem seg + 1) origin tag value s

/-- A factory write starts, into segment 0; one that does not fit ends STORE_FAILED at once with FULL (R182). -/
def startFactoryWrite (origin tag : Nat) (value : List Byte) (s : State) : State :=
  if s.store.fits 0 value.length then beginOp ⟨.write, 0, tag, origin, value, 0, 0⟩ s
  else failOp ⟨.write, 0, tag, origin, value, 0, 0⟩ .full 0 s

/-- An erase starts: the header is written to 0 first (R183). -/
def startErase (origin seg : Nat) (s : State) : State :=
  beginOp ⟨.erase, seg, 0, origin, [], 0, 0⟩ (zeroHeader seg s)

/-- The record write that a keep request with keep 1 queues (R182). -/
def keepWrite (keep origin tag : Nat) (value : List Byte) (s : State) : State :=
  if keep = 1 then startUserWrite origin tag value s else s

/-! ### Completing an operation -/

/-- Free bytes: what a failed or torn operation leaves (logs 8, 9). -/
def freeBytes (k : Nat) (n : Nat) : List Byte := (List.range n).map (Config.freeByte k)

/-- What a record whose read-back differs leaves: its tag and length, free value bytes, and a check that is bad, which
hides it from every later lookup (R182; log 9). -/
def failedRecord (k tag len : Nat) : List Byte :=
  let body := BitVec.ofNat 8 tag :: BitVec.ofNat 8 len :: freeBytes k len
  body ++ [-(byteSum body) + 1 + BitVec.ofNat 8 (Config.freeNat k 0 % 255)]

/-- Bytes appended at the append position of a segment, which moves past them. -/
def Store.appendBytes (st : Store) (seg : Nat) (bytes : List Byte) : Store :=
  match st.appendAt seg with
  | some p => (st.setMem (segWrite st.mem seg p bytes)).setAppend seg (some (p + bytes.length))
  | none => st

/-- A successful factory write of FACTORY_LOCK sets the factory lock at once (R185). -/
def Store.lockIf (st : Store) (seg tag : Nat) : Store :=
  if seg = 0 ∧ tag = 0xFE then { st with factoryLock := true } else st

/-- The append and read-back of a record complete (R182). -/
def completeWrite (op : StoreOp) (matched : Bool) (s : State) : State :=
  if matched then
    endOp op .ok { s with store := (s.store.appendBytes op.segment (recordBytes op.tag op.value)).lockIf op.segment op.tag }
  else
    failOp op .verify op.segment
      (nextFree { s with store := s.store.appendBytes op.segment (failedRecord s.freeCount op.tag op.value.length) })

/-- A segment cleared to 0xFF; its append position is its first record. -/
def Store.clear (st : Store) (seg : Nat) : Store := (st.setMem (segClear st.mem seg)).setAppend seg (some 2)

/-- A segment whose erase failed its read-back: its bytes are free, and the scan finds its append position (log 9). The
factory lock stays as it was until the next reset, whatever record the free bytes of segment 0 hold (DESIGN CHOICE, log
70). -/
def Store.scramble (st : Store) (k seg : Nat) : Store :=
  let mem := segWrite st.mem seg 0 (freeBytes k segSize)
  (st.setMem mem).setAppend seg (scanSegment mem seg).2

/-- An erase and its read-back complete (R183). -/
def completeErase (op : StoreOp) (matched : Bool) (s : State) : State :=
  if matched then endOp op .ok { s with store := s.store.clear op.segment }
  else failOp op .verify op.segment (nextFree { s with store := s.store.scramble s.freeCount op.segment })

/-- The two user segments other than a segment, in increasing order. -/
def otherSegments (seg : Nat) : List Nat := [1, 2, 3].filter (fun x => decide (x ≠ seg))

/-- The next step of a compaction begins. -/
def nextStep (op : StoreOp) (s : State) : State := beginOp { op with step := op.step + 1 } s

/-- The records that a compaction copies, from the segment active until its step 4. -/
def recordsToCopy (st : Store) : List (List Byte) :=
  match st.active with
  | some seg => compactionCopies st.mem seg
  | none => []

/-- The bytes of the copies a compaction makes. -/
def copiesOf (st : Store) : List Byte := (recordsToCopy st).flatten

/-- A step of a compaction completes with a read-back that matches (R183): the next step begins, or after step 5 the
compaction ends OK. -/
def compactionStepOk (op : StoreOp) (s : State) : State :=
  match op.step with
  | 1 => nextStep op { s with store := s.store.clear op.segment }
  | 2 => nextStep op { s with store := s.store.appendBytes op.segment (copiesOf s.store) }
  | 3 => nextStep op { s with store := s.store.appendBytes op.segment (recordBytes op.tag op.value) }
  | 4 => nextStep op { s with store := s.store.setMem (writeHeader s.store.mem op.segment op.generation) }
  | _ => endOp op .ok { s with store := (otherSegments op.segment).foldl Store.clear s.store }

/-- The segment in which the read-back of step 5 found the mismatch: the named one of the two erased, else the first. -/
def mismatchSegment (op : StoreOp) (seg : Nat) : Nat :=
  if (otherSegments op.segment).contains seg then seg else (otherSegments op.segment).headD 0

/-- Step 5 when the read-back of a segment differs: the segments before it have been erased. R183 does not order the two
erases; the lower segment is erased first (DESIGN CHOICE, log 69). -/
def Store.failedErases (st : Store) (k bad : Nat) (segs : List Nat) : Store :=
  ((segs.takeWhile (fun x => decide (x ≠ bad))).foldl Store.clear st).scramble k bad

/-- What a step of a compaction leaves in the store when its read-back differs (log 9). After step 2 the append position of
the target stands past the copies (DESIGN CHOICE, log 66). -/
def compactionDamage (op : StoreOp) (bad : Nat) (k : Nat) (st : Store) : Store :=
  match op.step with
  | 1 => st.scramble k op.segment
  | 2 => st.appendBytes op.segment (freeBytes k (copiesOf st).length)
  | 3 => st.appendBytes op.segment (failedRecord k op.tag op.value.length)
  | 4 => st.setMem (segWrite st.mem op.segment 0 (freeBytes k 2))
  | _ => st.failedErases k bad (otherSegments op.segment)

/-- The segment that the fault entry of a mismatch names: the target, or in step 5 the erased segment (R182). -/
def compactionBad (op : StoreOp) (seg : Nat) : Nat := if op.step < 5 then op.segment else mismatchSegment op seg

/-- A step of a compaction completes with a mismatch, which ends the compaction STORE_FAILED with VERIFY (R183). -/
def compactionStepBad (op : StoreOp) (seg : Nat) (s : State) : State :=
  failOp op .verify (compactionBad op seg)
    (nextFree { s with store := compactionDamage op (compactionBad op seg) s.freeCount s.store })

/-- The operation in flight has a kind. -/
def State.opIs (s : State) (k : OpKind) : Bool :=
  match s.store.op with
  | some op => decide (op.kind = k)
  | none => false

/-- An effect on the operation in flight. -/
def withOp (f : StoreOp → State → State) (s : State) : State :=
  match s.store.op with
  | some op => f op s
  | none => s

/-- STORE_WRITE_COMPLETE (R182). -/
def execStoreWriteComplete (matched : Bool) (s : State) : Host.Outcome State Fault Refusal :=
  event (s.opIs .write) (withOp (fun op => completeWrite op matched)) s

/-- STORE_ERASE_COMPLETE (R183). -/
def execStoreEraseComplete (matched : Bool) (s : State) : Host.Outcome State Fault Refusal :=
  event (s.opIs .erase) (withOp (fun op => completeErase op matched)) s

/-- COMPACTION_STEP_COMPLETE (R183): `mismatch` names the segment whose read-back differs, if one does. -/
def execCompactionStepComplete (mismatch : Option (Fin 4)) (s : State) : Host.Outcome State Fault Refusal :=
  event (s.opIs .compaction)
    (withOp (fun op => match mismatch with
      | none => compactionStepOk op
      | some seg => compactionStepBad op seg.val)) s

/-! ### A reset with an operation in flight (R184) -/

/-- The bytes of a record that a torn append has stored: all before a free place within it (R184; log 8). -/
def tornBytes (k : Nat) (bytes : List Byte) : List Byte := bytes.take (Config.freeNat k 1 % bytes.length)

/-- A record torn at a position. A torn record fails its check or stops the scan (R184): where the bytes stored would read,
with the erased bytes after them, as a valid record, none is stored (log 8). -/
def tearRecord (mem : List Host.Cell) (seg pos k : Nat) (bytes : List Byte) : List Host.Cell :=
  let torn := segWrite mem seg pos (tornBytes k bytes)
  if recordStands torn seg pos then mem else torn

/-- The records of an append torn by a reset, at a position: freely many of those before the last are whole, and the next
one is torn (log 8). -/
def tearRecords (mem : List Host.Cell) (seg pos k : Nat) (records : List (List Byte)) : List Host.Cell :=
  let n := Config.freeNat k 2 % records.length
  let whole := (records.take n).flatten
  tearRecord (segWrite mem seg pos whole) seg (pos + whole.length) k (records.getD n [])

/-- The memory after a torn append of records at the append position of a segment. -/
def tornAppend (st : Store) (seg k : Nat) (records : List (List Byte)) : List Host.Cell :=
  match st.appendAt seg with
  | some p => tearRecords st.mem seg p k records
  | none => st.mem

/-- A torn erase leaves a segment with a header of 0 (R184); its other bytes are free, each segment's its own (log 8). -/
def tornErase (mem : List Host.Cell) (k seg : Nat) : List Host.Cell :=
  segWrite mem seg 0 (u16 0 ++ (List.range 510).map (fun i => Config.freeByte k (seg * segSize + i)))

/-- How far an erase of a torn step 5 has come with a segment, freely: not begun, finished, or torn (log 8). -/
def eraseCutOff (k : Nat) (mem : List Host.Cell) (seg : Nat) : List Host.Cell :=
  match Config.freeNat k (1 + seg) % 3 with
  | 0 => mem
  | 1 => segClear mem seg
  | _ => tornErase mem k seg

/-- A torn step 5 has come freely far with each of the two segments (log 8). -/
def tornErases (mem : List Host.Cell) (k : Nat) (segs : List Nat) : List Host.Cell := segs.foldl (eraseCutOff k) mem

/-- The memory that a reset finds when it abandons the operation in flight (R184). A compaction torn in step 4 has not
written its header (log 24). -/
def abandonedMem (st : Store) (k : Nat) : List Host.Cell :=
  match st.op with
  | none => st.mem
  | some op =>
    match op.kind, op.step with
    | .write, _ => tornAppend st op.segment k [recordBytes op.tag op.value]
    | .erase, _ => tornErase st.mem k op.segment
    | .compaction, 1 => tornErase st.mem k op.segment
    | .compaction, 2 => tornAppend st op.segment k (recordsToCopy st)
    | .compaction, 3 => tornAppend st op.segment k [recordBytes op.tag op.value]
    | .compaction, 4 => st.mem
    | .compaction, _ => tornErases st.mem k (otherSegments op.segment)

/-! ### Requests (section 10.3) -/

/-- STORE_READ (R187): found, segment, length and value; with nothing found the segment is ABSENT and the length 0. -/
def storeReadSpec : RequestSpec :=
  ⟨0x30, true, true, lengthIs 1, anyForm, false, false, fun p s =>
    if tagListed (byteAt p 0) then
      ⟨.ok, s, match lookup s.store.mem (byteAt p 0) with
        | some (seg, v) => boolByte true ++ u8 seg ++ u8 v.length ++ v
        | none => boolByte false ++ opt8 none ++ u8 0⟩
    else refuse .outOfRange s⟩

/-- STORE_WRITE (R185). The selector is USER (0) or FACTORY (1). -/
def storeWriteSpec : RequestSpec :=
  ⟨0x31, true, true, fun p => decide (4 ≤ p.length ∧ p.length ≤ 63), anyForm, false, false, fun p s =>
    let selector := byteAt p 0
    let tag := byteAt p 1
    let value := p.drop 3
    if 1 < selector then refuse .outOfRange s
    else if tagListed tag = false ∨ (tag = 0xFE ∧ selector = 0) then refuse .outOfRange s
    else if tagLength tag (byteAt p 2) = false ∨ value.length ≠ byteAt p 2 then refuse .badLength s
    else if selector = 1 ∧ s.store.factoryLock = true then refuse .locked s
    else if s.store.op.isSome then refuse .busy s
    else if selector = 1 then ⟨.accepted, startFactoryWrite 0x31 tag value s, []⟩
    else ⟨.accepted, startUserWrite 0x31 tag value s, []⟩⟩

/-- STORE_ERASE (R186). -/
def storeEraseSpec : RequestSpec :=
  ⟨0x32, true, true, lengthIs 1, anyForm, false, false, fun p s =>
    if 3 < byteAt p 0 then refuse .outOfRange s
    else if byteAt p 0 = 0 ∧ s.store.factoryLock = true then refuse .locked s
    else if s.store.op.isSome then refuse .busy s
    else ⟨.accepted, startErase 0x32 (byteAt p 0) s, []⟩⟩

/-- The bytes used in a segment: up to the append position, or 510 when the segment is full (R188). -/
def usedBytes (st : Store) (seg : Nat) : Nat :=
  match st.appendAt seg with
  | some p => p - 2
  | none => 510

/-- The generation STORE_STATUS shows for a segment; segment 0 holds none, as its header is not read (R181, R188). -/
def statusGeneration (st : Store) (seg : Nat) : Option Nat := if seg = 0 then none else generation st.mem seg

/-- The reply fields of STORE_STATUS (R188). An erase in flight has no tag, and its tag byte is ABSENT (DESIGN CHOICE,
log 65). -/
def storeStatusFields (s : State) : List Byte :=
  [0, 1, 2, 3].flatMap (fun seg => opt16 (statusGeneration s.store seg) ++ u16 (usedBytes s.store seg))
    ++ opt8 s.store.active ++ boolByte s.store.factoryLock
    ++ (match s.store.op with
      | some op => u8 (opKindCode op.kind) ++ u8 op.segment
          ++ (match op.kind with
            | .erase => opt8 none
            | .write => u8 op.tag
            | .compaction => u8 op.tag)
      | none => opt8 none ++ opt8 none ++ opt8 none)

/-- STORE_STATUS (R188). -/
def storeStatusSpec : RequestSpec := plainRequest 0x33 (fun s => ⟨.ok, s, storeStatusFields s⟩)

/-- STORE_READ. -/
def execStoreRead (s : State) : Host.Outcome State Fault Refusal := request storeReadSpec s
/-- STORE_WRITE. -/
def execStoreWrite (s : State) : Host.Outcome State Fault Refusal := request storeWriteSpec s
/-- STORE_ERASE. -/
def execStoreErase (s : State) : Host.Outcome State Fault Refusal := request storeEraseSpec s
/-- STORE_STATUS. -/
def execStoreStatus (s : State) : Host.Outcome State Fault Refusal := request storeStatusSpec s

end Sys2Proof.Machine
end

