-- ==== Sys2Proof/Machine/Attachment.lean ====
section
/-! DEFINITION. Attachment identifier (sections 5.1, 5.2 and 5.5): resolution of the ID line, debounce, re-match and its
commands. -/

namespace Sys2Proof.Machine

open Sys2Proof

/-- The entry is enabled and its window contains the reading, both bounds included (R102). -/
def AttEntry.contains (e : AttEntry) (r : Reading) : Bool :=
  match r with
  | .num v => e.enabled && decide ((e.idLow : Int) ≤ v) && decide (v ≤ e.idHigh)
  | .above => false
  | .below => false
  | .absent => false

/-- What a reading of the ID line resolves to (R102). -/
def resolveId (entries : List AttEntry) (r : Reading) : MatchResult :=
  if r.ge 3200 then .bare
  else match entries.findIdx? (fun e => e.contains r) with
    | some i => .entry i
    | none => .unknown

/-- The class of the matched entry. -/
def State.matchClass (s : State) : Option Nat := s.matched.map AttEntry.cls

/-- The jam count is set to 0. -/
def clearJams (s : State) : State := { s with roll := { s.roll with jamCount := 0 } }

/-- An attachment change (R104): the match takes a result, the report is queued, a latched roll is released, the jam count
becomes 0, and the run condition is evaluated. -/
def attachmentChange (result : MatchResult) (voltage : Reading) (cause : AttCause) (s : State) : State :=
  let t : State :=
    { s with att := { s.att with result := result, voltage := voltage, candidate := none, count := 0 } }
  rollEvaluate (clearJams (rollRelease .release (handReport (.attachment result t.matchClass voltage cause) t)))

/-- The candidate rises to a count; at 3 it takes effect (R103). -/
def candidateCounted (result : MatchResult) (count : Nat) (reading : Reading) (s : State) : State :=
  if 3 ≤ count then attachmentChange result reading .sample s
  else { s with att := { s.att with candidate := some result, count := count } }

/-- A sample taken against the match record (R103). After a reset, whose match is UNKNOWN, a sample that resolves to UNKNOWN
confirms the result in force and so gives the match its voltage, before any result has taken effect by debounce; R105
says ABSENT until then (DEDUCED, log 58). -/
def judgeSample (result : MatchResult) (reading : Reading) (s : State) : State :=
  if result = s.att.result then { s with att := { s.att with voltage := reading, candidate := none, count := 0 } }
  else if s.att.candidate = some result then candidateCounted result (s.att.count + 1) reading s
  else candidateCounted result 1 reading s

/-- A sample of the ID line (R102). -/
def idSampled (reading : Reading) (s : State) : State :=
  judgeSample (resolveId s.att.entries reading) reading
    { s with att := { s.att with latest := reading, sampleTimer := some (s.after 50) } }

/-- ID_SAMPLE (R102). -/
def execIdSample (reading : Reading) (s : State) : Host.Outcome State Fault Refusal :=
  event s.att.sampleTimer.isSome (idSampled reading) s

/-- The re-match of a taken SET_ATTACHMENT (R105). -/
def reMatch (s : State) : State :=
  let t : State := { s with att := { s.att with candidate := none, count := 0 } }
  if t.att.voltage.isAbsent then t
  else if resolveId t.att.entries t.att.voltage = t.att.result then t
  else attachmentChange (resolveId t.att.entries t.att.voltage) t.att.voltage .tableWrite t

/-- An entry written and re-matched; a changed roll duty of the entry in force evaluates the run condition (R105, R107). -/
def writeEntry (index : Nat) (e : AttEntry) (s : State) : State :=
  let t := reMatch { s with att := { s.att with entries := s.att.entries.set index e } }
  if t.dutyInForce = s.dutyInForce then t else rollEvaluate t

/-- The entry that a SET_ATTACHMENT carries. -/
def requestEntry (p : List Byte) : AttEntry :=
  ⟨decide (byteAt p 1 = 1), u16At p 2, u16At p 4, byteAt p 6, u16At p 7, u16At p 9, u16At p 11, u16At p 13,
    decide (byteAt p 15 = 1)⟩

/-- SET_ATTACHMENT (R114). The reports of a changed match, ATTACHMENT and DRIVE, come before the FAULT and DONE of a write
that ends at once (DESIGN CHOICE, log 10). -/
def setAttachmentSpec : RequestSpec :=
  ⟨0x25, true, false, lengthIs 17, settings16 [2, 4, 7, 9, 11, 13], false, false, fun p s =>
    let asked := requestEntry p
    let e := clampEntry asked
    let keep := byteAt p 16
    if 8 ≤ byteAt p 0 then refuse .outOfRange s
    else if (keepOk (byteAt p 1) && keepOk (byteAt p 15) && keepOk keep) = false then refuse .outOfRange s
    else if e.idHigh < e.idLow then refuse .outOfRange s
    else if keepBusy keep s then refuse .busy s
    else ⟨okOrClamped (decide (e ≠ asked)),
      keepWrite keep 0x25 (0x10 + byteAt p 0) (entryBytes e) (writeEntry (byteAt p 0) e s), []⟩⟩

/-- SET_ATTACHMENT. -/
def execSetAttachment (s : State) : Host.Outcome State Fault Refusal := request setAttachmentSpec s

/-- The reply fields of ATTACHMENT_STATUS (R115). -/
def attachmentStatusFields (s : State) : List Byte :=
  u8 (matchCode s.att.result) ++ opt8 (matchIndex s.att.result) ++ s16 s.att.voltage
    ++ opt8 (s.att.candidate.map matchCode) ++ opt8 (s.att.candidate.bind matchIndex) ++ u8 s.att.count
    ++ s16 s.att.latest ++ s.att.entries.flatMap entryBytes

/-- ATTACHMENT_STATUS (R115). -/
def attachmentStatusSpec : RequestSpec :=
  ⟨0x24, true, false, emptyPayload, anyForm, false, false, fun _ s => ⟨.ok, s, attachmentStatusFields s⟩⟩

/-- ATTACHMENT_STATUS. -/
def execAttachmentStatus (s : State) : Host.Outcome State Fault Refusal := request attachmentStatusSpec s

end Sys2Proof.Machine
end

