-- ==== Sys2Proof/Machine/DriveOps.lean ====
section
/-! DEFINITION. The operations of the suction drive that several blocks use (section 1.3): entries to its states, start and
stop requests, faults, and with them the ends of a floor calibration (R93) and of an evacuation run (R152). -/

namespace Sys2Proof.Machine

open Sys2Proof

/-! ### Claims and conditions -/

/-- The drive has a run request: its owner's claim stands (R7). -/
def State.runRequest (s : State) : Bool :=
  match s.drive.owner with
  | .none => false
  | .host => decide (s.drive.mode ≠ .off)
  | .calibration => s.debris.cal.isSome
  | .evacuation => decide (s.evac.phase ≠ .none)

/-- The start conditions (R8), judged with the owner the drive holds. -/
def State.startOk (s : State) : Bool :=
  decide (s.drive.state ≠ .fault) && s.runRequest &&
  match s.ctl.role with
  | .stick =>
    decide (s.stick.state = .detached) && s.prot.dischargeOk
      && (s.debris.cal.isNone || decide (s.drive.owner = .calibration))
  | .dock => decide (s.drive.owner = .evacuation)

/-- The limit speed_max in rpm (R2). -/
def speedMax : Role → Nat
  | .stick => 120000
  | .dock => 40000

/-- The speed is a number below a bound. -/
def slowerThan (speed : Option Nat) (rpm : Nat) : Bool :=
  match speed with
  | some v => decide (v < rpm)
  | none => false

/-- The speed is a number of at least a bound. -/
def fasterThan (speed : Option Nat) (rpm : Nat) : Bool :=
  match speed with
  | some v => decide (rpm ≤ v)
  | none => false

/-- The bridge step after one (R1). -/
def nextBridgeStep (step : Nat) : Nat := (step + 1) % 6

/-! ### Reports (R22, R87, R137) -/

/-- Channel A's DRIVE report with the state as it stands. -/
def reportDrive (cause : DriveCause) (s : State) : State :=
  handReport (.drive cause s.drive.state s.drive.mode s.drive.speed s.drive.duty) s

/-- The event changed channel A's state or set blocked (R22). -/
def driveMoved (before after : State) : Bool :=
  decide (after.drive.state ≠ before.drive.state) || (after.drive.blocked && !before.drive.blocked)

/-- The DRIVE report of an event that changed channel A's state or set blocked. -/
def reportMove (cause : DriveCause) (before after : State) : State :=
  if driveMoved before after then reportDrive cause after else after

/-- The cause of a start's report, after the owner (R22). -/
def ownerCause : Owner → DriveCause
  | .none => .request
  | .host => .request
  | .calibration => .calibration
  | .evacuation => .evacuation

/-- The DIRT report of an event, queued when it changed the reported level or BIN_FULL (R87). -/
def reportDirt (before after : State) : State :=
  if after.debris.binFull ≠ before.debris.binFull then
    handReport (.dirt (if after.debris.binFull then .binFull else .binEmptied) after.debris.d after.reportedLevel
      after.debris.b after.debris.binFull) after
  else if after.reportedLevel ≠ before.reportedLevel then
    handReport (.dirt .level after.debris.d after.reportedLevel after.debris.b after.debris.binFull) after
  else after

/-- The dock's miss count, 0 while unbound (R137). -/
def State.missCount (s : State) : Nat := (s.dock.binding.map DockBinding.missCount).getD 0

/-- The dock's DOCK report of an event, queued when it changed the session state or the evacuation report state
(R137). -/
def reportDock (cause : DockCause) (before after : State) : State :=
  if after.dock.state ≠ before.dock.state ∨ after.dock.report ≠ before.dock.report then
    handReport (.dock after.dock.state after.dock.report after.missCount cause) after
  else after

/-! ### Entries to the states -/

/-- Entry to ALIGN (R10); the balance set is emptied (R69). -/
def enterAlign (s : State) : State :=
  { s with
    drive := { s.drive with state := .align, step := 0, ring := [], xref := none, speed := none, duty := 330,
                            heldDuty := none, forcedPeriod := none, forcedIn := none, commIn := none,
                            startPending := false, retryPending := false, lastRunDuty := 0, speedAtStop := none,
                            alignTimer := some (s.after 40), coastTimer := none, crossTimer := none,
                            faultTimer := none, enteredAt := s.now },
    pack := { s.pack with balance := [] } }

/-- The drive switched off in OFF, before a waiting start is considered (R9). A catch that the exit ends leaves
start_pending set (R16). -/
def offRecord (now : Ms) (d : Drive) : Drive :=
  { d with state := .off, duty := 0, ring := [], xref := none, missCount := 0, zeroGrant := 0, stallTimer := none,
           overTimer := none, blockTimer := none, blocked := false, catchCount := none, speed := none,
           heldDuty := none, forcedPeriod := none, forcedIn := none, commIn := none, coastTimer := none,
           crossTimer := none, faultTimer := none, faultCause := none, released := none,
           startPending := d.startPending || d.catchCount.isSome, enteredAt := now }

/-- A start that waits at the entry to OFF is served, or given up (R9). -/
def serveWaiting (s : State) : State :=
  if (s.drive.startPending || s.drive.retryPending) && s.startOk then enterAlign s
  else { s with drive := { s.drive with startPending := false, retryPending := false, owner := .none } }

/-- Entry to OFF (R9). -/
def enterOff (s : State) : State := serveWaiting { s with drive := offRecord s.now s.drive }

/-- The cause of the report of an exit from COAST to OFF (R22). -/
def offCause (before after : State) : DriveCause :=
  if after.drive.state = .align then (if before.drive.retryPending then .retry else ownerCause after.drive.owner)
  else .coastEnd

/-- Entry to COAST (R16): the crossing reference and the period ring are kept. -/
def enterCoast (s : State) : State :=
  { s with drive := { s.drive with state := .coast, duty := 0, missCount := 0, zeroGrant := 0, heldDuty := none,
                                   forcedPeriod := none, forcedIn := none, commIn := none, alignTimer := none,
                                   rampTimer := none, coastTimer := some (s.after 3000),
                                   crossTimer := some (s.after 100), enteredAt := s.now } }

/-- The PI state held at 0 and P_hold absent, at the exit from RUN (R36, R41). -/
def Gov.leaveRun (g : Gov) : Gov := { g with a := 0, residue := 0, prev := 0, pHold := none }

/-- The exit from RUN (R13, R21, R36, R41, R78): what the drive records, the PI state, the window, and the roll's run
condition (R107). The state itself is set by the entry that follows. -/
def leaveRun (next : DriveState) (s : State) : State :=
  rollEvaluate
    { s with
      drive := { s.drive with state := next, lastRunDuty := s.drive.duty, speedAtStop := s.drive.speed,
                              blocked := false },
      gov := s.gov.leaveRun,
      debris := { s.debris with windowTimer := none, c := 0 } }

/-- The exit from RUN if the drive is in RUN. -/
def leaveIfRun (next : DriveState) (s : State) : State := if s.drive.state = .run then leaveRun next s else s

/-- The governor's bumpless take-up of the entry duty (R37). -/
def Gov.bumpless (g : Gov) (d0 : Nat) : Gov := { g with a := d0 * 65536, residue := 0, prev := d0 }

/-- The debris sensor at the entry to RUN (R78), and the calibration's phase (R91). -/
def Debris.enterRun (d : Debris) (window band : Ms) : Debris :=
  { d with c := 0, s := 0, d := none, dirtyLogged := false, windowTimer := some window,
           cal := d.cal.map (fun k => { k with phase := .seeking, bandTimer := some band, settle := none }) }

/-- The evacuation run at the fan's entry to RUN: the timed spell starts (R151). -/
def startSpell (s : State) : State :=
  if s.evac.phase = .spinning then
    { s with evac := { s.evac with phase := .timing, duration := some s.evacSet.duration,
                                   durationTimer := some (s.after (s.evacSet.duration * 1000)) } }
  else s

/-- What the other blocks do at the entry to RUN: the debris sensor in STICK role, the evacuation run in DOCK role. The DIRT
report comes before the drive's DRIVE report (DESIGN CHOICE, log 10). -/
def runBegins (s : State) : State :=
  match s.ctl.role with
  | .stick => reportDirt s { s with debris := s.debris.enterRun (s.after 50) (s.after 3000) }
  | .dock => startSpell s

/-- Entry to RUN with an entry duty (R13, R37, R69, R78, R91, R151). -/
def enterRun (d0 : Nat) (s : State) : State :=
  runBegins
    { s with
      drive := { s.drive with state := .run, duty := d0, heldDuty := none, attempts := 0, missCount := 0,
                              zeroGrant := 0, blocked := false, stallTimer := none, overTimer := none,
                              blockTimer := none, catchCount := none, forcedPeriod := none, forcedIn := none,
                              rampTimer := none, coastTimer := none, crossTimer := none, enteredAt := s.now },
      gov := s.gov.bumpless d0,
      pack := { s.pack with balance := [] } }

/-! ### Start requests (R8, R17) -/

/-- A catch begins (R17). -/
def beginCatch (s : State) : State :=
  { s with drive := { s.drive with catchCount := some 0, ring := [], speed := none } }

/-- A start request taken in COAST: a catch goes on or begins, or the start waits for OFF (R17). -/
def startInCoast (s : State) : State :=
  if s.drive.catchCount.isSome then s
  else if fasterThan s.drive.speed 20000 && s.drive.speedAtStop.isSome then beginCatch s
  else { s with drive := { s.drive with startPending := true } }

/-- A start request taken in OFF (R8). -/
def startInOff (s : State) : State :=
  if s.startOk then enterAlign s else { s with drive := { s.drive with owner := .none, startPending := false } }

/-- A start request at the drive (R8); it is an ACTIVE cause (section 9.3). -/
def startRequest (owner : Owner) (s : State) : State :=
  let t := enterActive .drive { s with drive := { s.drive with owner := owner, attempts := 0, retryPending := false } }
  match t.drive.state with
  | .off => startInOff t
  | .coast => startInCoast t
  | .align => t
  | .ramp => t
  | .run => t
  | .fault => t

/-- The DRIVE report of a start request: for a change of state, or for a start_pending that it leaves set (R22). -/
def reportStart (before after : State) : State :=
  if driveMoved before after || after.drive.startPending then reportDrive (ownerCause after.drive.owner) after else after

/-! ### Stop requests (R14) -/

/-- Released becomes true in FAULT once the run request no longer stands; with the fault timer expired or the speed
already below 3,000 rpm the drive enters OFF at once (R18). -/
def releaseFault (s : State) : State :=
  if s.runRequest then s
  else
    let t : State := { s with drive := { s.drive with released := some true, owner := .none } }
    if s.drive.released ≠ some true ∧ (s.drive.faultTimer = none ∨ slowerThan s.drive.speed 3000 = true) then enterOff t
    else t

/-- A stop in ALIGN, RAMP or RUN: COAST with no start waiting and no owner (R14). -/
def stopDriving (s : State) : State :=
  let t := enterCoast (leaveIfRun .coast s)
  { t with drive := { t.drive with retryPending := false, startPending := false, owner := .none } }

/-- A stop request at the drive (R14). -/
def driveStop (s : State) : State :=
  match s.drive.state with
  | .off => s
  | .align => stopDriving s
  | .ramp => stopDriving s
  | .run => stopDriving s
  | .coast =>
    { s with drive := { s.drive with startPending := false, retryPending := false, catchCount := none,
                                     speedAtStop := none, owner := .none } }
  | .fault => releaseFault s

/-! ### Ends of the operations that hold the drive -/

/-- The record of a floor calibration in flight becomes absent, with its DONE report (R93); P_hold goes with its owner
(R41). The release of the drive is the caller's. -/
def endCalibration (result : DoneResult) (s : State) : State :=
  match s.debris.cal with
  | none => s
  | some k =>
    handReport (.done 0x23 result k.band)
      { s with debris := { s.debris with cal := none }, gov := { s.gov with pHold := none } }

/-- The dock session after a run's end (R134): an EVACUATING session enters CHARGING if the charger is not OFF, else
BOUND. -/
def Dock.afterRun (d : Dock) (chargerOn : Bool) (now : Ms) : Dock :=
  if d.state = .evacuating then { d with state := if chargerOn then .charging else .bound, enteredAt := now } else d

/-- A counted run's result enters the binding (R134). -/
def Dock.recordResult (d : Dock) (kind : Option RunKind) (result : RunResult) : Dock :=
  if kind = some .counted then
    { d with binding := d.binding.map (fun b => { b with evacResult := some result }) }
  else d

/-- The DONE report of a manual run (R152). -/
def reportRun (kind : Option RunKind) (result : RunResult) (s : State) : State :=
  if kind = some .manual then handReport (.done 0x2E (runDoneResult result) 0) s else s

/-- The evacuation record after a run's end (R152). -/
def Evac.ended (e : Evac) (result : RunResult) (now : Ms) : Evac :=
  { phase := .none, kind := none, duration := none, durationTimer := none, startTime := none,
    lastResult := some result, lastKind := e.kind, lastEnd := some now, endMisses := none }

/-- The end of a run in flight but for the withdrawal of its fan request (R134, R152). -/
def endRunRecords (result : RunResult) (s : State) : State :=
  if s.evac.phase = .none then s
  else
    let chargerOn := decide (s.charger.state ≠ .off)
    reportRun s.evac.kind result
      { s with
        evac := s.evac.ended result s.now,
        dock := { (s.dock.recordResult s.evac.kind result).afterRun chargerOn s.now with
                  report := runEvacState result } }

/-- The end of a run in flight, with the withdrawal of its fan request, which is a stop request (R14, R152). -/
def endRun (result : RunResult) (s : State) : State :=
  if s.evac.phase = .none then s else driveStop (endRunRecords result s)

/-! ### Faults (R18, R22) -/

/-- The fault code of a drive fault. -/
def driveFaultEntry : DriveFault → FaultCode
  | .overcurrent => .overcurrent
  | .desync => .desync
  | .stall => .stall
  | .overspeed => .overspeed
  | .startFail => .startFail
  | .short => .rollShort

/-- The cause of the DRIVE report of an entry to FAULT. -/
def driveFaultCause : DriveFault → DriveCause
  | .overcurrent => .overcurrent
  | .desync => .desync
  | .stall => .stall
  | .overspeed => .overspeed
  | .startFail => .startFail
  | .short => .short

/-- The drive in FAULT (R18), before released is decided. -/
def faultRecord (cause : DriveFault) (now due : Ms) (d : Drive) : Drive :=
  { d with state := .fault, duty := 0, heldDuty := none, faultCause := some cause, startPending := false,
           retryPending := false, blocked := false, stallTimer := none, overTimer := none, blockTimer := none,
           catchCount := none, forcedPeriod := none, forcedIn := none, commIn := none, alignTimer := none,
           rampTimer := none, faultTimer := some due, enteredAt := now }

/-- released at the entry to FAULT: true if the run request no longer stands, the owner's claim having ended (R18;
log 13). -/
def decideReleased (s : State) : State :=
  if s.runRequest then { s with drive := { s.drive with released := some false } }
  else { s with drive := { s.drive with released := some true, owner := .none } }

/-- A drive fault (R18): FAULT with its fault entry (R22), the end of a floor calibration DRIVE_FAULT (R95) or of a run
FAILED (R151), and the DRIVE report. The DOCK report of the run's end follows (R137). The reports of the event are in the
order FAULT, DONE, DRIVE, DOCK (DESIGN CHOICE, log 10). -/
def driveFault (cause : DriveFault) (value : Reading) (second : Option Reading) (s : State) : State :=
  let left := leaveIfRun .fault s
  let faulted := appendFault .channelA (driveFaultEntry cause) value second
    { left with drive := faultRecord cause s.now (s.after 3000) left.drive }
  let released := decideReleased (endRunRecords .failed (endCalibration .driveFault faulted))
  reportDock .evacuation s (reportDrive (driveFaultCause cause) released)

/-! ### Forcing of the mode to OFF (R7, R15) -/

/-- The suction request mode forced to OFF: a floor calibration ends ABORTED, the drive is stopped, and a latched roll is
released (R7, R15, R95, R112). The DRIVE report is queued when the mode changes or the drive's state does (R15, R22), after
the DONE report of the calibration (DESIGN CHOICE, log 10). -/
def forceOff (cause : DriveCause) (s : State) : State :=
  let stopped := rollRelease .release
    (driveStop (endCalibration .aborted { s with drive := { s.drive with mode := .off } }))
  if driveMoved s stopped || decide (s.drive.mode ≠ .off) then reportDrive cause stopped else stopped

end Sys2Proof.Machine
end

