-- ==== Sys2Proof/Machine/Budget.lean ====
section
/-! DEFINITION. Power governor, its computations (sections 2.3 to 2.8): the allowance, the power demand, the grants, the
power figures and the duty step, each a function of its inputs. -/

namespace Sys2Proof.Machine

open Sys2Proof

/-! ### The allowance (R28, R29) -/

/-- f_tp from T_pack (R29). -/
def factorTp : Reading → Nat
  | .num t => if t ≤ 450 then 256 else if t < 600 then (256 * (600 - t) / 150).toNat else 0
  | .below => 256
  | .above => 0
  | .absent => 0

/-- f_v from Vmin (R29). -/
def factorV : Reading → Nat
  | .num v => if 3300 ≤ v then 256 else if 3000 ≤ v then (64 + 192 * (v - 3000) / 300).toNat else 64
  | .above => 256
  | .below => 64
  | .absent => 64

/-- f_tb from T3 (R29). -/
def factorTb : Reading → Nat
  | .num t => if t ≤ 900 then 256 else if t < 1100 then (256 * (1100 - t) / 200).toNat else 0
  | .below => 256
  | .above => 0
  | .absent => 0

/-- The three derating factors of a pack record; each is 0 with no record (R28, R29). -/
structure Factors where
  tp : Nat
  v : Nat
  tb : Nat

/-- The factors of the latest pack record. -/
def factorsOf : Option PackRecord → Factors
  | some r => ⟨factorTp (tPack r.t1 r.t2), factorV (vMin r.cells), factorTb r.t3⟩
  | none => ⟨0, 0, 0⟩

/-- The allowance in mA (R29). -/
def allowanceOf (limit : Nat) (f : Factors) (permitted : Bool) : Nat :=
  if permitted then limit * f.tp * f.v * f.tb / 16777216 else 0

/-- The allowance and the factors computed again from the latest pack record and the discharge permission; in DOCK role
they are ABSENT (R29). -/
def recomputeAllowance (s : State) : State :=
  match s.ctl.role with
  | .dock => { s with gov := { s.gov with allowance := none, fTp := none, fV := none, fTb := none } }
  | .stick =>
    let f := factorsOf s.pack.record
    { s with gov := { s.gov with allowance := some (allowanceOf s.gov.limits.discharge f s.prot.dischargeOk),
                                 fTp := some f.tp, fV := some f.v, fTb := some f.tb } }

/-- The allowance as a number; it is ABSENT in DOCK role only. -/
def State.allowance (s : State) : Nat := s.gov.allowance.getD 0

/-! ### The power demand (R30, R31, R41) -/

/-- The AUTO power in mW (R31). -/
def autoPower (p : ModePowers) (d : Option Nat) (autoAllowed : Bool) : Nat :=
  match d, autoAllowed with
  | some dirt, true => p.eco * 1000 + (p.autoMax * 1000 - p.eco * 1000) * dirt / 255
  | some _, false => p.med * 1000
  | none, _ => p.med * 1000

/-- The mode power in mW (R30). -/
def modePower (p : ModePowers) (mode : SuctionMode) (d : Option Nat) (autoAllowed : Bool) : Nat :=
  match mode with
  | .off => 0
  | .eco => p.eco * 1000
  | .med => p.med * 1000
  | .boost => p.boost * 1000
  | .auto => autoPower p d autoAllowed

/-- AUTO follows the dirt index, unless the match is an entry that does not allow it (R31). -/
def State.autoFollows (s : State) : Bool := (s.matched.map AttEntry.autoAllowed).getD true

/-- The attachment cap in mW (R30). -/
def State.attachmentCap (s : State) : Nat :=
  match s.att.result with
  | .bare => 500000
  | .unknown => s.gov.powers.eco * 1000
  | .entry _ => (s.matched.map AttEntry.suctionCap).getD 0 * 1000

/-- The cap of the blocked flag in mW, the ECO power (R21, R30). -/
def State.blockedCap (s : State) : Nat := if s.drive.blocked then s.gov.powers.eco * 1000 else 500000

/-- The demand of the selected mode in mW (R30). AUTO takes the dirt index as it stands in every drive state, so outside RUN
the D kept from the last window, which R78 says the governor does not use (DESIGN CHOICE, log 74). -/
def State.modeDemand (s : State) : Nat :=
  min (modePower s.gov.powers s.drive.mode s.debris.d s.autoFollows) (min s.attachmentCap s.blockedCap)

/-- P_hold after a period of speed hold (R41): 200 mW towards the target; a speed of ABSENT keeps it (log 28). -/
def holdStep (hold target : Nat) (speed : Option Nat) : Nat :=
  match speed with
  | none => hold
  | some v =>
    if v + 1000 < target then min 500000 (hold + 200) else if target + 1000 < v then hold - 200 else hold

/-- The drive is in RUN under a floor calibration (R41). -/
def State.holding (s : State) : Bool := decide (s.drive.owner = .calibration) && decide (s.drive.state = .run)

/-- P_hold as stage 3 of a period finds it: stepped in every period of a speed hold but the first (R41). -/
def State.heldPower (s : State) : Option Nat :=
  if s.holding then s.gov.pHold.map (fun h => holdStep h ((s.debris.cal.map FloorCal.target).getD 0) s.drive.speed)
  else s.gov.pHold

/-- The fan demand in mW (R30, R141). -/
def State.fanDemand (s : State) : Nat := if s.evac.phase = .none then 0 else s.evacSet.power * 1000

/-- P_dem of a period in STICK role, with P_hold as the period has it (R30, R41). -/
def State.stickDemand (s : State) (hold : Option Nat) : Nat :=
  if s.drive.owner = .calibration then hold.getD 0 else s.modeDemand

/-! ### The grant table in STICK role (R32, R33) -/

/-- The roll is wanted (R32). -/
def State.rollWanted (s : State) : Bool :=
  decide (s.drive.state = .run) && s.rollEntry && s.debris.cal.isNone && !s.roll.state.held

/-- The roll demand in mA. -/
def State.rollDemand (s : State) : Nat := if s.rollWanted then (s.matched.map AttEntry.rollCap).getD 0 else 0

/-- The overhead demand in mA. -/
def overheadDemand : Nat := 150

/-- The overhead grant for an allowance. -/
def overheadGrant (allowance : Nat) : Nat := if allowance < overheadDemand then 0 else overheadDemand

/-- The roll grant for an allowance and a roll demand. -/
def rollGrant (allowance demand : Nat) : Nat := min demand (allowance - overheadDemand)

/-- The suction grant: what remains (R32). -/
def suctionGrant (allowance demand : Nat) : Nat := allowance - overheadDemand - rollGrant allowance demand

/-- The suction demand in mA for a pack voltage, recorded for status (R32). -/
def suctionDemand (pDem : Nat) : Option Reading → Nat
  | some (.num v) => if v ≤ 0 then 0 else pDem * 1000 / v.toNat
  | some .above => 0
  | some .below => 0
  | some .absent => 0
  | none => 0

/-- The roll duty for a grant (R33). -/
def rollDuty (entryDuty grant demand : Nat) : Nat := if demand = 0 then 0 else entryDuty * grant / demand

/-! ### Power figures (R35) -/

/-- A power in mW from a voltage reading and a current: 0 for a value code. -/
def powerAt (v : Option Reading) (mA : Nat) : Nat :=
  match v with
  | some (.num n) => n.toNat * mA / 1000
  | some .above => 0
  | some .below => 0
  | some .absent => 0
  | none => 0

/-- The bus current in mA as P_meas takes it: ABOVE counts as 45,000 (R35). -/
def motorCurrent : Reading → Nat
  | .num n => n.toNat
  | .above => 45000
  | .below => 0
  | .absent => 0

/-- The power error, limited to −600,000..500,000 mW (R35). -/
def powerError (pCmd pMeas : Nat) : Int := clampInt (-600000) 500000 ((pCmd : Int) - pMeas)

/-! ### The duty step (R38 to R40) -/

/-- The bound of the integrator, 4,095 × 65,536. -/
def integratorBound : Int := 268369920

/-- The provisional integrator A′ (R38). -/
def nextIntegrator (a : Int) (ki : Nat) (e : Int) : Int := clampInt (-integratorBound) integratorBound (a + ki * e)

/-- The sum u of the step (R38). -/
def stepSum (kp : Nat) (e a' : Int) (residue : Nat) : Int := kp * e + a' + residue

/-- The slew and range clamps (R39). -/
def clampDuty (d : Int) (prev dutyMax : Nat) (lifted : Bool) : Nat :=
  let upper := min d ((prev : Int) + 64)
  let slewed := if lifted then upper else max ((prev : Int) - 64) upper
  min dutyMax slewed.toNat

/-- What a duty step leaves: the PI state, the duty, and whether a clamp acted. -/
structure DutyStep where
  a : Int
  residue : Nat
  duty : Nat
  saturated : Bool
  deriving DecidableEq, Repr

/-- The duty step (R38 to R40). The division rounds towards minus infinity. -/
def dutyStep (g : Gov) (e : Int) (lifted : Bool) : DutyStep :=
  let a' := nextIntegrator g.a g.ki e
  let u := stepSum g.kp e a' g.residue
  let d := u.fdiv 65536
  let duty := clampDuty d g.prev g.limits.dutyMax lifted
  if (duty : Int) = d then ⟨a', (u.fmod 65536).toNat, duty, false⟩
  else if ((duty : Int) < d ∧ 0 < e) ∨ (d < (duty : Int) ∧ e < 0) then ⟨g.a, 0, duty, true⟩
  else ⟨a', 0, duty, true⟩

/-- The lower slew bound is lifted: the latest pack record shows a discharge current above five quarters of the
allowance (R39). -/
def State.slewLifted (s : State) : Bool :=
  s.isStick &&
  match s.pack.record with
  | some r => r.packI.lt (-((s.allowance * 5 / 4 : Nat) : Int))
  | none => false

end Sys2Proof.Machine
end

