-- ==== Sys2Proof/Machine/Charger.lean ====
section
/-! DEFINITION. Charger stage and evacuation run (chapter 7): the split, the charger's states, commands and faults, the runs,
and their commands and requests. -/

namespace Sys2Proof.Machine

open Sys2Proof

/-! ### Readings (R143) -/

/-- The stage switches: SOFTSTART, CC or CV. -/
def ChargerState.switches : ChargerState → Bool
  | .softstart => true
  | .cc => true
  | .cv => true
  | .off => false
  | .fault => false

/-- Means or readings enter the charger record; I_out reads 0 while the stage does not switch (R143). -/
def recordReadings (r : ChargerReadings) (c : Charger) : Charger :=
  { c with vOut := r.vOut, iOut := if c.state.switches then r.iOut else .num 0, supply := r.supply }

/-- The mean of the voltages read over a period: ABSENT when the sense was open at one of them (R143; DESIGN CHOICE, log
71). -/
def meanVoltage (vs : List (Option Nat)) : Option Nat :=
  if vs.all Option.isSome then some ((vs.map (fun v => v.getD 0)).sum / vs.length) else none

/-- The means over a period of the readings taken in it: I_out is ABOVE when one of them is (R143). Of no reading there is no
mean, and the record keeps its fields (DESIGN CHOICE, log 71). -/
def chargerMeans (rs : List ChargerReadings) (c : Charger) : ChargerReadings :=
  if rs.isEmpty then ⟨c.vOut, c.iOut, c.supply⟩
  else ⟨meanVoltage (rs.map ChargerReadings.vOut),
    meanReading ((rs.map ChargerReadings.iOut).foldl CurrentSum.add CurrentSum.empty),
    meanVoltage (rs.map ChargerReadings.supply)⟩

/-- CHARGER_READING (R143): the readings taken every 10 ms while the governor's period timer does not run. -/
def execChargerReading (readings : ChargerReadings) (s : State) : Host.Outcome State Fault Refusal :=
  event (s.isDock && s.gov.timer.isNone) (fun s => { s with charger := recordReadings readings s.charger }) s

/-! ### The split (R141) -/

/-- The overhead of the dock supply in mW. -/
def dockOverhead : Nat := 2000

/-- The fan grant in mW. -/
def fanGrant (budget demand : Nat) : Nat := min demand (budget - dockOverhead)

/-- The charger output allowance in mW. -/
def chargerAllowance (budget demand : Nat) : Nat := (budget - dockOverhead - fanGrant budget demand) * 15 / 16

/-- The charger current cap in mA. -/
def chargerCap (allowance : Nat) : Option Nat → Nat
  | some v => allowance * 1000 / max 20000 v
  | none => 0

/-- The dock supply split (R141). -/
def splitOf (budget demand : Nat) (vOut : Option Nat) : Split :=
  ⟨budget, demand, fanGrant budget demand, chargerAllowance budget demand,
    chargerCap (chargerAllowance budget demand) vOut⟩

/-! ### States and commands (R144, R145) -/

/-- Entry to OFF (R144). -/
def Charger.enterOff (c : Charger) (now : Ms) : Charger :=
  { c with state := .off, setpoint := 0, iOut := .num 0, ovpTimer := none, ocpTimer := none, faultCause := none,
           restartPending := false, restartTimer := none, enteredAt := now }

/-- Entry to SOFTSTART (R145), with no fault cause and no restart timer, which stand in FAULT alone (R142). Restart pending keeps
its value: R144 and R147 name its clearings, and this entry is none of them (DEDUCED, log 64). -/
def Charger.enterSoftstart (c : Charger) (now : Ms) : Charger :=
  { c with state := .softstart, setpoint := 0, ovpTimer := none, ocpTimer := none, faultCause := none,
           restartTimer := none, enteredAt := now }

/-- The values of a NEED enter the record, and the setpoint is limited to the new need limit at once (R144). -/
def Charger.take (c : Charger) (n : Need) : Charger :=
  { c with target := n.target, needLimit := n.limit, precharge := n.precharge, setpoint := min c.setpoint n.limit }

/-- A SOFTSTART or NEW LIMIT command (R144): the two act alike in every state. -/
def Charger.run (c : Charger) (n : Need) (now : Ms) : Charger :=
  match c.state with
  | .off => (c.take n).enterSoftstart now
  | .softstart => c.take n
  | .cc => c.take n
  | .cv => c.take n
  | .fault => if c.latched then c.take n else { c.take n with restartPending := true }

/-- An OFF command (R144). -/
def Charger.stop (c : Charger) (now : Ms) : Charger :=
  match c.state with
  | .off => c
  | .softstart => c.enterOff now
  | .cc => c.enterOff now
  | .cv => c.enterOff now
  | .fault => if c.latched then c else c.enterOff now

/-- The release of the latch at the entry to VACANT: the fault count becomes 0 and the charger enters OFF (R136, R148). -/
def Charger.vacate (c : Charger) (now : Ms) : Charger :=
  let d : Charger := { c with latched := false, faultCount := 0 }
  d.stop now

/-! ### Faults (R147) -/

/-- The cause found at a period, the first in the order OVP, OCP, SUPPLY_UV. -/
def faultFound (ovp ocp uv : Bool) : Option ChargerFault :=
  if ovp then some .ovp else if ocp then some .ocp else if uv then some .supplyUv else none

/-- The charger in FAULT. -/
def Charger.enterFault (c : Charger) (cause : ChargerFault) (now due : Ms) : Charger :=
  let d : Charger := { c with state := .fault, setpoint := 0, iOut := .num 0, faultCause := some cause,
                              ovpTimer := none, ocpTimer := none, faultCount := c.faultCount + 1, enteredAt := now }
  if 3 ≤ c.faultCount + 1 then { d with latched := true } else { d with restartPending := false, restartTimer := some due }

/-- The fault code of a charger fault. -/
def chargerFaultEntry : ChargerFault → FaultCode
  | .ovp => .ovp
  | .ocp => .ocp
  | .supplyUv => .supplyUv

/-- The value and second value of the fault entry, from the record as it stood during the period. -/
def chargerFaultValues (c : Charger) : ChargerFault → Reading × Reading
  | .ovp => (optReading c.vOut, .num c.target)
  | .ocp => (c.iOut, .num c.setpoint)
  | .supplyUv => (optReading c.supply, .num (c.faultCount + 1))

/-- Entry to FAULT with its fault entry. -/
def chargerFault (cause : ChargerFault) (s : State) : State :=
  let v := chargerFaultValues s.charger cause
  appendFault .charger (chargerFaultEntry cause) v.1 (some v.2)
    { s with charger := s.charger.enterFault cause s.now (s.after 5000) }

/-- SUPPLY_UV: the supply below 30,000 mV or ABSENT. -/
def supplyLow (supply : Option Nat) : Bool :=
  match supply with
  | some v => decide (v < 30000)
  | none => true

/-- The fault evaluation of a period. -/
def evaluateFaults (s : State) : State :=
  let c := s.charger
  if c.state.switches then
    let ovp := holdTimer s.now c.ovpTimer (fasterThan c.vOut (c.target + 301)) 10
    let ocp := holdTimer s.now c.ocpTimer (c.iOut.gt ((c.setpoint + 1000 : Nat) : Int)) 10
    let t : State := { s with charger := { c with ovpTimer := ovp.1, ocpTimer := ocp.1 } }
    match faultFound ovp.2 ocp.2 (supplyLow c.supply) with
    | some cause => chargerFault cause t
    | none => t
  else s

/-! ### Regulation (R145, R146) -/

/-- The charger enters a regulating state. -/
def Charger.goTo (c : Charger) (state : ChargerState) (now : Ms) : Charger := { c with state := state, enteredAt := now }

/-- The setpoint of a period, and the transitions among SOFTSTART, CC and CV; `t` is the time in the state. -/
def Charger.regulate (c : Charger) (cap t : Nat) (now : Ms) : Charger :=
  let full := min c.needLimit cap
  match c.state with
  | .softstart =>
    if t < 200 then { c with setpoint := full * t / 200 } else { c.goTo .cc now with setpoint := full }
  | .cc =>
    let d : Charger := { c with setpoint := full }
    if fasterThan c.vOut (c.target - 20) then d.goTo .cv now else d
  | .cv =>
    let d : Charger := { c with setpoint := full }
    if c.iOut.ge (full : Int) then d.goTo .cc now else d
  | .off => c
  | .fault => c

/-- The charger stage's work of a governor period (R141, R143, R145 to R147): the means, the fault evaluation, the split
and the setpoint. -/
def chargerPeriod (means : ChargerReadings) (s : State) : State :=
  let t := evaluateFaults { s with charger := recordReadings means s.charger }
  let split := splitOf t.charger.budget t.fanDemand t.charger.vOut
  { t with charger := { t.charger.regulate split.cap (t.since t.charger.enteredAt) t.now with split := some split } }

/-! ### Restart (R148) -/

/-- A NEED asks for charge (R133). -/
def Need.asks (n : Need) : Bool := n.permitted && decide (0 < n.limit)

/-- The last accepted NEED of the binding. -/
def State.lastNeed (s : State) : Option NeedMsg := s.dock.binding.bind DockBinding.need

/-- The last accepted NEED asks for charge. -/
def State.needAsks (s : State) : Bool :=
  match s.lastNeed with
  | some m => m.need.asks
  | none => false

/-- The dock session is CHARGING or EVACUATING. -/
def DockState.charges : DockState → Bool
  | .charging => true
  | .evacuating => true
  | .vacant => false
  | .hailing => false
  | .bound => false
  | .hold => false

/-- The expiry of the restart timer. -/
def restart (s : State) : State :=
  if s.dock.state.charges && s.needAsks then { s with charger := s.charger.enterSoftstart s.now }
  else { s with charger := s.charger.enterOff s.now }

/-- RESTART_TIMER_EXPIRY (R148). -/
def execRestartTimerExpiry (s : State) : Host.Outcome State Fault Refusal :=
  event (decide (s.charger.state = .fault) && s.charger.restartTimer.isSome) restart s

/-! ### Evacuation runs (R134, R149 to R152) -/

/-- The dock session at a run's start (R134). -/
def Dock.runStarts (d : Dock) (kind : RunKind) (now : Ms) : Dock :=
  let bound := match kind with
    | .counted => d.binding.map (fun b => { b with evacsDone := 1 })
    | .manual => d.binding
  let e : Dock := { d with report := .running, binding := bound }
  match d.state with
  | .bound => { e with state := .evacuating, enteredAt := now }
  | .charging => { e with state := .evacuating, enteredAt := now }
  | .vacant => e
  | .hailing => e
  | .evacuating => e
  | .hold => e

/-- The start of a run (R150): the record, the dock session, and the start request to channel A, with its report. -/
def startRun (kind : RunKind) (s : State) : State :=
  let t : State :=
    { s with evac := { s.evac with phase := .spinning, kind := some kind, startTime := some s.now },
             dock := s.dock.runStarts kind s.now }
  reportStart s (startRequest .evacuation t)

/-- The start conditions of a counted run (R150). -/
def State.countedRunDue (s : State) : Bool :=
  (decide (s.dock.state = .bound) || decide (s.dock.state = .charging))
    && (match s.lastNeed with
      | some m => m.evacRequest
      | none => false)
    && decide (s.dock.binding.map DockBinding.evacsDone = some 0) && decide (s.drive.state = .off)
    && decide (s.evac.phase = .none)

/-- The miss count of a drive in RUN. -/
def Drive.missesInRun (d : Drive) : Option Nat := if d.state = .run then some d.missCount else none

/-- The expiry of the duration timer ends the run DONE (R151, R152). The miss count is kept for a fan fault of the same
instant (log 59). -/
def spellOver (s : State) : State :=
  let t := endRun .done s
  let marked : State := { t with evac := { t.evac with endMisses := s.drive.missesInRun } }
  reportDock .evacuation s (reportMove .evacuation s marked)

/-- DURATION_TIMER_EXPIRY (R151). -/
def execDurationTimerExpiry (s : State) : Host.Outcome State Fault Refusal :=
  event (decide (s.evac.phase = .timing) && s.evac.durationTimer.isSome) spellOver s

/-! ### Requests (section 7.7) -/

/-- SET_DOCK_SUPPLY (R153). -/
def setDockSupplySpec : RequestSpec :=
  ⟨0x2D, false, true, lengthIs 5, anyForm, false, false, fun p s =>
    let budget := clampNat 60000 600000 (u32At p 0)
    let keep := byteAt p 4
    if keepOk keep = false then refuse .outOfRange s
    else if keepBusy keep s then refuse .busy s
    else ⟨okOrClamped (decide (budget ≠ u32At p 0)),
      keepWrite keep 0x2D 0x09 (u32 budget) { s with charger := { s.charger with budget := budget } }, []⟩⟩

/-- SET_DOCK_SUPPLY. -/
def execSetDockSupply (s : State) : Host.Outcome State Fault Refusal := request setDockSupplySpec s

/-- START_EVACUATION (R154). -/
def startEvacuationSpec : RequestSpec :=
  ⟨0x2E, false, true, emptyPayload, anyForm, false, false, fun _ s =>
    if s.evac.phase ≠ .none then refuse .busy s
    else if s.drive.state = .fault then refuse .denied s
    else ⟨.accepted, reportDock .evacuation s (startRun .manual s), []⟩⟩

/-- START_EVACUATION. -/
def execStartEvacuation (s : State) : Host.Outcome State Fault Refusal := request startEvacuationSpec s

/-- The time elapsed in TIMING in ms (R155). -/
def State.spellElapsed (s : State) : Option Nat :=
  match s.evac.duration, s.evac.durationTimer with
  | some d, some due => some (s.since (due - BitVec.ofNat 32 (d * 1000)))
  | some _, none => none
  | none, _ => none

/-- The fields of the split in CHARGER_STATUS, ABSENT before the first period (R155): unsigned, the powers in 32 bits with an
ABSENT of 0xFFFFFFFF (DEDUCED, log 80). -/
def splitFields (x : Option Split) : List Byte :=
  opt32 (x.map Split.budget) ++ opt32 (x.map (fun _ => dockOverhead)) ++ opt32 (x.map Split.fanDemand)
    ++ opt32 (x.map Split.fanGrant) ++ opt32 (x.map Split.allowance) ++ opt16 (x.map Split.cap)

/-- The reply fields of CHARGER_STATUS. V_out and supply go out as unsigned values, I_out as a signed measurement
(DEDUCED, log 18), and every field of 32 bits as an unsigned one (DEDUCED, log 80). -/
def chargerStatusFields (s : State) : List Byte :=
  let c := s.charger
  let e := s.evac
  u8 (chargerStateCode c.state) ++ u16 c.target ++ u16 c.needLimit ++ boolByte c.precharge ++ u16 c.setpoint
    ++ opt16 c.vOut ++ s16 c.iOut ++ opt16 c.supply ++ opt8 (c.faultCause.map chargerFaultCode) ++ u8 c.faultCount
    ++ boolByte c.latched ++ boolByte c.restartPending ++ u32 c.enteredAt.toNat ++ splitFields c.split
    ++ u8 (runPhaseCode e.phase) ++ opt8 (e.kind.map runKindCode) ++ opt8 e.duration ++ opt32 s.spellElapsed
    ++ optMs e.startTime ++ opt8 (e.lastResult.map runResultCode) ++ opt8 (e.lastKind.map runKindCode)
    ++ optMs e.lastEnd ++ u8 (dockFlagsCode s.dockFlags)

/-- CHARGER_STATUS (R155). -/
def chargerStatusSpec : RequestSpec :=
  ⟨0x2C, false, true, emptyPayload, anyForm, false, false, fun _ s => ⟨.ok, s, chargerStatusFields s⟩⟩

/-- CHARGER_STATUS. -/
def execChargerStatus (s : State) : Host.Outcome State Fault Refusal := request chargerStatusSpec s

end Sys2Proof.Machine
end

