-- ==== Sys2Proof/Machine/Pack.lean ====
section
/-! DEFINITION. Pack monitor and protection (chapter 3): the scan, the charge counter, the causes, the permissions, balancing,
the charge need record, and the commands. -/

namespace Sys2Proof.Machine

open Sys2Proof

/-! ### The record (R50, R51) -/

/-- The cell readings of a scan: the first N taps, each with its offset (R50). -/
def scanCells (n : Nat) (taps offsets : List Int) : List Reading :=
  (List.range n).map (fun i => cellReading (taps.getD i 0) (offsets.getD i 0))

/-- The pack record that a scan publishes (R51). -/
def formRecord (s : State) (scan : RawScan) : PackRecord :=
  ⟨s.now, scanCells s.cellCount scan.taps s.pack.offsets, packVoltageReading scan.packV, packCurrentReading scan.packI,
    temperatureReading scan.t1, temperatureReading scan.t2, temperatureReading scan.t3⟩

/-- dt_ms: the part time since the previous publication, 0 for the first after a reset (R51). -/
def State.sincePublication (s : State) : Nat :=
  match s.pack.record with
  | some r => s.since r.scanTime
  | none => 0

/-- T_pack of a record (R28). -/
def PackRecord.tPack (r : PackRecord) : Reading := Sys2Proof.Machine.tPack r.t1 r.t2

/-! ### The charge counter (R53 to R57) -/

/-- The full charge in mAs. -/
def Pack.fullCharge (p : Pack) : Nat := p.capacity * 3600

/-- The pack current as the integration takes it (R54). -/
def integrationCurrent : Reading → Int
  | .num n => n
  | .below => -50000
  | .above => 20000
  | .absent => 0

/-- The integration of an interval (R54). -/
def Pack.integrate (p : Pack) (current : Reading) (dt : Nat) : Pack :=
  let sum := p.acc + integrationCurrent current * dt - (p.balance.length * 60 * dt : Nat)
  let moved := sum.tdiv 1000
  { p with acc := sum - moved * 1000, q := (clampInt 0 p.fullCharge (p.q + moved)).toNat }

/-- The state-of-charge points of the OCV table in permille (R52). -/
def ocvPoints : List Nat := [0, 50, 100, 200, 350, 500, 650, 850, 1000]

/-- The state of charge between two points of the OCV table (R56). -/
def interpolate (v s v' s' avg : Nat) : Nat := s + (s' - s) * (avg - v) / (v' - v)

/-- The conversion of a resting cell voltage by the points of the OCV table (R56). -/
def ocvSearch : List (Nat × Nat) → Nat → Nat
  | [], _ => 1000
  | [_], _ => 1000
  | a :: b :: rest, avg =>
    if avg < b.1 then interpolate a.1 a.2 b.1 b.2 avg else ocvSearch (b :: rest) avg

/-- The state of charge of a resting cell voltage in permille (R56). -/
def ocvToSoc (table : List Nat) (avg : Nat) : Nat :=
  if avg ≤ table.headD 0 then 0 else ocvSearch (table.zip ocvPoints) avg

/-- The pack is at rest (R56). -/
def PackRecord.atRest (r : PackRecord) : Bool := r.packI.within 50 && r.cells.all Reading.isNum

/-- A calibration of Q: valid, with no remainder and no rest timer (R56, R57). -/
def Pack.calibrate (p : Pack) (q : Nat) : Pack := { p with q := q, valid := true, acc := 0, restTimer := none }

/-- The estimate from the resting cell voltage (R56). -/
def restEstimate (p : Pack) (r : PackRecord) : Nat :=
  ocvToSoc p.ocv ((cellSum r.cells).toNat / r.cells.length) * p.capacity * 36 / 10

/-- The rest timer and the estimate at a publication (R56). -/
def Pack.rest (p : Pack) (r : PackRecord) (now : Ms) : Pack :=
  if p.valid then { p with restTimer := none }
  else
    let j := qualify now p.restTimer r.atRest 2000
    if j.2 then p.calibrate (restEstimate p r) else { p with restTimer := j.1 }

/-! ### The causes (R59 to R65, R68) -/

/-- A protection entry of the fault ring (R68). -/
def packFault (code : FaultCode) (value : Reading) (second : Option Nat) (s : State) : State :=
  appendFault .packMonitor code value (second.map (fun n => .num n)) s

/-- A reading of the highest cell and its index, for a fault entry (R68). -/
def highestEntry (cells : List Reading) : Reading × Option Nat :=
  match highestCell cells with
  | some r => (r, some (cellIndex cells r))
  | none => (.absent, none)

/-- The lowest cell reading and its index, for a fault entry (R68). -/
def lowestEntry (cells : List Reading) : Reading × Option Nat :=
  match lowestCell cells with
  | some v => (.num v, some (cellIndex cells (.num v)))
  | none => (.absent, none)

/-- The lowest cell is a number below a bound. -/
def lowestBelow (cells : List Reading) (mV : Int) : Bool :=
  match lowestCell cells with
  | some v => decide (v < mV)
  | none => false

/-- No cell reads ABSENT. -/
def noneAbsent (cells : List Reading) : Bool := cells.all (fun r => !r.isAbsent)

/-- CELL_OV (R60). -/
def judgeCellOv (r : PackRecord) (s : State) : State :=
  if s.prot.active.cellOv then
    if r.cells.all (fun c => c.numLt 4150) then
      { s with prot := { s.prot with active := { s.prot.active with cellOv := false } } }
    else s
  else
    let j := qualify s.now s.prot.tOv (highestAbove r.cells 4250) 100
    let t : State := { s with prot := { s.prot with tOv := j.1 } }
    if j.2 then
      packFault .cellOv (highestEntry r.cells).1 (highestEntry r.cells).2
        { t with prot := { t.prot with active := { t.prot.active with cellOv := true } } }
    else t

/-- CELL_UV, whose assertion is a calibration point (R57, R60). -/
def judgeCellUv (r : PackRecord) (s : State) : State :=
  if s.prot.active.cellUv then
    if (lowestCell r.cells).isSome && !lowestBelow r.cells 3100 && noneAbsent r.cells then
      { s with prot := { s.prot with active := { s.prot.active with cellUv := false } } }
    else s
  else
    let j := qualify s.now s.prot.tUv (lowestBelow r.cells 2900) 500
    let t : State := { s with prot := { s.prot with tUv := j.1 } }
    if j.2 then
      packFault .cellUv (lowestEntry r.cells).1 (lowestEntry r.cells).2
        { t with prot := { t.prot with active := { t.prot.active with cellUv := true } }, pack := t.pack.calibrate 0 }
    else t

/-- DSG_OT (R61). A T_pack of BELOW is below every number (R59) and releases the cause, after an open thermistor too, where R61
waits for a numeric T_pack below 500 (DESIGN CHOICE, log 77). -/
def judgeDsgOt (r : PackRecord) (s : State) : State :=
  if s.prot.active.dsgOt then
    if r.tPack.lt 500 then { s with prot := { s.prot with active := { s.prot.active with dsgOt := false } } } else s
  else
    let j := qualify s.now s.prot.tOt (r.tPack.ge 600) 1000
    let t : State := { s with prot := { s.prot with tOt := j.1 } }
    if j.2 then
      packFault .dsgOt r.tPack none { t with prot := { t.prot with active := { t.prot.active with dsgOt := true } } }
    else t

/-- The OC event list with a scan time appended; it holds the last 3 (R63). -/
def ocAppend (events : List Ms) (time : Ms) : List Ms :=
  if events.length < 3 then events ++ [time] else events.drop (events.length - 2) ++ [time]

/-- The list holds 3 entries, the newest at most 60,000 ms after the oldest (R63). -/
def ocRepeats : List Ms → Bool
  | [a, _, c] => decide ((c - a).toNat ≤ 60000)
  | _ => false

/-- OC_REPEAT asserted when the list calls for it (R63, R65). -/
def judgeRepeat (r : PackRecord) (s : State) : State :=
  if ocRepeats s.prot.ocEvents then
    packFault .ocRepeat r.packI none
      { s with prot := { s.prot with lockedOut := true, lockout := { s.prot.lockout with ocRepeat := true } } }
  else s

/-- DSG_OC asserted (R63). -/
def assertDsgOc (r : PackRecord) (s : State) : State :=
  let events := ocAppend s.prot.ocEvents r.scanTime
  judgeRepeat r
    (packFault .dsgOc r.packI (some events.length)
      { s with prot := { s.prot with active := { s.prot.active with dsgOc := true }, ocEvents := events,
                                     ocClear := some (s.after 5000) } })

/-- DSG_OC; its release is the expiry of the clear timer (R63). -/
def judgeDsgOc (r : PackRecord) (s : State) : State :=
  if s.prot.active.dsgOc then s
  else
    let j := qualify s.now s.prot.tOc (r.packI.lt (-40000)) 20
    let t : State := { s with prot := { s.prot with tOc := j.1 } }
    if j.2 then assertDsgOc r t else t

/-- CHG_OC, against the need limit L as it stood before this publication; its release is the entry to DETACHED (R64). Of its
two conditions only the one that has qualified loses its timer (R59); the other's stays as it stands until DETACHED. -/
def judgeChgOc (r : PackRecord) (needLimit : Nat) (s : State) : State :=
  if s.prot.active.chgOc then s
  else if s.stick.state = .detached then { s with prot := { s.prot with tChgCeiling := none, tChgNeed := none } }
  else
    let ceiling := qualify s.now s.prot.tChgCeiling (r.packI.gt 5000) 100
    let need := qualify s.now s.prot.tChgNeed (r.packI.gt ((needLimit + 500 : Nat) : Int)) 1000
    let t : State := { s with prot := { s.prot with tChgCeiling := ceiling.1, tChgNeed := need.1 } }
    if ceiling.2 || need.2 then
      packFault .chgOc r.packI (some needLimit)
        { t with prot := { t.prot with active := { t.prot.active with chgOc := true } } }
    else t

/-- The readings that SENSE guards, with the numbers of a fault entry: the cells from 1, then 9, 10, 11 (R62, R68). -/
def senseReadings (r : PackRecord) : List (Nat × Reading) :=
  (r.cells.mapIdx (fun i c => (i + 1, c))) ++ [(9, r.t1), (10, r.t2), (11, r.t3)]

/-- The number of the first ABSENT reading. -/
def firstAbsent (r : PackRecord) : Option Nat := ((senseReadings r).find? (fun x => x.2.isAbsent)).map Prod.fst

/-- SENSE (R62). -/
def judgeSense (r : PackRecord) (s : State) : State :=
  match s.prot.active.sense, firstAbsent r with
  | true, absent =>
    let j := qualify s.now s.prot.senseTimer absent.isNone 1000
    { s with prot := { s.prot with senseTimer := j.1, active := { s.prot.active with sense := !j.2 } } }
  | false, some k =>
    packFault .sense (.num k) none { s with prot := { s.prot with active := { s.prot.active with sense := true } } }
  | false, none => s

/-- OV_SEVERE (R65). -/
def judgeOvSevere (r : PackRecord) (s : State) : State :=
  let j := qualify s.now s.prot.tOvSevere (highestAbove r.cells 4400) 100
  let t : State := { s with prot := { s.prot with tOvSevere := j.1 } }
  if j.2 then
    packFault .ovSevere (highestEntry r.cells).1 (highestEntry r.cells).2
      { t with prot := { t.prot with lockedOut := true, lockout := { t.prot.lockout with ovSevere := true } } }
  else t

/-- UV_SEVERE (R65). -/
def judgeUvSevere (r : PackRecord) (s : State) : State :=
  let j := qualify s.now s.prot.tUvSevere (lowestBelow r.cells 1500) 1000
  let t : State := { s with prot := { s.prot with tUvSevere := j.1 } }
  if j.2 then
    packFault .uvSevere (lowestEntry r.cells).1 (lowestEntry r.cells).2
      { t with prot := { t.prot with lockedOut := true, lockout := { t.prot.lockout with uvSevere := true } } }
  else t

/-- Every condition evaluated at a publication (R59). The causes of one publication append their entries in this order:
CELL_OV, CELL_UV, DSG_OT, DSG_OC with OC_REPEAT, CHG_OC, SENSE, OV_SEVERE, UV_SEVERE; the spec orders only DSG_OC before
OC_REPEAT (DESIGN CHOICE, log 60). -/
def judgeCauses (r : PackRecord) (needLimit : Nat) (s : State) : State :=
  judgeUvSevere r (judgeOvSevere r (judgeSense r (judgeChgOc r needLimit (judgeDsgOc r (judgeDsgOt r
    (judgeCellUv r (judgeCellOv r s)))))))

/-! ### The charge need record (R71) -/

/-- The reason of the charge need record. -/
def needReason (s : State) (t : Reading) : NeedReason :=
  if s.prot.chargeOk = false then (if s.prot.active.chgOc then .cutoffChg else .protection)
  else if t.lt 0 || t.gt 450 then .temp
  else if s.pack.full then .full
  else .none

/-- The limit and the precharge flag of a permitted charge. -/
def needLimits (limit : Nat) (t : Reading) (cells : List Reading) : Nat × Bool :=
  let halved := if t.ge 0 && t.lt 100 then limit / 2 else limit
  if lowestBelow cells 3000 then (max 100 (halved / 10), true) else (halved, false)

/-- The temperature and the cells of the latest pack record, ABSENT and none before the first. -/
def State.needInputs (s : State) : Reading × List Reading :=
  match s.pack.record with
  | some r => (r.tPack, r.cells)
  | none => (.absent, [])

/-- target_mV: N times the per-cell target, and 0 with an invalid CELLS strap (R67, R71). -/
def State.needTarget (s : State) : Nat := s.cellCount * s.gov.limits.cellTarget

/-- The charge need record (R71). -/
def needOf (s : State) : Need :=
  let inputs := s.needInputs
  match needReason s inputs.1 with
  | .none =>
    let l := needLimits s.gov.limits.charge inputs.1 inputs.2
    ⟨s.needTarget, l.1, true, .none, l.2⟩
  | .full => ⟨s.needTarget, 0, false, .full, false⟩
  | .temp => ⟨s.needTarget, 0, false, .temp, false⟩
  | .protection => ⟨s.needTarget, 0, false, .protection, false⟩
  | .cutoffChg => ⟨s.needTarget, 0, false, .cutoffChg, false⟩

/-- The charge need record is recomputed. -/
def recomputeNeed (s : State) : State := { s with pack := { s.pack with need := needOf s } }

/-! ### The permissions and the level (R66) -/

/-- discharge_permitted (R66). -/
def dischargePermitted (p : Prot) : Bool :=
  !p.lockedOut && p.evaluated && !(p.active.cellUv || p.active.dsgOt || p.active.dsgOc || p.active.sense)

/-- charge_permitted (R66). -/
def chargePermitted (p : Prot) : Bool :=
  !p.lockedOut && p.evaluated && !(p.active.cellOv || p.active.chgOc || p.active.sense)

/-- The level for an allowance and a discharge limit (R66). -/
def levelOf (p : Prot) (allowance limit : Nat) : ProtLevel :=
  if p.lockedOut then .lockout
  else if p.active ≠ CauseSet.empty then .cutoff
  else if allowance < limit then .derated
  else .normal

/-- The permissions take their values; a change of the discharge permission recomputes the allowance (R29, R66). -/
def applyPermissions (s : State) : State :=
  let t : State := { s with prot := { s.prot with dischargeOk := dischargePermitted s.prot,
                                                  chargeOk := chargePermitted s.prot } }
  if t.prot.dischargeOk = s.prot.dischargeOk then t else recomputeAllowance t

/-- The PROTECTION report (R66). -/
def reportProtection (s : State) : State :=
  handReport (.protection s.prot.level s.prot.active s.prot.lockout s.prot.dischargeOk s.prot.chargeOk) s

/-- The level, cause sets and permissions of two records agree. -/
def Prot.sameStanding (p q : Prot) : Bool :=
  decide (p.level = q.level) && decide (p.active = q.active) && decide (p.lockedOut = q.lockedOut)
    && decide (p.lockout = q.lockout) && decide (p.dischargeOk = q.dischargeOk) && decide (p.chargeOk = q.chargeOk)

/-- The level evaluated after the permissions; its change queues one report, and any change sets the time of last change
(R66). -/
def evaluateLevel (before : Prot) (s : State) : State :=
  let t : State := { s with prot := { s.prot with level := levelOf s.prot s.allowance s.gov.limits.discharge } }
  let u : State :=
    if t.prot.sameStanding before then t else { t with prot := { t.prot with lastChange := s.now } }
  if u.prot.level = before.level then u else reportProtection u

/-- The permissions, what their changes do, and the level (R66). `before` is the protection record before the event. -/
def evaluateProtection (before : Prot) (s : State) : State :=
  let t := applyPermissions s
  let stopped := if before.dischargeOk && !t.prot.dischargeOk then forceOff .dischargeLost t else t
  let needed := if t.prot.chargeOk = before.chargeOk then stopped else recomputeNeed stopped
  evaluateLevel before needed

/-! ### Balancing (R69, R70) -/

/-- Channel A is in OFF, COAST or FAULT. -/
def State.bridgeOff (s : State) : Bool := !s.drive.state.drives

/-- Balancing is active at a publication (R69). -/
def balancingActive (s : State) (r : PackRecord) : Bool :=
  s.bridgeOff && (decide (s.stick.state = .charging) || r.packI.within 200)
    && (match highestCell r.cells with
      | some h => h.ge 3900
      | none => false)
    && noneAbsent r.cells && r.cells.any Reading.isNum

/-- How a cell reading ranks in the selection: an ABOVE is higher than every number. -/
def cellRank : Reading → Int
  | .num n => n
  | .above => 100000
  | .below => -100000
  | .absent => -100000

/-- A cell is a candidate: a starter above Vmin by more than 30 mV, or a continuer by more than 10 mV (R70). -/
def isCandidate (balance : List Nat) (vmin : Int) (x : Nat × Reading) : Bool :=
  decide (vmin + (if balance.contains x.1 then 10 else 30) < cellRank x.2)

/-- A candidate placed in the order by reading, highest first, and by index among equals (R70). -/
def placeCandidate (x : Nat × Reading) : List (Nat × Reading) → List (Nat × Reading)
  | [] => [x]
  | y :: rest => if cellRank y.2 < cellRank x.2 then x :: y :: rest else y :: placeCandidate x rest

/-- The candidates in order. Each is placed behind its equals, so those of lower index come first. -/
def orderCandidates (xs : List (Nat × Reading)) : List (Nat × Reading) :=
  xs.foldl (fun acc x => placeCandidate x acc) []

/-- The balance set selected anew: the first three candidates (R70). -/
def selectBalance (balance : List Nat) (cells : List Reading) : List Nat :=
  let vmin := (lowestCell cells).getD 0
  let numbered := cells.mapIdx (fun i c => (i + 1, c))
  ((orderCandidates (numbered.filter (isCandidate balance vmin))).take 3).map Prod.fst

/-- The balance set at a publication (R69, R70). -/
def rebalance (r : PackRecord) (s : State) : State :=
  { s with pack := { s.pack with
      balance := if balancingActive s r then selectBalance s.pack.balance r.cells else [] } }

/-! ### FULL (R72) -/

/-- The condition of FULL, against the charge need record as it stood before this publication. -/
def fullCondition (s : State) (r : PackRecord) (need : Need) : Bool :=
  decide (s.stick.state = .charging) && r.packI.lt ((max 50 (need.limit / 20) : Nat) : Int)
    && r.packV.ge ((need.target - 10 * s.cellCount : Nat) : Int)

/-- The clearing condition of FULL: the highest cell is a number below the per-cell target − 100 mV. -/
def fullCleared (r : PackRecord) (cellTarget : Nat) : Bool :=
  match highestCell r.cells with
  | some h => h.numLt ((cellTarget : Int) - 100)
  | none => false

/-- FULL evaluated at a publication; its setting is a calibration point (R57, R72). That its qualifying timer becomes absent
outside CHARGING shows here, at the evaluation, and not in the event that leaves CHARGING (DESIGN CHOICE, log 63). -/
def judgeFull (r : PackRecord) (need : Need) (s : State) : State :=
  if s.pack.full then
    { s with pack := { s.pack with full := !fullCleared r s.gov.limits.cellTarget, fullTimer := none } }
  else
    let j := qualify s.now s.pack.fullTimer (fullCondition s r need) 60000
    if j.2 then { s with pack := { s.pack.calibrate s.pack.fullCharge with full := true, fullTimer := none } }
    else { s with pack := { s.pack with fullTimer := j.1 } }

/-! ### Low cells in STANDBY (R174) -/

/-- The low-cell count after a publication. -/
def lowCellCount (s : State) (r : PackRecord) : Nat :=
  if s.stick.state = .detached ∧ lowestBelow r.cells 3000 = true then s.ctl.lowCells + 1 else 0

/-- The automatic entry to SHIP: the AUTO_SHIP entry and the SHIP decision. -/
def autoShip (r : PackRecord) (s : State) : State :=
  shipDecision .lowCell
    (appendFault .modeController .autoShip (lowestEntry r.cells).1 (some (optReading s.soc)) s)

/-- The mode controller's work at a publication in STANDBY. -/
def judgeLowCells (r : PackRecord) (s : State) : State :=
  if s.ctl.power = .standby then
    let count := lowCellCount s r
    let t : State := { s with ctl := { s.ctl with lowCells := count } }
    if 10 ≤ count then autoShip r t else t
  else s

/-! ### The publication and the scan (R49, R51) -/

/-- The record replaced whole, the allowance for it, and the charge counter (R51, R54, R56). The counter integrates the interval
first and makes the rest estimate after it, so an estimate leaves its Q and an accumulator of 0 (DESIGN CHOICE, log 72). -/
def takeRecord (r : PackRecord) (s : State) : State :=
  let counted := (s.pack.integrate r.packI s.sincePublication).rest r s.now
  recomputeAllowance { s with pack := { counted with record := some r, scanning := false } }

/-- The protection record at a publication (R58, R59, R66). -/
def protect (r : PackRecord) (needLimit : Nat) (before : Prot) (s : State) : State :=
  evaluateProtection before
    (judgeCauses r needLimit { s with prot := { s.prot with evaluated := true } })

/-- The end of a scan: the publication and the pack monitor's work for it, in order (R51, R72, R174). -/
def publish (scan : RawScan) (s : State) : State :=
  let r := formRecord s scan
  let protected' := protect r s.pack.need.limit s.prot (takeRecord r s)
  judgeLowCells r (recomputeNeed (judgeFull r s.pack.need (rebalance r protected')))

/-- PACK_RECORD_PUBLICATION (R51). -/
def execPackRecordPublication (scan : RawScan) (s : State) : Host.Outcome State Fault Refusal :=
  event s.pack.scanning (publish scan) s

/-- The interval of the scan timer (R49). -/
def scanInterval : PowerMode → Nat
  | .active => 10
  | .standby => 1000
  | .ship => 1000

/-- The scan timer expires: a scan starts, unless one is in progress (R49). -/
def scanExpired (s : State) : State :=
  let next := some (s.after (scanInterval s.ctl.power))
  if s.pack.scanning then { s with pack := { s.pack with scanTimer := next } }
  else { s with pack := { s.pack with scanTimer := next, scanning := true, lastScan := s.now } }

/-- SCAN_TIMER_EXPIRY (R49). -/
def execScanTimerExpiry (s : State) : Host.Outcome State Fault Refusal := event s.pack.scanTimer.isSome scanExpired s

/-- The expiry of the DSG_OC clear timer releases DSG_OC (R63). -/
def dsgOcCleared (s : State) : State :=
  evaluateProtection s.prot
    { s with prot := { s.prot with active := { s.prot.active with dsgOc := false }, ocClear := none } }

/-- DSG_OC_CLEAR_EXPIRY (R63). -/
def execDsgOcClearExpiry (s : State) : Host.Outcome State Fault Refusal := event s.prot.ocClear.isSome dsgOcCleared s

/-- CHG_OC released at the entry to DETACHED: the permissions, the level and the charge need record are evaluated again,
whose reason changes even where another cause still forbids charging (R64, R125). -/
def releaseChgOc (s : State) : State :=
  let t : State := { s with prot := { s.prot with tChgCeiling := none, tChgNeed := none } }
  if s.prot.active.chgOc then
    recomputeNeed
      (evaluateProtection s.prot { t with prot := { t.prot with active := { t.prot.active with chgOc := false } } })
  else t

/-! ### Requests (section 3.6) -/

/-- The charge need record as NEED offsets 0 to 6 (sections 11.3, 11.5). -/
def needBytes (n : Need) : List Byte :=
  u16 n.target ++ u16 n.limit ++ boolByte n.permitted ++ u8 (reasonCode n.reason) ++ boolByte n.precharge

/-- The readings of the pack record in PACK_STATUS, ABSENT before the first publication (R73). -/
def recordBytesOf (n : Nat) : Option PackRecord → List Byte
  | some r =>
    u32 r.scanTime.toNat ++ u8 n ++ r.cells.flatMap s16 ++ s16 r.packV ++ s16 r.packI ++ s16 r.t1 ++ s16 r.t2 ++ s16 r.t3
  | none => opt32 none ++ u8 n ++ (List.replicate (n + 5) Reading.absent).flatMap s16

/-- The reply fields of PACK_STATUS (R73). -/
def packStatusFields (s : State) : List Byte :=
  recordBytesOf s.cellCount s.pack.record ++ u32 s.pack.q ++ boolByte s.pack.valid ++ u16 s.pack.capacity ++ opt16 s.soc
    ++ u8 (protLevelCode s.prot.level) ++ u8 (causeSetCode s.prot.active) ++ u8 (lockoutCode s.prot.lockout)
    ++ u8 (permissionsCode s.prot.dischargeOk s.prot.chargeOk) ++ u8 s.prot.ocEvents.length
    ++ u32 s.prot.lastChange.toNat ++ u8 s.pack.balance.length ++ s.pack.balance.flatMap u8 ++ boolByte s.pack.full
    ++ needBytes s.pack.need

/-- PACK_STATUS (R73). -/
def packStatusSpec : RequestSpec :=
  ⟨0x18, true, false, emptyPayload, anyForm, false, false, fun _ s => ⟨.ok, s, packStatusFields s⟩⟩

/-- PACK_STATUS. -/
def execPackStatus (s : State) : Host.Outcome State Fault Refusal := request packStatusSpec s

/-- A capacity set while the part runs: Q is rescaled (R74). -/
def setCapacity (c : Nat) (s : State) : State :=
  { s with pack := { s.pack with capacity := c, q := s.pack.q * c / s.pack.capacity } }

/-- The effect of a taken SET_PACK (R74): with an invalid CELLS strap it sets C and changes nothing else. -/
def setPack (c keep : Nat) (s : State) : State :=
  if s.ctl.cells = 3 then { s with pack := { s.pack with capacity := c } }
  else keepWrite keep 0x19 0x05 (u16 c) (setCapacity c s)

/-- SET_PACK (R74). -/
def setPackSpec : RequestSpec :=
  ⟨0x19, true, false, lengthIs 3, settings16 [0], false, false, fun p s =>
    let c := clampNat 500 10000 (u16At p 0)
    let keep := byteAt p 2
    if keepOk keep = false then refuse .outOfRange s
    else if keepBusy keep s then refuse .busy s
    else ⟨okOrClamped (decide (c ≠ u16At p 0)), setPack c keep s, []⟩⟩

/-- SET_PACK. -/
def execSetPack (s : State) : Host.Outcome State Fault Refusal := request setPackSpec s

/-- The condition of a lockout cause in the set is present (R75). -/
def lockoutPresent (s : State) : Bool :=
  match s.pack.record with
  | none => true
  | some r =>
    (s.prot.lockout.ovSevere && (highestAbove r.cells 4400 || !noneAbsent r.cells))
      || (s.prot.lockout.uvSevere && (lowestBelow r.cells 1500 || !noneAbsent r.cells))
      || (s.prot.lockout.ocRepeat && (s.prot.active.dsgOc || r.packI.lt (-40000)))
      || (s.prot.lockout.strap && decide (s.ctl.cells = 3))

/-- The release of a lockout (R75). -/
def releaseLockout (s : State) : State :=
  evaluateProtection s.prot
    { s with prot := { s.prot with lockedOut := false, lockout := LockoutSet.empty, ocEvents := [], tOvSevere := none,
                                   tUvSevere := none } }

/-- CLEAR_PROTECTION (R75). -/
def clearProtectionSpec : RequestSpec :=
  ⟨0x1A, true, false, emptyPayload, anyForm, false, false, fun _ s =>
    if s.prot.level ≠ .lockout then refuse .denied s
    else if s.ctl.lock.isSome then refuse .locked s
    else if lockoutPresent s then refuse .denied s
    else ⟨.ok, releaseLockout s, []⟩⟩

/-- CLEAR_PROTECTION. -/
def execClearProtection (s : State) : Host.Outcome State Fault Refusal := request clearProtectionSpec s

end Sys2Proof.Machine
end

