-- ==== Sys2Proof/Machine/Contact.lean ====
section
/-! DEFINITION. Contact link (sections 6.1 and 11.5): the receiver, the frames and their fields, and the frames sent. -/

namespace Sys2Proof.Machine

open Sys2Proof

/-! ### Valid frames (R117) -/

/-- A valid contact frame. -/
inductive ContactMsg where
  | hail (m : HailMsg)
  | poll (m : PollMsg)
  | answer (m : AnswerMsg)
  | need (m : NeedMsg)
  deriving DecidableEq, Repr

/-- The fields of a HAIL, when they are canonical and named. The dock budget is a number, so that the code of ABSENT is not
canonical there (R189; DEDUCED, log 45). -/
def parseHail (p : List Byte) : Option HailMsg :=
  match opt16At p 1, dockFlagsOf (byteAt p 3) with
  | some budget, some f => some ⟨byteAt p 0, budget, f⟩
  | _, _ => none

/-- The fields of a POLL, when they are canonical and named. I_out is a signed measurement: its codes for ABSENT and BELOW
are canonical (section 11.1) and are taken, though no charger gives them (DESIGN CHOICE, log 78). -/
def parsePoll (p : List Byte) : Option PollMsg :=
  match chargerStateOf (byteAt p 0), evacStateOf (byteAt p 5), dockFlagsOf (byteAt p 6) with
  | some c, some e, some f => some ⟨c, opt16At p 1, readingAt p 3, e, f⟩
  | _, _, _ => none

/-- A cell count that an ANSWER may carry (R129). -/
def cellsOk (n : Nat) : Bool := decide (n = 0 ∨ n = 6 ∨ n = 7 ∨ n = 8)

/-- The fields of an ANSWER, when they are canonical and named. SoC may be ABSENT, and the bin load is a number (log 45). -/
def parseAnswer (p : List Byte) : Option AnswerMsg :=
  match cellsOk (byteAt p 0), opt16At p 3, protLevelOf (byteAt p 5), boolAt p 6 with
  | true, some bin, some l, some e => some ⟨byteAt p 0, opt16At p 1, bin, l, e⟩
  | _, _, _, _ => none

/-- The charge need record of a NEED, when its fields are canonical and named. The target and the limit are numbers
(R142; log 45). A limit above 4,000, beyond R142's range, is taken as it stands (DESIGN CHOICE, log 79). -/
def parseNeedRecord (p : List Byte) : Option Need :=
  match opt16At p 0, opt16At p 2, boolAt p 4, reasonOf (byteAt p 5), boolAt p 6 with
  | some target, some limit, some permitted, some reason, some precharge =>
    some ⟨target, limit, permitted, reason, precharge⟩
  | _, _, _, _, _ => none

/-- The fields of a NEED, when they are canonical and named. -/
def parseNeed (p : List Byte) : Option NeedMsg :=
  match parseNeedRecord p, boolAt p 7, protLevelOf (byteAt p 8) with
  | some n, some e, some l => some ⟨n, e, l, opt16At p 9⟩
  | _, _, _ => none

/-- The message of a kind and payload that the other role sends (R117, section 11.5). -/
def parseMessage (receiver : Role) (kind : Byte) (p : List Byte) : Option ContactMsg :=
  match receiver with
  | .stick =>
    if kind = 0x11 ∧ p.length = 4 then (parseHail p).map .hail
    else if kind = 0x12 ∧ p.length = 7 then (parsePoll p).map .poll
    else none
  | .dock =>
    if kind = 0x91 ∧ p.length = 7 then (parseAnswer p).map .answer
    else if kind = 0x92 ∧ p.length = 11 then (parseNeed p).map .need
    else none

/-- The bytes of a complete frame after its start byte: kind, length, payload and check (R117). -/
def frameComplete (bytes : List Byte) : Bool := decide (2 ≤ bytes.length) && decide (bytes.length = byteAt bytes 1 + 3)

/-- The message of a complete frame, when it is valid: its length at most 16 and its check right (R117). -/
def frameMessage (receiver : Role) (bytes : List Byte) : Option ContactMsg :=
  let body := bytes.take (bytes.length - 1)
  if byteAt bytes 1 ≤ 16 ∧ crc8 body = bytes.getD (bytes.length - 1) 0 then
    parseMessage receiver (bytes.getD 0 0) (body.drop 2)
  else none

/-! ### The receiver (R117, R118) -/

/-- The stick is sending, and bytes arriving from the dock are discarded (R118). -/
def State.contactDeaf (s : State) : Bool := s.isStick && s.contact.tx.isSome

/-- The frame that a byte completes, if it completes one. -/
def State.completes (s : State) (b : Byte) : Option (List Byte) :=
  match s.contactDeaf, s.contact.rx with
  | false, some bytes => if frameComplete (bytes ++ [b]) then some (bytes ++ [b]) else none
  | true, _ => none
  | false, none => none

/-- The valid message that a byte completes, if it completes one. -/
def State.completesMessage (s : State) (b : Byte) : Option ContactMsg :=
  (s.completes b).bind (frameMessage s.ctl.role)

/-- The receiver looks again for a start byte. -/
def endFrame (s : State) : State := { s with contact := { s.contact with rx := none, rxGap := none } }

/-- A byte that completes no frame (R117). -/
def collectByte (b : Byte) (s : State) : State :=
  if s.contactDeaf then s
  else match s.contact.rx with
    | some bytes => { s with contact := { s.contact with rx := some (bytes ++ [b]), rxGap := some (s.after 5) } }
    | none =>
      if b = 0x5A then { s with contact := { s.contact with rx := some [], rxGap := some (s.after 5) } } else s

/-- CONTACT_RX_GAP_TIMEOUT (R117): a gap of more than 5 ms discards the partial frame. -/
def execContactRxGapTimeout (s : State) : Host.Outcome State Fault Refusal := event s.contact.rx.isSome endFrame s

/-- CONTACT_FRAME_INVALID (R117, R119): a frame that is not valid is discarded; an open reply window stays open. -/
def execContactFrameInvalid (check : Byte) (s : State) : Host.Outcome State Fault Refusal :=
  event ((s.completes check).isSome && (s.completesMessage check).isNone) endFrame s

/-! ### The frames sent (section 11.5) -/

/-- The payload of a HAIL (R130). -/
def hailPayload (s : State) : List Byte := u8 1 ++ u16 (s.charger.budget / 1000) ++ u8 (dockFlagsCode s.dockFlags)

/-- The payload of a POLL (R131). -/
def pollPayload (s : State) : List Byte :=
  u8 (chargerStateCode s.charger.state) ++ opt16 s.charger.vOut ++ s16 s.charger.iOut
    ++ u8 (evacStateCode s.dock.report) ++ u8 (dockFlagsCode s.dockFlags)

/-- The payload of an ANSWER (R122). -/
def answerPayload (s : State) : List Byte :=
  u8 s.cellCount ++ opt16 s.soc ++ u16 (s.debris.b / 1000) ++ u8 (protLevelCode s.prot.level)
    ++ boolByte s.stick.evacRequest

/-- The payload of a NEED (R123). -/
def needPayload (s : State) : List Byte :=
  needBytes s.pack.need ++ boolByte s.stick.evacRequest ++ u8 (protLevelCode s.prot.level) ++ opt16 s.soc

/-- A reply formed in the event of a taking; its transmission begins 2 ms later (R118). -/
def formReply (kind : Byte) (payload : List Byte) (s : State) : State :=
  { s with contact := { s.contact with waiting := some (contactWire kind payload), replyDue := some (s.after 2) } }

/-- STICK_REPLY_START (R118). -/
def execStickReplyStart (s : State) : Host.Outcome State Fault Refusal :=
  event (s.isStick && s.contact.waiting.isSome)
    (fun s => { s with contact := { s.contact with tx := s.contact.waiting, waiting := none, replyDue := none } }) s

/-- STICK_REPLY_SENT (R118): the last byte of the reply has been sent, and the receiver listens again. -/
def execStickReplySent (s : State) : Host.Outcome State Fault Refusal :=
  event (s.isStick && s.contact.tx.isSome) (fun s => { s with contact := { s.contact with tx := none } }) s

end Sys2Proof.Machine
end

