-- ==== Sys2Proof/Machine/Drive.lean ====
section
/-! DEFINITION. Suction drive (chapter 1): crossings, commutations, timers and readings of channel A, and its requests. -/

namespace Sys2Proof.Machine

open Sys2Proof

/-! ### The period ring and the speed (R2) -/

/-- The ring with a period appended; the oldest of 6 is replaced. -/
def ringPush (ring : List Nat) (period : Nat) : List Nat :=
  if ring.length < 6 then ring ++ [period] else ring.drop (ring.length - 5) ++ [period]

/-- The speed that a ring gives: ABSENT with fewer than 6 periods; six periods of 0 ticks give a free number (log 20). -/
def ringSpeed (k : Nat) (ring : List Nat) : Option Nat :=
  if ring.length < 6 then none
  else if ring.sum = 0 then some (Config.freeNat k 0)
  else some (600000000 / ring.sum)

/-- The interval from the reference to a crossing, modulo 2^24 (R1). -/
def intervalOf (ref : CrossRef) (ts : Ticks) : Nat := (ts - ref.tRef).toNat

/-- A crossing whose interval enters the ring: the reference and the speed follow it (R2 to R5). -/
def acceptCrossing (ts : Ticks) (interval : Nat) (s : State) : State :=
  let ring := ringPush s.drive.ring interval
  let t : State := { s with drive := { s.drive with ring := ring, xref := some ⟨ts, interval⟩,
                                                    speed := ringSpeed s.freeCount ring } }
  if ring.sum = 0 then nextFree t else t

/-! ### RAMP (R4, R11) -/

/-- A valid crossing in RAMP: the twelfth in a row enters RUN with the duty of 410, and commutates as in RUN. The DIRT report
of the entry comes before the DRIVE report (DESIGN CHOICE, log 10). -/
def rampValid (ts : Ticks) (interval : Nat) (s : State) : State :=
  let t := acceptCrossing ts interval s
  let counted : State := { t with drive := { t.drive with validCount := s.drive.validCount + 1 } }
  if 12 ≤ s.drive.validCount + 1 then
    let r := enterRun 410 counted
    reportDrive .rampDone { r with drive := { r.drive with commIn := some (interval / 2) } }
  else counted

/-- A crossing in RAMP, judged against the window of the forced period in force. One that becomes the reference has a p_ref
of 0 until a valid crossing follows (DESIGN CHOICE, log 62). -/
def crossInRamp (ts : Ticks) (s : State) : State :=
  match s.drive.xref with
  | none => { s with drive := { s.drive with xref := some ⟨ts, 0⟩ } }
  | some ref =>
    let pf := s.drive.forcedPeriod.getD 0
    let interval := intervalOf ref ts
    if 3 * pf / 4 ≤ interval ∧ interval ≤ 5 * pf / 4 then rampValid ts interval s else s

/-! ### RUN (R3, R20, R21) -/

/-- The work that the setting of blocked brings: in DOCK role the evacuation run ends BLOCKED (R21, R151). -/
def blockedSet (s : State) : State :=
  let t : State := { s with drive := { s.drive with blocked := true } }
  if s.isDock then endRun .blocked t else t

/-- The blocked condition at a valid crossing in RUN (R21), with the timer handling of R20: once blocked is set, its timer
runs on while the condition holds. -/
def judgeBlocked (s : State) : State :=
  let j := holdTimer s.now s.drive.blockTimer (fasterThan s.drive.speed (speedMax s.ctl.role - 5000)) 2000
  let t : State := { s with drive := { s.drive with blockTimer := j.1 } }
  if j.2 && !s.drive.blocked then
    let b := blockedSet t
    reportDock .evacuation s (reportDrive .blocked b)
  else t

/-- The speed conditions at a valid crossing in RUN (R20), then the blocked condition. DESIGN CHOICE, log 53: a crossing
at which OVERSPEED has qualified faults the drive before blocked is evaluated, so that a run then ends FAILED. -/
def judgeSpeed (s : State) : State :=
  let value := speedReading s.drive.speed
  let stall := holdTimer s.now s.drive.stallTimer (slowerThan s.drive.speed 15000) 100
  let fast := holdTimer s.now s.drive.overTimer (fasterThan s.drive.speed (speedMax s.ctl.role + 8001)) 50
  let t : State := { s with drive := { s.drive with stallTimer := stall.1, overTimer := fast.1 } }
  if stall.2 then driveFault .stall value none t
  else if fast.2 then driveFault .overspeed value none t
  else judgeBlocked t

/-- A valid crossing in RUN: the miss count becomes 0 and the commutation is scheduled half an interval later (R3). -/
def runValid (ts : Ticks) (interval : Nat) (s : State) : State :=
  let t := acceptCrossing ts interval s
  judgeSpeed { t with drive := { t.drive with missCount := 0, commIn := some (interval / 2) } }

/-- A crossing judged against the window of the reference (R3): its interval when it is valid. A crossing before the
window is ignored, and one beyond it belongs to an expiry not yet taken (log 7). -/
def inWindow (ref : CrossRef) (ts : Ticks) : Option Nat :=
  let interval := intervalOf ref ts
  if 3 * ref.pRef / 4 ≤ interval ∧ interval ≤ 5 * ref.pRef / 4 then some interval else none

/-- A crossing in RUN. -/
def crossInRun (ts : Ticks) (s : State) : State :=
  match s.drive.xref.bind (fun ref => inWindow ref ts) with
  | some interval => runValid ts interval s
  | none => s

/-! ### A fan fault at the instant at which its run ends DONE (R152) -/

/-- The miss count of a fan that the expiry of the duration timer took from RUN to COAST, while part time stands at that
expiry and no run has started since (R152). -/
def State.missesAtEnd (s : State) : Option Nat :=
  if s.drive.state = .coast ∧ s.drive.catchCount = none ∧ s.drive.enteredAt = s.now ∧ s.evac.phase = .none ∧
      s.evac.lastEnd = some s.now then s.evac.endMisses
  else none

/-- A crossing or a window expiry taken after the expiry that ended the fan's run at the same instant: where it makes a fault
in RUN, the fan enters FAULT with the entry, keeping what its exit from RUN recorded (R152; DEDUCED, log 59). A bus current
reading is no such event: R19 does not compare it once the stop has been taken. -/
def judgeAtEnd (judge otherwise : State → State) (s : State) : State :=
  match s.missesAtEnd with
  | none => otherwise s
  | some misses =>
    let j := judge { s with drive := { s.drive with state := .run, missCount := misses } }
    if j.drive.state = .fault then
      { j with drive := { j.drive with lastRunDuty := s.drive.lastRunDuty, speedAtStop := s.drive.speedAtStop,
                                       coastTimer := none, crossTimer := none } }
    else otherwise s

/-! ### COAST and FAULT (R3, R5, R16 to R18) -/

/-- An exit from COAST to OFF with its report (R16, R22). -/
def coastToOff (s : State) : State :=
  let t := enterOff s
  reportDrive (offCause s t) t

/-- The exit of COAST after a crossing that leaves the speed below 3,000 rpm (R16). -/
def coastIfSlow (s : State) : State := if slowerThan s.drive.speed 3000 then coastToOff s else s

/-- The entry duty of a completed catch (R17); a speed_at_stop of 0 gives a free number (log 20). -/
def catchDuty (k : Nat) (d : Drive) (dutyMax : Nat) : Nat :=
  if d.speedAtStop.getD 0 = 0 then min dutyMax (Config.freeNat k 1)
  else min dutyMax (d.lastRunDuty * d.speed.getD 0 / d.speedAtStop.getD 0)

/-- The sixth valid crossing of a catch (R17): RUN, or with the speed below 20,000 rpm a start that waits. -/
def catchDone (interval : Nat) (s : State) : State :=
  if fasterThan s.drive.speed 20000 then
    let r := enterRun (catchDuty s.freeCount s.drive s.gov.limits.dutyMax)
      { s with drive := { s.drive with step := nextBridgeStep s.drive.step },
               freeCount := if s.drive.speedAtStop.getD 0 = 0 then s.freeCount + 1 else s.freeCount }
    reportDrive .catchDone { r with drive := { r.drive with commIn := some (interval / 2) } }
  else coastIfSlow { s with drive := { s.drive with catchCount := none, startPending := true } }

/-- A valid crossing during a catch (R3): the miss count becomes 0 and the catch count rises; the step follows the rotor and
the crossing timer restarts (log 14). -/
def catchValid (ts : Ticks) (interval count : Nat) (s : State) : State :=
  let t := acceptCrossing ts interval s
  let counted : State :=
    { t with drive := { t.drive with missCount := 0, step := nextBridgeStep t.drive.step, catchCount := some (count + 1),
                                     crossTimer := some (s.after 100) } }
  if 6 ≤ count + 1 then catchDone interval counted else coastIfSlow counted

/-- A crossing during a catch. -/
def crossInCatch (ts : Ticks) (count : Nat) (s : State) : State :=
  match s.drive.xref.bind (fun ref => inWindow ref ts) with
  | some interval => catchValid ts interval count s
  | none => s

/-- An accepted crossing with the bridge off (R5): an interval of more than 1,000,000 ticks clears the ring. -/
def acceptFree (ts : Ticks) (interval : Nat) (s : State) : State :=
  let t := if interval ≤ 1000000 then acceptCrossing ts interval s
    else { s with drive := { s.drive with ring := [], speed := none, xref := some ⟨ts, 0⟩ } }
  { t with drive := { t.drive with step := nextBridgeStep t.drive.step } }

/-- How a crossing with the bridge off and no catch is judged (R5). -/
inductive FreeCrossing where
  /-- There is no crossing reference, and the crossing becomes it. -/
  | reference
  /-- The crossing comes within three quarters of the reference period, and is ignored. -/
  | ignored
  /-- The crossing is accepted. -/
  | accepted
  deriving DecidableEq, Repr

/-- The judgement of a crossing with the bridge off and no catch (R5). -/
def judgeFree (ts : Ticks) (d : Drive) : FreeCrossing :=
  match d.xref with
  | none => .reference
  | some ref => if intervalOf ref ts < 3 * ref.pRef / 4 then .ignored else .accepted

/-- The drive with a crossing as its first reference (R5): the ring and the speed stay as they are. -/
def firstReference (ts : Ticks) (s : State) : State := { s with drive := { s.drive with xref := some ⟨ts, 0⟩ } }

/-- The interval from the drive's reference, 0 without one. -/
def freeInterval (ts : Ticks) (d : Drive) : Nat := (d.xref.map (fun ref => intervalOf ref ts)).getD 0

/-- A crossing in COAST without a catch: an accepted one restarts the crossing timer. One that is judged and after which
the speed is below 3,000 rpm leads to OFF, be it accepted or the first reference (R16); an ignored one does nothing
(DEDUCED, log 61). -/
def crossInCoast (ts : Ticks) (s : State) : State :=
  match judgeFree ts s.drive with
  | .ignored => s
  | .reference => coastIfSlow (firstReference ts s)
  | .accepted =>
    let t := acceptFree ts (freeInterval ts s.drive) s
    coastIfSlow { t with drive := { t.drive with crossTimer := some (s.after 100) } }

/-- FAULT to OFF with its report (R18, R22). -/
def faultToOff (s : State) : State := reportDrive .release (enterOff s)

/-- The exit of a released FAULT after a crossing that leaves the speed below 3,000 rpm (R18). -/
def releaseIfSlow (s : State) : State :=
  if decide (s.drive.released = some true) && slowerThan s.drive.speed 3000 then faultToOff s else s

/-- A crossing in FAULT, judged as in COAST (R5, R18). -/
def crossInFault (ts : Ticks) (s : State) : State :=
  match judgeFree ts s.drive with
  | .ignored => s
  | .reference => releaseIfSlow (firstReference ts s)
  | .accepted => releaseIfSlow (acceptFree ts (freeInterval ts s.drive) s)

/-- A zero crossing, judged by the state (R1). -/
def crossing (ts : Ticks) (s : State) : State :=
  let t : State := { s with drive := { s.drive with captureTimer := ts } }
  match t.drive.state, t.drive.catchCount with
  | .off, _ => t
  | .align, _ => t
  | .ramp, _ => crossInRamp ts t
  | .run, _ => crossInRun ts t
  | .coast, some count => crossInCatch ts count t
  | .coast, none => judgeAtEnd (crossInRun ts) (crossInCoast ts) t
  | .fault, _ => crossInFault ts t

/-- ZERO_CROSSING (R1). -/
def execZeroCrossing (timestamp : Ticks) (s : State) : Host.Outcome State Fault Refusal :=
  event true (crossing timestamp) s

/-! ### The window expiry (R3, R4) -/

/-- The reference after a miss: t_ref advances by p_ref. -/
def advanceRef (ref : CrossRef) : CrossRef := { ref with tRef := ref.tRef + BitVec.ofNat 24 ref.pRef }

/-- A commutation (R1, R13): the step advances and the held duty is applied. -/
def commutate (d : Drive) : Drive :=
  { d with step := nextBridgeStep d.step, duty := d.heldDuty.getD d.duty, heldDuty := none }

/-- A miss in RUN: a forced commutation, and at the fourth in a row a DESYNC fault after the miss's own work (R3;
log 15). -/
def missInRun (ref : CrossRef) (s : State) : State :=
  let count := s.drive.missCount + 1
  let t : State := { s with drive := { commutate s.drive with xref := some (advanceRef ref), missCount := count } }
  if 4 ≤ count then
    driveFault .desync (speedReading s.drive.speed) (some (.num t.drive.step)) t
  else t

/-- The expiry of the window (R3, R4). -/
def windowExpired (ref : CrossRef) (s : State) : State :=
  match s.drive.state with
  | .ramp => { s with drive := { s.drive with validCount := 0, xref := none } }
  | .run => missInRun ref s
  | .coast => { s with drive := { s.drive with xref := some (advanceRef ref), catchCount := some 0 } }
  | .off => s
  | .align => s
  | .fault => s

/-- A window is open: in RAMP and RUN, and in COAST during a catch. -/
def Drive.windowed (d : Drive) : Bool :=
  match d.state with
  | .ramp => true
  | .run => true
  | .coast => d.catchCount.isSome
  | .off => false
  | .align => false
  | .fault => false

/-- The expiry of the window of the reference, if there is one. -/
def expireWindow (s : State) : State :=
  match s.drive.xref with
  | some ref => windowExpired ref s
  | none => s

/-- The window of a fan whose run ended at this instant was at its fourth miss (R152). -/
def State.lastMissAtEnd (s : State) : Bool :=
  match s.missesAtEnd with
  | some misses => decide (3 ≤ misses)
  | none => false

/-- CROSSING_WINDOW_EXPIRY (R3, R4, R152). -/
def execCrossingWindowExpiry (s : State) : Host.Outcome State Fault Refusal :=
  event ((s.drive.windowed || s.lastMissAtEnd) && s.drive.xref.isSome) (judgeAtEnd expireWindow expireWindow) s

/-! ### Commutations and timers -/

/-- COMMUTATION (R3, R13): the commutation scheduled after a crossing. -/
def execCommutation (s : State) : Host.Outcome State Fault Refusal :=
  event (decide (s.drive.state = .run) && s.drive.commIn.isSome)
    (fun s => { s with drive := { commutate s.drive with commIn := none } }) s

/-- The forced period after a forced commutation (R11). -/
def nextForced (p : Nat) : Nat := max 5000 (p - p / 64)

/-- A forced commutation in RAMP (R11). -/
def forceCommutation (s : State) : State :=
  let p := nextForced (s.drive.forcedPeriod.getD 0)
  { s with drive := { s.drive with step := nextBridgeStep s.drive.step, forcedPeriod := some p, forcedIn := some p } }

/-- FORCED_COMMUTATION (R11). -/
def execForcedCommutation (s : State) : Host.Outcome State Fault Refusal :=
  event (decide (s.drive.state = .ramp) && s.drive.forcedIn.isSome) forceCommutation s

/-- Entry to RAMP (R4, R11): the drive commutates at once and schedules the next forced commutation. -/
def enterRamp (s : State) : State :=
  { s with drive := { s.drive with state := .ramp, duty := 410, forcedPeriod := some 50000,
                                   step := nextBridgeStep s.drive.step, forcedIn := some 50000, xref := none,
                                   validCount := 0, alignTimer := none, rampTimer := some (s.after 1500),
                                   enteredAt := s.now } }

/-- ALIGN_TIMER_EXPIRY (R10). -/
def execAlignTimerExpiry (s : State) : Host.Outcome State Fault Refusal :=
  event (decide (s.drive.state = .align) && s.drive.alignTimer.isSome)
    (fun s => reportDrive (ownerCause s.drive.owner) (enterRamp s)) s

/-- A failed start attempt (R12). -/
def rampFailed (s : State) : State :=
  let attempts := s.drive.attempts + 1
  let t : State := { s with drive := { s.drive with attempts := attempts } }
  if attempts < 3 then
    reportDrive .retry (enterCoast { t with drive := { t.drive with retryPending := true } })
  else driveFault .startFail (.num attempts) none t

/-- RAMP_TIMER_EXPIRY (R12). -/
def execRampTimerExpiry (s : State) : Host.Outcome State Fault Refusal :=
  event (decide (s.drive.state = .ramp) && s.drive.rampTimer.isSome) rampFailed s

/-- COAST_TIMER_EXPIRY (R16). -/
def execCoastTimerExpiry (s : State) : Host.Outcome State Fault Refusal :=
  event (decide (s.drive.state = .coast) && s.drive.coastTimer.isSome) coastToOff s

/-- CROSSING_TIMER_EXPIRY (R16). -/
def execCrossingTimerExpiry (s : State) : Host.Outcome State Fault Refusal :=
  event (decide (s.drive.state = .coast) && s.drive.crossTimer.isSome) coastToOff s

/-- The fault timer has expired: OFF if released (R18). -/
def faultTimeOver (s : State) : State :=
  if s.drive.released = some true then faultToOff s else { s with drive := { s.drive with faultTimer := none } }

/-- FAULT_TIMER_EXPIRY (R18). -/
def execFaultTimerExpiry (s : State) : Host.Outcome State Fault Refusal :=
  event (decide (s.drive.state = .fault) && s.drive.faultTimer.isSome) faultTimeOver s

/-- A bus current reading joins those of the governor period in progress (R13). -/
def busSample (r : Reading) (s : State) : State :=
  { s with gov := { s.gov with busSamples := s.gov.busSamples.add r } }

/-- A bus current reading taken while the bridge drives; above 45,000 mA it is a hard trip (R19). -/
def busReadingTaken (reading : Reading) (s : State) : State :=
  let t := busSample reading s
  if reading.gt 45000 then driveFault .overcurrent reading (some (.num (driveStateCode s.drive.state))) t else t

/-- BUS_CURRENT_READING (R19). With the bridge off a reading is not compared, whichever stop was taken before it. -/
def execBusCurrentReading (reading : Reading) (s : State) : Host.Outcome State Fault Refusal :=
  event s.drive.state.drives (busReadingTaken reading) s

/-! ### SET_SUCTION (R23) -/

/-- SET_SUCTION OFF: the end of a calibration, a release in FAULT, or a stop of the host's drive; with it a latched roll
is released (R112). DESIGN CHOICE, log 54: a stop that takes FAULT to OFF in its event is reported with cause RELEASE. -/
def suctionOff (s : State) : State :=
  let m := rollRelease .release { s with drive := { s.drive with mode := .off } }
  if m.debris.cal.isSome then reportMove .calibration s (driveStop (endCalibration .aborted m))
  else if m.drive.state = .fault then reportMove .release s (releaseFault m)
  else if m.drive.owner = .host then reportMove .request s (driveStop m)
  else m

/-- The debris sensor at the end of a calibration with the drive still in RUN (R93). -/
def Debris.calibrationLeft (d : Debris) : Debris := { d with s := 0, d := none, dirtyLogged := false }

/-- A SET_SUCTION with a mode other than OFF that ends a calibration (R23, R93): the host holds the drive in its
state. The reports are in the order DONE, DIRT in RUN, and DRIVE of a start in COAST (DESIGN CHOICE, log 10). -/
def takeOverCalibration (s : State) : State :=
  let t := endCalibration .aborted s
  let owned : State := { t with drive := { t.drive with owner := .host } }
  if owned.drive.state = .run then reportDirt owned { owned with debris := owned.debris.calibrationLeft } else owned

/-- The drive is in OFF or COAST, where a SET_SUCTION with a mode other than OFF is a start request (R8; log 16). -/
def DriveState.startable : DriveState → Bool
  | .off => true
  | .coast => true
  | .align => false
  | .ramp => false
  | .run => false
  | .fault => false

/-- SET_SUCTION with a mode other than OFF (R23). -/
def suctionOn (mode : SuctionMode) (s : State) : State :=
  let m : State := { s with drive := { s.drive with mode := mode } }
  let t := if m.debris.cal.isSome then takeOverCalibration m else m
  if t.drive.state.startable then reportStart s (startRequest .host t) else t

/-- SET_SUCTION (R23). -/
def setSuctionSpec : RequestSpec :=
  ⟨0x10, true, false, lengthIs 1, anyForm, false, false, fun p s =>
    match suctionModeOf (byteAt p 0) with
    | none => refuse .outOfRange s
    | some .off => ⟨.ok, suctionOff s, []⟩
    | some mode =>
      if s.drive.state = .fault ∨ s.stick.state ≠ .detached ∨ s.prot.dischargeOk = false then refuse .denied s
      else ⟨.ok, suctionOn mode s, []⟩⟩

/-- SET_SUCTION. -/
def execSetSuction (s : State) : Host.Outcome State Fault Refusal := request setSuctionSpec s

/-! ### DRIVE_STATUS (R24) -/

/-- The fields of the roll record in DRIVE_STATUS; in DOCK role state OFF with its measurement ABSENT (R106;
log 22). -/
def rollStatusFields (s : State) : List Byte :=
  u8 s.summaryRoll ++ u16 s.roll.grantedDuty ++ u16 s.roll.grant ++ u16 s.roll.appliedDuty
    ++ s16 (if s.isDock then .absent else s.roll.current) ++ u8 s.roll.jamCount
    ++ opt8 (s.roll.faultCause.map driveFaultCode) ++ u32 s.roll.enteredAt.toNat

/-- The reply fields of DRIVE_STATUS. -/
def driveStatusFields (s : State) : List Byte :=
  u8 (driveStateCode s.drive.state) ++ u8 s.drive.step ++ u8 s.drive.ring.length ++ s.drive.ring.flatMap u24
    ++ speedField s.drive.speed ++ u16 s.drive.duty ++ u8 s.drive.attempts
    ++ u8 (setCode [s.drive.retryPending, s.drive.startPending, s.drive.blocked]) ++ u16 s.drive.lastRunDuty
    ++ speedField s.drive.speedAtStop ++ u8 (ownerCode s.drive.owner) ++ u8 s.drive.missCount ++ s16 s.drive.busCurrent
    ++ u32 s.drive.enteredAt.toNat ++ opt8 (s.drive.faultCause.map driveFaultCode)
    ++ u8 (suctionModeCode s.drive.mode) ++ rollStatusFields s

/-- DRIVE_STATUS (R24). -/
def driveStatusSpec : RequestSpec := plainRequest 0x11 (fun s => ⟨.ok, s, driveStatusFields s⟩)

/-- DRIVE_STATUS. -/
def execDriveStatus (s : State) : Host.Outcome State Fault Refusal := request driveStatusSpec s

end Sys2Proof.Machine
end

