-- ==== Sys2Proof/Machine/Debris.lean ====
section
/-! DEFINITION. Debris sensor (chapter 4): the window, the dirt index and level, the bin load, the floor calibration, and the
commands. -/

namespace Sys2Proof.Machine

open Sys2Proof

/-! ### The bin load (R88, R89) -/

/-- The debris record with another bin load; BIN_FULL is evaluated again (R89). -/
def Debris.setLoad (d : Debris) (b : Nat) : Debris :=
  { d with b := b, binFull := binFullOf b d.levels.binThreshold }

/-- The bin emptied, by CLEAR_BIN or by the evacuation handshake: B becomes 0, evacuate_request is derived again (R127)
and a cleared BIN_FULL is reported (R88, R89). -/
def emptyBin (s : State) : State := reportDirt s (deriveRequest { s with debris := s.debris.setLoad 0 })

/-! ### The terms of a window (R81 to R85) -/

/-- The speed band (R81). -/
def speedBand (speed : Nat) : Nat := min 7 (speed / 15000)

/-- n: the count corrected by the floor of the band; ABSENT when the acoustic path is not valid (R81). -/
def acousticCount (floors : List (Option Nat)) (speed : Option Nat) (c : Nat) : Option Nat :=
  match speed with
  | some v => (floors.getD (speedBand v) none).map (fun f => c - f)
  | none => none

/-- diff: LED on minus LED off, limited to 0..1,023 (R82). -/
def beamDiff (ledOff ledOn : Nat) : Nat := min 1023 (ledOn - ledOff)

/-- a: the attenuation, ABSENT when clear_ref is below 100 (R82). -/
def attenuation (clearRef diff : Nat) : Option Nat := if clearRef < 100 then none else some (clearRef - diff)

/-- r: the raw reading from the terms that are valid (R84). -/
def rawReading (n a : Option Nat) (ga go : Nat) : Option Nat :=
  match n, a with
  | some n, some a => some (min 255 (n * ga / 16 + a * go / 64))
  | some n, none => some (min 255 (n * ga / 16))
  | none, some a => some (min 255 (a * go / 64))
  | none, none => none

/-- The filter state after a raw reading (R85). -/
def filterStep (s r : Nat) : Nat := s - s / 4 + r

/-! ### The level (R86) -/

/-- The rising threshold of a level; CLEAN's counts as 0. -/
def risingThreshold (l : DirtLevels) : DirtLevel → Nat
  | .clean => 0
  | .light => l.light
  | .medium => l.medium
  | .heavy => l.heavy

/-- The level below a level. -/
def DirtLevel.below : DirtLevel → DirtLevel
  | .clean => .clean
  | .light => .clean
  | .medium => .light
  | .heavy => .medium

/-- The falling threshold of a level above CLEAN. -/
def fallingThreshold (l : DirtLevels) (level : DirtLevel) : Nat :=
  max (risingThreshold l level - l.hysteresis) (risingThreshold l level.below + 1)

/-- The highest level whose rising threshold D reaches. -/
def reachedLevel (l : DirtLevels) (d : Nat) : DirtLevel :=
  if l.heavy ≤ d then .heavy else if l.medium ≤ d then .medium else if l.light ≤ d then .light else .clean

/-- One fall, if D is below the falling threshold of a level above CLEAN. -/
def fallOnce (l : DirtLevels) (d : Nat) (level : DirtLevel) : DirtLevel :=
  if level ≠ .clean ∧ d < fallingThreshold l level then level.below else level

/-- The level after a window at which D is a number (R86). -/
def nextLevel (l : DirtLevels) (d : Nat) (level : DirtLevel) : DirtLevel :=
  if dirtLevelCode level < dirtLevelCode (reachedLevel l d) then reachedLevel l d
  else fallOnce l d (fallOnce l d (fallOnce l d level))

/-! ### The window evaluated for the dirt reading (R80) -/

/-- The figures of a window (R76, R81, R82, R84). -/
def windowFigures (d : Debris) (speed : Option Nat) (c diff : Nat) : LastWindow :=
  let n := acousticCount d.floors speed c
  let a := attenuation d.clearRef diff
  ⟨speed, speed.map speedBand, some c, n, some diff, a, rawReading n a d.levels.ga d.levels.go⟩

/-- Steps 4 and 5: the filter, D and the level (R85, R86). -/
def Debris.index (d : Debris) (r : Option Nat) : Debris :=
  match r with
  | some r =>
    let f := filterStep d.s r
    { d with s := f, d := some (f / 4), level := nextLevel d.levels (f / 4) d.level }
  | none => { d with d := none }

/-- Drift tracking (R83): a reported level of CLEAN and a brighter beam raise clear_ref by one. -/
def Debris.drift (d : Debris) (diff : Nat) : Debris :=
  if d.d.isSome ∧ d.level = .clean ∧ d.clearRef < diff then { d with clearRef := min 1023 (d.clearRef + 1) } else d

/-- Step 7: the bin load (R88, R89). -/
def Debris.collect (d : Debris) (r : Option Nat) : Debris :=
  match r with
  | some r => d.setLoad (min 1000000 (d.b + r))
  | none => d

/-- The SENSOR_DIRTY check (R83). -/
def checkDirty (diff : Nat) (s : State) : State :=
  if s.debris.clearRef < 100 ∧ s.debris.dirtyLogged = false then
    appendFault .debrisSensor .sensorDirty (.num s.debris.clearRef) (some (.num diff))
      { s with debris := { s.debris with dirtyLogged := true } }
  else s

/-- The evaluation of a window for the dirt reading (R80). The SENSOR_DIRTY check comes after the drift of this window, so
that a clear_ref that rises to 100 makes no entry (DESIGN CHOICE, log 57). -/
def dirtWindow (c diff : Nat) (s : State) : State :=
  let w := windowFigures s.debris s.drive.speed c diff
  let indexed : Debris := ({ s.debris with last := w }.index w.r).drift diff
  let checked := checkDirty diff { s with debris := indexed }
  reportDirt s (deriveRequest { checked with debris := checked.debris.collect w.r })

/-! ### Floor calibration (R90 to R95) -/

/-- The target speed of a band (R90). -/
def bandTarget (band : Nat) : Nat := 15000 * band + 7500

/-- The calibration record at the taking of CALIBRATE_FLOOR (R91). -/
def newCalibration : FloorCal := ⟨.starting, 1, bandTarget 1, none, none, 0, 0, 0, [], none⟩

/-- The speed is a number within target ± 1,000 rpm (R91, R92). -/
def inBand (speed : Option Nat) (target : Nat) : Bool :=
  match speed with
  | some v => decide (target ≤ v + 1000) && decide (v ≤ target + 1000)
  | none => false

/-- The counts of the band discarded, in a phase. -/
def FloorCal.restart (k : FloorCal) (phase : CalPhase) (bandTimer : Option Ms) : FloorCal :=
  { k with phase := phase, bandTimer := bandTimer, settle := none, windows := 0, countSum := 0, diffSum := 0 }

/-- A window in SEEKING: the settle test (R91). -/
def seekWindow (now : Ms) (speed : Option Nat) (k : FloorCal) : FloorCal :=
  let j := qualify now k.settle (inBand speed k.target) 200
  if j.2 then k.restart .counting none else { k with settle := j.1 }

/-- The staged floor of a band that is done (R92). -/
def stagedFloor (countSum : Nat) : Nat := min 1023 (countSum / 8 + countSum / 8 / 8 + 2)

/-- A counted window (R92). -/
def FloorCal.count (k : FloorCal) (c diff : Nat) : FloorCal :=
  { k with windows := k.windows + 1, countSum := k.countSum + c,
           diffSum := if k.band = 1 then k.diffSum + diff else k.diffSum }

/-- The band is done: its floor is staged, and in band 1 the candidate clear_ref (R92). -/
def FloorCal.stage (k : FloorCal) : FloorCal :=
  { k with staged := k.staged ++ [stagedFloor k.countSum],
           candidate := if k.band = 1 then some (k.diffSum / 8) else k.candidate }

/-- The next band in SEEKING (R92). -/
def FloorCal.nextBand (k : FloorCal) (due : Ms) : FloorCal :=
  { k.restart .seeking (some due) with band := k.band + 1, target := k.target + 15000 }

/-- The staged results committed to the live table (R94). -/
def Debris.commit (d : Debris) (k : FloorCal) : Debris :=
  { d with floors := none :: k.staged.map some, clearRef := k.candidate.getD 0, cal := none }

/-- The value of a FLOOR_TABLE record (section 11.6). -/
def floorBytes (d : Debris) : List Byte :=
  u16 d.clearRef ++ (d.floors.drop 1).flatMap (fun f => u16 (f.getD 0xFFFF))

/-- The write of a successful calibration (R94): with an operation in flight no write is made, and the DONE report is
queued at once. -/
def writeFloors (s : State) : State :=
  if s.store.op.isSome then handReport (.done 0x23 .storeFailed 7) s
  else startUserWrite 0x23 0x04 (floorBytes s.debris) s

/-- Success at the eighth counted window of band 7 (R94). -/
def calibrationSucceeded (k : FloorCal) (s : State) : State :=
  let t := driveStop { s with debris := s.debris.commit k, gov := { s.gov with pHold := none } }
  reportMove .calibration s (writeFloors t)

/-- The calibration record replaced. -/
def setCalibration (k : FloorCal) (s : State) : State := { s with debris := { s.debris with cal := some k } }

/-- A window in COUNTING (R92). -/
def countWindow (c diff : Nat) (k : FloorCal) (s : State) : State :=
  if inBand s.drive.speed k.target then
    let counted := k.count c diff
    if counted.windows < 8 then setCalibration counted s
    else if k.band = 7 then calibrationSucceeded counted.stage s
    else setCalibration (counted.stage.nextBand (s.after 3000)) s
  else setCalibration (k.restart .seeking (some (s.after 3000))) s

/-- A window that serves the calibration (R78). -/
def calibrationWindow (c diff : Nat) (k : FloorCal) (s : State) : State :=
  match k.phase with
  | .starting => s
  | .seeking => setCalibration (seekWindow s.now s.drive.speed k) s
  | .counting => countWindow c diff k s

/-- The window expires (R78, R79): the count is taken and starts again from 0, and the timer runs on. It stops when the
drive has left RUN, which only a band timer expiry taken before the window of its instant allows (R91). -/
def windowEnds (ledOff ledOn : Nat) (s : State) : State :=
  let c := s.debris.c
  let diff := beamDiff ledOff ledOn
  let due := if s.drive.state = .run then some (s.after 50) else none
  let t : State := { s with debris := { s.debris with c := 0, windowTimer := due } }
  match t.debris.cal, t.drive.owner with
  | some k, .calibration => calibrationWindow c diff k t
  | some _, .none => dirtWindow c diff t
  | some _, .host => dirtWindow c diff t
  | some _, .evacuation => dirtWindow c diff t
  | none, _ => dirtWindow c diff t

/-- DEBRIS_WINDOW (R78). -/
def execDebrisWindow (ledOff ledOn : Nat) (s : State) : Host.Outcome State Fault Refusal :=
  event s.debris.windowTimer.isSome (windowEnds ledOff ledOn) s

/-- PIEZO_PULSE (R79). -/
def execPiezoPulse (s : State) : Host.Outcome State Fault Refusal :=
  event s.debris.windowTimer.isSome
    (fun s => { s with debris := { s.debris with c := min 65535 (s.debris.c + 1) } }) s

/-- The band timer of a calibration in SEEKING runs. -/
def State.bandTimed (s : State) : Bool :=
  match s.debris.cal with
  | some k => decide (k.phase = .seeking) && k.bandTimer.isSome
  | none => false

/-- The window due at the instant at which a band timer expiry ended the calibration stays due, with its pulse count, and
is then evaluated for the dirt reading, as at an end with the drive still in RUN (R91, R93; log 51). `before` is the
state before the end. -/
def keepWindow (before after : State) : State :=
  if before.debris.windowTimer = some before.now then
    reportDirt after
      { after with debris := { after.debris.calibrationLeft with c := before.debris.c, windowTimer := some before.now } }
  else after

/-- The band timer expires: the calibration ends NO_SPEED, which is a stop request (R91, R93, R95). -/
def bandExpired (s : State) : State :=
  reportMove .calibration s (keepWindow s (driveStop (endCalibration .noSpeed s)))

/-- BAND_TIMER_EXPIRY. -/
def execBandTimerExpiry (s : State) : Host.Outcome State Fault Refusal := event s.bandTimed bandExpired s

/-! ### Requests (section 4.6) -/

/-- The value of a DIRT_LEVELS record (section 11.6). -/
def dirtLevelsBytes (l : DirtLevels) : List Byte :=
  u8 l.light ++ u8 l.medium ++ u8 l.heavy ++ u8 l.hysteresis ++ u8 l.ga ++ u8 l.go ++ u24 l.binThreshold

/-- The calibration's fields in DIRT_STATUS (R97). -/
def calibrationFields (k : Option FloorCal) : List Byte :=
  opt8 (k.map (fun k => calPhaseCode k.phase)) ++ opt8 (k.map FloorCal.band) ++ opt8 (k.map FloorCal.windows)
    ++ (List.range 7).flatMap (fun i => opt16 (k.bind (fun k => k.staged[i]?)))

/-- The reply fields of DIRT_STATUS (R97). -/
def dirtStatusFields (s : State) : List Byte :=
  let d := s.debris
  opt16 d.d ++ dirtLevelField s.reportedLevel ++ u16 d.s ++ speedField d.last.speed ++ opt8 d.last.band ++ opt32 d.last.c
    ++ opt32 d.last.n ++ opt16 d.last.diff ++ opt16 d.last.a ++ opt16 d.last.r ++ u16 d.clearRef
    ++ (d.floors.drop 1).flatMap opt16 ++ dirtLevelsBytes d.levels ++ u8 d.acoustic ++ u32 d.b ++ boolByte d.binFull
    ++ calibrationFields d.cal

/-- DIRT_STATUS (R97). -/
def dirtStatusSpec : RequestSpec :=
  ⟨0x20, true, false, emptyPayload, anyForm, false, false, fun _ s => ⟨.ok, s, dirtStatusFields s⟩⟩

/-- DIRT_STATUS. -/
def execDirtStatus (s : State) : Host.Outcome State Fault Refusal := request dirtStatusSpec s

/-- The dirt levels replaced; BIN_FULL is evaluated again (R89, R98). -/
def applyDirtLevels (l : DirtLevels) (s : State) : State :=
  reportDirt s { s with debris := { s.debris with levels := l }.setLoad s.debris.b }

/-- SET_DIRT_LEVELS (R98). The bin threshold is a 20-bit field in three bytes (R189). A DIRT report of BIN_FULL comes before
the FAULT and DONE of a write that ends at once (DESIGN CHOICE, log 10). -/
def setDirtLevelsSpec : RequestSpec :=
  ⟨0x21, true, false, lengthIs 10, fun p => decide (u24At p 6 < 1048576), false, false, fun p s =>
    let asked : DirtLevels :=
      ⟨byteAt p 0, byteAt p 1, byteAt p 2, byteAt p 3, byteAt p 4, byteAt p 5, u24At p 6⟩
    let l : DirtLevels := { asked with hysteresis := clampNat 0 32 asked.hysteresis,
                                       binThreshold := clampNat 10000 1000000 asked.binThreshold }
    let keep := byteAt p 9
    if keepOk keep = false then refuse .outOfRange s
    else if thresholdsOk l.light l.medium l.heavy = false then refuse .outOfRange s
    else if keepBusy keep s then refuse .busy s
    else ⟨okOrClamped (decide (l ≠ asked)), keepWrite keep 0x21 0x07 (dirtLevelsBytes l) (applyDirtLevels l s), []⟩⟩

/-- SET_DIRT_LEVELS. -/
def execSetDirtLevels (s : State) : Host.Outcome State Fault Refusal := request setDirtLevelsSpec s

/-- CLEAR_BIN (R99). -/
def clearBinSpec : RequestSpec :=
  ⟨0x22, true, false, emptyPayload, anyForm, false, false, fun _ s => ⟨.ok, emptyBin s, []⟩⟩

/-- CLEAR_BIN. -/
def execClearBin (s : State) : Host.Outcome State Fault Refusal := request clearBinSpec s

/-- A floor calibration starts (R91). -/
def startCalibration (s : State) : State := reportStart s (startRequest .calibration (setCalibration newCalibration s))

/-- CALIBRATE_FLOOR (R100). -/
def calibrateFloorSpec : RequestSpec :=
  ⟨0x23, true, false, emptyPayload, anyForm, false, false, fun _ s =>
    if s.debris.cal.isSome ∨ s.store.op.isSome then refuse .busy s
    else if s.stick.state ≠ .detached ∨ s.drive.mode ≠ .off ∨ s.drive.state ≠ .off ∨ s.prot.dischargeOk = false then
      refuse .denied s
    else ⟨.accepted, startCalibration s, []⟩⟩

/-- CALIBRATE_FLOOR. -/
def execCalibrateFloor (s : State) : Host.Outcome State Fault Refusal := request calibrateFloorSpec s

end Sys2Proof.Machine
end

