-- ==== Sys2Proof/Machine/StickSession.lean ====
section
/-! DEFINITION. The stick session (sections 6.2 and 6.3): presence, the taking of a HAIL or POLL, and the silence timer. -/

namespace Sys2Proof.Machine

open Sys2Proof

/-- The evacuation state last recorded: IDLE when the binding record or its last POLL is absent (R123, R126). -/
def State.recordedEvac (s : State) : EvacState :=
  match s.stick.binding.bind StickBinding.lastPoll with
  | some p => p.evac
  | none => .idle

/-- The stick's DOCK report (R126). -/
def reportStick (cause : StickCause) (s : State) : State :=
  handReport (.stick s.stick.state s.recordedEvac s.stick.evacRequest cause) s

/-! ### Presence (R121, R122, R125) -/

/-- The entry to DOCKED from DETACHED (R122): the mode is forced to OFF, which stops the drives, and the part enters
ACTIVE. -/
def enterDocked (s : State) : State :=
  let docked : State := { s with stick := { s.stick with state := .docked, presentTimer := none, enteredAt := s.now } }
  reportStick .contact (enterActive .contact (forceOff .docked docked))

/-- The entry to DETACHED (R125). -/
def enterDetached (s : State) : State :=
  let released := releaseChgOc
    { s with stick := { s.stick with state := .detached, silence := none, absentTimer := none, enteredAt := s.now } }
  reportStick .contact { released with stick := { released.stick with binding := none, evacRequest := false } }

/-- A sample taken in DETACHED (R121). -/
def sampleDetached (mV : Nat) (s : State) : State :=
  let j := qualify s.now s.stick.presentTimer (decide (9000 < mV)) 50
  let t : State := { s with stick := { s.stick with presentTimer := j.1 } }
  if j.2 then enterDocked t else t

/-- A sample taken in DOCKED or CHARGING (R121). -/
def sampleAttached (mV : Nat) (s : State) : State :=
  let j := qualify s.now s.stick.absentTimer (decide (mV < 3000)) 200
  let t : State := { s with stick := { s.stick with absentTimer := j.1 } }
  if j.2 then enterDetached t else t

/-- A sample of the contact voltage. -/
def voltageSampled (mV : Nat) (s : State) : State :=
  let t : State := { s with stick := { s.stick with contactV := some mV } }
  match s.stick.state with
  | .detached => sampleDetached mV t
  | .docked => sampleAttached mV t
  | .charging => sampleAttached mV t

/-- CONTACT_VOLTAGE_SAMPLE (R121). -/
def execContactVoltageSample (mV : Nat) (s : State) : Host.Outcome State Fault Refusal :=
  event s.isStick (voltageSampled mV) s

/-! ### HAIL (R122) -/

/-- DOCKED from CHARGING: the silence timer stops (R122, R123). -/
def backToDocked (s : State) : State :=
  { s with stick := { s.stick with state := .docked, silence := none, enteredAt := s.now } }

/-- The binding record, created when it is absent (R120). -/
def StickBinding.orNew (b : Option StickBinding) : StickBinding := b.getD ⟨none, none, ⟨false, false, false⟩, none, false⟩

/-- The binding record takes the fields of a HAIL. -/
def StickBinding.hail (k : StickBinding) (m : HailMsg) : StickBinding :=
  { k with version := some m.version, budget := some m.budget, flags := m.flags }

/-- A HAIL of protocol version 1, taken in DOCKED or CHARGING (R122). -/
def answerHail (m : HailMsg) (s : State) : State :=
  let docked := if s.stick.state = .charging then backToDocked s else s
  let bound : State :=
    { docked with stick := { docked.stick with binding := some ((StickBinding.orNew s.stick.binding).hail m) } }
  let derived := deriveRequest bound
  let replied := formReply 0x91 (answerPayload derived) derived
  if s.stick.state = .charging then reportStick .hail replied else replied

/-- A valid HAIL: another protocol version is not answered and changes nothing (R122). -/
def takeHail (m : HailMsg) (s : State) : State := if m.version = 1 then answerHail m s else s

/-! ### POLL (R123, R124) -/

/-- The pack current of the latest pack record is a number of at least 50 mA, or ABOVE (R123, R124). -/
def State.chargeFlows (s : State) : Bool :=
  match s.pack.record with
  | some r => r.packI.ge 50
  | none => false

/-- The charger state of a POLL is CC or CV. -/
def ChargerState.regulates : ChargerState → Bool
  | .cc => true
  | .cv => true
  | .off => false
  | .softstart => false
  | .fault => false

/-- The entry to CHARGING (R123). -/
def enterCharging (s : State) : State :=
  enterActive .contact
    { s with stick := { s.stick with state := .charging, silence := some (s.after 2000), enteredAt := s.now } }

/-- Step 5: the session evaluates the charger state of the POLL (R123). -/
def pollSession (c : ChargerState) (s : State) : State :=
  match s.stick.state with
  | .docked => if c.regulates && s.chargeFlows then enterCharging s else s
  | .charging =>
    if c.regulates then { s with stick := { s.stick with silence := some (s.after 2000) } } else backToDocked s
  | .detached => s

/-- The binding record takes the fields of a POLL (R123); DONE counts as seen from its first POLL on (R128). -/
def StickBinding.poll (k : StickBinding) (m : PollMsg) : StickBinding :=
  { k with lastPoll := some m, flags := m.flags, seenDone := k.seenDone || decide (m.evac = .done) }

/-- Step 3: the first DONE seen hands the bin-emptied event to the debris sensor (R88, R123). -/
def seeDone (m : PollMsg) (seen : Bool) (s : State) : State :=
  if m.evac = .done ∧ seen = false then emptyBin s else s

/-- The DOCK report of a POLL: one for a change of the session state, of the recorded evacuation state, or of both
(R126). -/
def reportPoll (before after : State) : State :=
  if after.stick.state ≠ before.stick.state then reportStick .charger after
  else if after.recordedEvac ≠ before.recordedEvac then reportStick .evacuation after
  else after

/-- A valid POLL taken in DOCKED or CHARGING (R123). The reports of the event are in the order DIRT, MODE, DOCK (DESIGN
CHOICE, log 10). -/
def takePoll (m : PollMsg) (s : State) : State :=
  let k := StickBinding.orNew s.stick.binding
  let bound : State := { s with stick := { s.stick with binding := some (k.poll m) } }
  let stepped := pollSession m.charger (seeDone m k.seenDone bound)
  let derived := deriveRequest stepped
  reportPoll s (formReply 0x92 (needPayload derived) derived)

/-- The HAIL that a byte completes and the stick takes (R118). -/
def State.hailTaken (s : State) (b : Byte) : Option HailMsg :=
  match s.completesMessage b, s.stick.state with
  | some (.hail _), .detached => none
  | some (.hail m), _ => some m
  | some (.poll _), _ => none
  | some (.answer _), _ => none
  | some (.need _), _ => none
  | none, _ => none

/-- The POLL that a byte completes and the stick takes (R118). -/
def State.pollTaken (s : State) (b : Byte) : Option PollMsg :=
  match s.completesMessage b, s.stick.state with
  | some (.poll _), .detached => none
  | some (.poll m), _ => some m
  | some (.hail _), _ => none
  | some (.answer _), _ => none
  | some (.need _), _ => none
  | none, _ => none

/-- The taking of the HAIL that a byte completes. -/
def hailCompleted (b : Byte) (s : State) : State :=
  match s.hailTaken b with
  | some m => takeHail m (endFrame s)
  | none => s

/-- The taking of the POLL that a byte completes. -/
def pollCompleted (b : Byte) (s : State) : State :=
  match s.pollTaken b with
  | some m => takePoll m (endFrame s)
  | none => s

/-- HAIL_TAKEN (R122): the byte is the check of a valid HAIL taken in DOCKED or CHARGING. -/
def execHailTaken (check : Byte) (s : State) : Host.Outcome State Fault Refusal :=
  event (s.hailTaken check).isSome (hailCompleted check) s

/-- POLL_TAKEN (R123): the byte is the check of a valid POLL taken in DOCKED or CHARGING. -/
def execPollTaken (check : Byte) (s : State) : Host.Outcome State Fault Refusal :=
  event (s.pollTaken check).isSome (pollCompleted check) s

/-- SILENCE_TIMER_EXPIRY (R123). -/
def execSilenceTimerExpiry (s : State) : Host.Outcome State Fault Refusal :=
  event (decide (s.stick.state = .charging) && s.stick.silence.isSome)
    (fun s => reportStick .silence (backToDocked s)) s

end Sys2Proof.Machine
end

