-- ==== Sys2Proof/Machine/DockSession.lean ====
section
/-! DEFINITION. The dock session (section 6.4): presence, hailing, the acceptance of an ANSWER or NEED, the reply window, and
the contact link's last commands and requests. -/

namespace Sys2Proof.Machine

open Sys2Proof

/-! ### Sending (R119, R130, R131) -/

/-- The bytes of a dock frame, with its fields as they stand at its sending. -/
def dockWire (s : State) : DockFrame → List Byte
  | .hail => contactWire 0x11 (hailPayload s)
  | .poll => contactWire 0x12 (pollPayload s)

/-- A HAIL or POLL is sent; while a window is open or a frame is being sent it is held (R119; log 26). -/
def sendContact (kind : DockFrame) (s : State) : State :=
  if s.dock.window.isSome || s.contact.tx.isSome then { s with contact := { s.contact with held := some kind } }
  else { s with contact := { s.contact with tx := some (dockWire s kind), txKind := some kind } }

/-- The dock session still calls for a frame of a kind: a HAIL in HAILING, a POLL while bound. -/
def DockState.callsFor : DockState → DockFrame → Bool
  | .hailing, .hail => true
  | .bound, .poll => true
  | .charging, .poll => true
  | .evacuating, .poll => true
  | .hold, .poll => true
  | .vacant, _ => false
  | .hailing, .poll => false
  | .bound, .hail => false
  | .charging, .hail => false
  | .evacuating, .hail => false
  | .hold, .hail => false

/-- The frame that an open window held back is sent once the window has closed, if the session still calls for it (R119;
log 26). -/
def sendHeld (s : State) : State :=
  match s.contact.held with
  | none => s
  | some kind =>
    let t : State := { s with contact := { s.contact with held := none } }
    if t.dock.state.callsFor kind then sendContact kind t else t

/-- The reply window closes (R119). -/
def closeWindow (s : State) : State := { s with dock := { s.dock with window := none, windowDue := none } }

/-- The last byte of a HAIL or POLL has been sent: its reply window opens, in whatever state the session then is (R119). -/
def frameSent (s : State) : State :=
  { s with contact := { s.contact with tx := none, txKind := none },
           dock := { s.dock with window := s.contact.txKind, windowDue := some (s.after 50) } }

/-- CONTACT_FRAME_SENT (R119). -/
def execContactFrameSent (s : State) : Host.Outcome State Fault Refusal :=
  event (s.isDock && s.contact.tx.isSome) frameSent s

/-! ### Entries to the session states -/

/-- The charger is commanded OFF (R133, R144). -/
def chargerOff (s : State) : State := { s with charger := s.charger.stop s.now }

/-- The session enters a state. -/
def sessionTo (state : DockState) (s : State) : State :=
  { s with dock := { s.dock with state := state, enteredAt := s.now } }

/-- The entry to HAILING (R130, R133): the charger is commanded OFF, a HAIL is sent, and the part enters ACTIVE. -/
def enterHailing (s : State) : State :=
  let t := chargerOff (sessionTo .hailing s)
  let u : State :=
    { t with dock := { t.dock with hailCount := 0, noAnswerLogged := false, hailPeriod := 250, presentTimer := none,
                                   hailTimer := some (s.after 250) } }
  sendContact .hail (enterActive .contact u)

/-- A run ended by the session, with the DRIVE report of the fan's stop (R135, R136, R152). -/
def failRun (s : State) : State := reportMove .evacuation s (endRun .failed s)

/-- The entry to VACANT (R136, R148). The reports of the event are in the order DONE, DRIVE, DOCK (DESIGN CHOICE, log 10). -/
def enterVacant (s : State) : State :=
  let t := sessionTo .vacant s
  let u := failRun { t with charger := t.charger.vacate s.now }
  reportDock .presence s
    { u with dock := { u.dock with binding := none, report := .idle, hailTimer := none, pollTimer := none,
                                   window := none, windowDue := none, hailCount := 0, absentTimer := none },
             contact := { u.contact with held := none } }

/-- The entry to HOLD at the third missed POLL in a row (R135). The reports of the event are in the order DONE, DRIVE, FAULT,
DOCK (DESIGN CHOICE, log 10). -/
def enterHold (s : State) : State :=
  let t := failRun (chargerOff (sessionTo .hold s))
  reportDock .miss s
    (appendFault .dockLink .needLost (.num 3) (some (.num (dockStateCode s.dock.state))) t)

/-- The binding dropped from HOLD, with the entry to HAILING (R135). -/
def dropBinding (s : State) : State :=
  reportDock .miss s
    (enterHailing { s with dock := { s.dock with binding := none, report := .idle, pollTimer := none } })

/-! ### Presence (R130) -/

/-- A sample taken in VACANT. -/
def sampleVacant (mA : Nat) (s : State) : State :=
  let j := qualify s.now s.dock.presentTimer (decide (1 ≤ mA)) 100
  let t : State := { s with dock := { s.dock with presentTimer := j.1 } }
  if j.2 then reportDock .presence t (enterHailing t) else t

/-- A sample taken in every other state. -/
def samplePresent (mA : Nat) (s : State) : State :=
  let j := qualify s.now s.dock.absentTimer (decide (mA < 1)) 100
  let t : State := { s with dock := { s.dock with absentTimer := j.1 } }
  if j.2 then enterVacant t else t

/-- A sample of the contact current. -/
def currentSampled (mA : Nat) (s : State) : State :=
  let t : State := { s with dock := { s.dock with contactI := some mA } }
  if s.dock.state = .vacant then sampleVacant mA t else samplePresent mA t

/-- CONTACT_CURRENT_SAMPLE (R130). -/
def execContactCurrentSample (mA : Nat) (s : State) : Host.Outcome State Fault Refusal :=
  event s.isDock (currentSampled mA) s

/-! ### Timers (R130, R131) -/

/-- HAIL_TIMER_EXPIRY (R130). The timer restarts at the expiry, also while an open window holds the frame (R119; DESIGN
CHOICE, log 68). -/
def execHailTimerExpiry (s : State) : Host.Outcome State Fault Refusal :=
  event s.dock.hailTimer.isSome
    (fun s => sendContact .hail { s with dock := { s.dock with hailTimer := some (s.after s.dock.hailPeriod) } }) s

/-- POLL_TIMER_EXPIRY (R131). The timer restarts as that of the HAIL does (DESIGN CHOICE, log 68). -/
def execPollTimerExpiry (s : State) : Host.Outcome State Fault Refusal :=
  event s.dock.pollTimer.isSome
    (fun s => sendContact .poll { s with dock := { s.dock with pollTimer := some (s.after 500) } }) s

/-! ### ANSWER (R131, R148) -/

/-- The binding record at the acceptance of an ANSWER. -/
def newBinding (m : AnswerMsg) (now : Ms) : DockBinding :=
  ⟨m.cells, m.soc, m.binLoad, m.level, none, 0, 0, 0, none, now⟩

/-- An ANSWER accepted in HAILING binds the dock to the stick (R131); the charger's fault count becomes 0 (R148). -/
def bindStick (m : AnswerMsg) (s : State) : State :=
  let running := decide (s.evac.phase ≠ .none)
  let bound : State :=
    { s with dock := { s.dock with binding := some (newBinding m s.now),
                                   report := if running then .running else .idle, hailTimer := none,
                                   pollTimer := some (s.after 500) },
             charger := { s.charger with faultCount := 0 } }
  let entered := if running then sessionTo .evacuating bound else chargerOff (sessionTo .bound bound)
  reportDock .answer s (sendContact .poll entered)

/-- An accepted ANSWER: the window closes, and in HAILING the dock binds. -/
def acceptAnswer (m : AnswerMsg) (s : State) : State :=
  let closed := closeWindow s
  sendHeld (if s.dock.state = .hailing then bindStick m closed else closed)

/-! ### NEED (R132 to R134, R150) -/

/-- The charger is commanded to run with the values of a NEED: SOFTSTART or NEW LIMIT (R144). -/
def chargerRun (n : Need) (s : State) : State := { s with charger := s.charger.run n s.now }

/-- An accepted NEED in BOUND (R133). -/
def needInBound (n : Need) (s : State) : State := if n.asks then chargerRun n (sessionTo .charging s) else s

/-- An accepted NEED in EVACUATING (R133). -/
def needInEvacuating (n : Need) (s : State) : State := if n.asks then chargerRun n s else chargerOff s

/-- The session step of an accepted NEED (R133). -/
def needSession (n : Need) (s : State) : State :=
  match s.dock.state with
  | .bound => needInBound n s
  | .charging => if n.asks then chargerRun n s else chargerOff (sessionTo .bound s)
  | .evacuating => needInEvacuating n s
  | .hold =>
    if s.evac.phase = .none then needInBound n (chargerOff (sessionTo .bound s))
    else needInEvacuating n (sessionTo .evacuating s)
  | .vacant => s
  | .hailing => s

/-- The binding takes an accepted NEED (R132). -/
def DockBinding.accept (b : DockBinding) (m : NeedMsg) (now : Ms) : DockBinding :=
  { b with need := some m, needTime := now, missCount := 0 }

/-- The report state DONE returns to IDLE at a NEED whose evacuate_request is false (R134). -/
def doneReport (m : NeedMsg) (r : EvacState) : EvacState := if r = .done ∧ m.evacRequest = false then .idle else r

/-- The record of an accepted NEED: the window closes, the binding takes it, and a DONE may end (R132, R134). -/
def recordNeed (m : NeedMsg) (s : State) : State :=
  let t := closeWindow s
  { t with dock := { t.dock with binding := t.dock.binding.map (fun b => b.accept m s.now),
                                 report := doneReport m t.dock.report } }

/-- The DOCK report of an accepted NEED: cause NEED for a change of the session state, else EVACUATION (R137). -/
def reportNeed (before after : State) : State :=
  reportDock (if after.dock.state = before.dock.state then .evacuation else .need) before after

/-- An accepted NEED: the session step, then the start conditions of a counted run (R132, R133, R150). -/
def acceptNeed (m : NeedMsg) (s : State) : State :=
  let stepped := needSession m.need (recordNeed m s)
  let started := if stepped.countedRunDue then startRun .counted stepped else stepped
  sendHeld (reportNeed s started)

/-! ### The reply window (R119, R132) -/

/-- An unanswered HAIL (R130). -/
def hailUnanswered (s : State) : State :=
  let count := min 20 (s.dock.hailCount + 1)
  let t : State := { s with dock := { s.dock with hailCount := count } }
  if 20 ≤ count ∧ s.dock.noAnswerLogged = false then
    appendFault .dockLink .noAnswer (.num 20) none
      { t with dock := { t.dock with noAnswerLogged := true, hailPeriod := 1000 } }
  else t

/-- What a missed POLL leads to, at a miss count (R132). -/
def missSession (count : Nat) (s : State) : State :=
  match s.dock.state with
  | .bound => if 3 ≤ count then enterHold s else s
  | .charging => if 3 ≤ count then enterHold s else s
  | .evacuating => if 3 ≤ count then enterHold s else s
  | .hold => if 20 ≤ count then dropBinding s else s
  | .vacant => s
  | .hailing => s

/-- A missed POLL (R132). -/
def pollMissed (s : State) : State :=
  let count := min 20 (s.missCount + 1)
  missSession count
    { s with dock := { s.dock with binding := s.dock.binding.map (fun b => { b with missCount := count }) } }

/-- The window has expired: it closes, and the miss is counted (R119, R130, R132). -/
def windowOver (s : State) : State :=
  let closed := closeWindow s
  sendHeld (match s.dock.window with
    | some .hail => hailUnanswered closed
    | some .poll => pollMissed closed
    | none => closed)

/-- REPLY_WINDOW_EXPIRY (R119, R132). -/
def execReplyWindowExpiry (s : State) : Host.Outcome State Fault Refusal := event s.dock.window.isSome windowOver s

/-- The ANSWER that a byte completes and the open window awaits (R119). -/
def State.answerTaken (s : State) (b : Byte) : Option AnswerMsg :=
  match s.completesMessage b, s.dock.window with
  | some (.answer m), some .hail => some m
  | some (.answer _), some .poll => none
  | some (.answer _), none => none
  | some (.need _), _ => none
  | some (.hail _), _ => none
  | some (.poll _), _ => none
  | none, _ => none

/-- The NEED that a byte completes and the open window awaits (R119). -/
def State.needTaken (s : State) (b : Byte) : Option NeedMsg :=
  match s.completesMessage b, s.dock.window with
  | some (.need m), some .poll => some m
  | some (.need _), some .hail => none
  | some (.need _), none => none
  | some (.answer _), _ => none
  | some (.hail _), _ => none
  | some (.poll _), _ => none
  | none, _ => none

/-- The acceptance of the ANSWER that a byte completes. -/
def answerCompleted (b : Byte) (s : State) : State :=
  match s.answerTaken b with
  | some m => acceptAnswer m (endFrame s)
  | none => s

/-- The acceptance of the NEED that a byte completes. -/
def needCompleted (b : Byte) (s : State) : State :=
  match s.needTaken b with
  | some m => acceptNeed m (endFrame s)
  | none => s

/-- ANSWER_ACCEPTED (R131): the byte is the check of a valid ANSWER that the open window awaits. -/
def execAnswerAccepted (check : Byte) (s : State) : Host.Outcome State Fault Refusal :=
  event (s.answerTaken check).isSome (answerCompleted check) s

/-- NEED_ACCEPTED (R133): the byte is the check of a valid NEED that the open window awaits. -/
def execNeedAccepted (check : Byte) (s : State) : Host.Outcome State Fault Refusal :=
  event (s.needTaken check).isSome (needCompleted check) s

/-! ### A byte of the contact link (R117 to R119) -/

/-- A byte that completes a frame: a valid frame that is taken or accepted acts, and every other frame is discarded. -/
def frameEnds (b : Byte) (s : State) : State :=
  match s.hailTaken b, s.pollTaken b, s.answerTaken b, s.needTaken b with
  | some m, _, _, _ => takeHail m (endFrame s)
  | none, some m, _, _ => takePoll m (endFrame s)
  | none, none, some m, _ => acceptAnswer m (endFrame s)
  | none, none, none, some m => acceptNeed m (endFrame s)
  | none, none, none, none => endFrame s

/-- A byte on the contact link. -/
def contactByte (b : Byte) (s : State) : State := if (s.completes b).isSome then frameEnds b s else collectByte b s

/-- CONTACT_BYTE_ARRIVAL (R117). -/
def execContactByteArrival (byte : Byte) (s : State) : Host.Outcome State Fault Refusal :=
  event true (contactByte byte) s

/-! ### Requests (section 6.5) -/

/-- SET_EVACUATION (R138). The threshold is a 20-bit field in four bytes (R189). -/
def setEvacuationSpec : RequestSpec :=
  ⟨0x29, true, true, lengthIs 9, fun p => decide (u32At p 1 < 1048576) && settings16 [6] p, false, false, fun p s =>
    let keep := byteAt p 8
    match policyOf (byteAt p 0) with
    | none => refuse .outOfRange s
    | some policy =>
      let asked : EvacSettings := ⟨policy, u32At p 1, byteAt p 5, u16At p 6⟩
      let e := clampEvac asked
      if keepOk keep = false then refuse .outOfRange s
      else if keepBusy keep s then refuse .busy s
      else ⟨okOrClamped (decide (e ≠ asked)),
        keepWrite keep 0x29 0x08 (evacBytes e) (deriveRequest { s with evacSet := e }), []⟩⟩

/-- SET_EVACUATION. -/
def execSetEvacuation (s : State) : Host.Outcome State Fault Refusal := request setEvacuationSpec s

/-- A Boolean or set field of so many members that may be absent; absent, its bits are free and the unused ones zero
(R189; log 17). -/
def optSet (members : Nat) (free : Byte) : Option Nat → List Byte
  | some n => u8 n
  | none => u8 (free.toNat % 2 ^ members)

/-- A Boolean as the number of its field. -/
def boolCode (b : Bool) : Nat := if b then 1 else 0

/-- The last POLL in DOCK_STATUS. -/
def pollFields (free : Byte) (p : Option PollMsg) : List Byte :=
  opt8 (p.map (fun p => chargerStateCode p.charger)) ++ opt16 (p.bind PollMsg.vOut)
    ++ s16 ((p.map PollMsg.iOut).getD .absent) ++ opt8 (p.map (fun p => evacStateCode p.evac))
    ++ optSet 3 free (p.map (fun p => dockFlagsCode p.flags))

/-- The reply fields of DOCK_STATUS in STICK role (R139). The contact voltage goes out as an unsigned value (DEDUCED,
log 18). -/
def stickStatusFields (s : State) : List Byte :=
  let k := s.stick.binding
  u8 (stickStateCode s.stick.state) ++ u32 s.stick.enteredAt.toNat ++ opt16 s.stick.contactV
    ++ boolByte s.stick.evacRequest ++ boolByte k.isSome ++ opt8 (k.bind StickBinding.version)
    ++ opt16 (k.bind StickBinding.budget) ++ optSet 3 (s.freeByte 0) (k.map (fun k => dockFlagsCode k.flags))
    ++ optSet 1 (s.freeByte 1) (k.map (fun k => boolCode k.seenDone))
    ++ pollFields (s.freeByte 2) (k.bind StickBinding.lastPoll) ++ evacBytes s.evacSet

/-- The last accepted NEED in DOCK_STATUS. -/
def needFields (s : State) (m : Option NeedMsg) : List Byte :=
  opt16 (m.map (fun m => m.need.target)) ++ opt16 (m.map (fun m => m.need.limit))
    ++ optSet 1 (s.freeByte 0) (m.map (fun m => boolCode m.need.permitted))
    ++ opt8 (m.map (fun m => reasonCode m.need.reason))
    ++ optSet 1 (s.freeByte 1) (m.map (fun m => boolCode m.need.precharge))
    ++ optSet 1 (s.freeByte 2) (m.map (fun m => boolCode m.evacRequest))
    ++ opt8 (m.map (fun m => protLevelCode m.level)) ++ opt16 (m.bind NeedMsg.soc)

/-- The reply fields of DOCK_STATUS in DOCK role (R139). The contact current goes out as an unsigned value (DEDUCED,
log 18). -/
def dockStatusFields (s : State) : List Byte :=
  let b := s.dock.binding
  let m := s.lastNeed
  u8 (dockStateCode s.dock.state) ++ u32 s.dock.enteredAt.toNat ++ opt16 s.dock.contactI ++ u8 s.dock.hailCount
    ++ u8 (evacStateCode s.dock.report) ++ boolByte b.isSome ++ opt8 (b.map DockBinding.cells)
    ++ opt16 (b.bind DockBinding.soc) ++ opt16 (b.map DockBinding.binLoad)
    ++ opt8 (b.map (fun b => protLevelCode b.level)) ++ boolByte m.isSome ++ needFields s m
    ++ optMs (if m.isSome then b.map DockBinding.needTime else none) ++ opt8 (b.map DockBinding.missCount)
    ++ opt8 (b.map DockBinding.evacsDone) ++ opt8 ((b.bind DockBinding.evacResult).map runResultCode)
    ++ optMs (b.map DockBinding.boundAt) ++ evacBytes s.evacSet

/-- DOCK_STATUS (R139); the counter of free values moves on for its free bytes (log 17). -/
def dockStatusSpec : RequestSpec :=
  plainRequest 0x28 (fun s => ⟨.ok, nextFree s, if s.isDock then dockStatusFields s else stickStatusFields s⟩)

/-- DOCK_STATUS. -/
def execDockStatus (s : State) : Host.Outcome State Fault Refusal := request dockStatusSpec s

end Sys2Proof.Machine
end

