-- ==== Sys2Proof/Machine/Governor.lean ====
section
/-! DEFINITION. Power governor (chapter 2): the period computation of R27 and the governor's requests. -/

namespace Sys2Proof.Machine

open Sys2Proof

/-! ### Stages 1 to 5 (R27) -/

/-- The drive hands over the mean bus current of the period just ended (R13), and the readings of the next begin. -/
def driveTakeMean (s : State) : State :=
  { s with drive := { s.drive with busCurrent := busMean s.gov.busSamples },
           gov := { s.gov with busSamples := CurrentSum.empty } }

/-- The pack voltage of the latest pack record, if one has been published. -/
def State.packVoltage (s : State) : Option Reading := s.pack.record.map PackRecord.packV

/-- The three rows of the grant table filled at a part time (R32, R34). -/
def Gov.fill (g : Gov) (r1 r2 r3 : GrantRow) : Gov := { g with row1 := r1, row2 := r2, row3 := r3 }

/-- The figures of stage 5 (R35). -/
def Gov.figures (g : Gov) (pDem pAv pMeas : Nat) : Gov :=
  { g with pDem := pDem, pAv := pAv, pCmd := min pDem pAv, pMeas := pMeas, e := powerError (min pDem pAv) pMeas }

/-- The measured power in STICK role: V_start, or the latest pack voltage while it is absent (R35). -/
def State.stickMeasured (s : State) : Nat :=
  powerAt (s.gov.vStart.or s.packVoltage) (motorCurrent s.drive.busCurrent)

/-- Stages 3 to 5 in STICK role, from the allowance just computed (R30, R32, R33, R35). -/
def stickGrants (s : State) : State :=
  let pDem := s.stickDemand s.heldPower
  let roll := rollGrant s.allowance s.rollDemand
  let grant := suctionGrant s.allowance s.rollDemand
  let filled := s.gov.fill
    ⟨.overhead, overheadDemand, overheadGrant s.allowance, some s.now⟩
    ⟨.roll, s.rollDemand, roll, some s.now⟩
    ⟨.suction, suctionDemand pDem s.packVoltage, grant, some s.now⟩
  let figured := filled.figures pDem (powerAt s.packVoltage grant) s.stickMeasured
  { s with gov := { figured with pHold := s.heldPower,
                                 rollDuty := rollDuty (s.dutyInForce.getD 0) roll s.rollDemand } }

/-- Stages 2 to 5 in DOCK role: the charger stage's means and split, recorded in the grant table (R34, R35, R141, R143).
The OVERHEAD row holds its 2,000 mW as demand and as grant (DESIGN CHOICE, log 56). P_meas is R35's formula as it stands:
a supply of 40,000 mV with 45,000 mA gives 1,800,000 mW, beyond R25's range of 0..1,620,000, and no rule limits it (DESIGN
CHOICE, log 75). -/
def dockStages (readings : List ChargerReadings) (s : State) : State :=
  let t := chargerPeriod (chargerMeans readings s.charger) s
  let split := splitOf t.charger.budget t.fanDemand t.charger.vOut
  let filled := t.gov.fill
    ⟨.overhead, dockOverhead, dockOverhead, some t.now⟩
    ⟨.fan, split.fanDemand, split.fanGrant, some t.now⟩
    ⟨.charger, 0, split.allowance, some t.now⟩
  let measured := powerAt (t.charger.supply.map (fun v => Reading.num v)) (motorCurrent t.drive.busCurrent)
  { t with gov := filled.figures split.fanDemand split.fanGrant measured }

/-- Stages 1 to 5 of a period. -/
def governorStages (readings : List ChargerReadings) (s : State) : State :=
  match s.ctl.role with
  | .stick => stickGrants (recomputeAllowance (rollTakeMean (driveTakeMean s)))
  | .dock => dockStages readings (driveTakeMean s)

/-! ### Stage 6: the duty (R36, R38 to R41) -/

/-- A duty handed to the drive, which holds it until its next commutation (R13). -/
def handDuty (duty : Nat) (s : State) : State :=
  { s with drive := { s.drive with heldDuty := some duty }, gov := { s.gov with handedDuty := duty } }

/-- The first period of a speed hold (R41): P_hold takes P_meas, no duty step is made, and prev is handed. -/
def firstHold (s : State) : State :=
  handDuty s.gov.prev { s with gov := { s.gov with pHold := some (min 500000 s.gov.pMeas), saturated := false } }

/-- The duty step settled (R40): the PI state, GOV_SAT, and the duty handed on. -/
def settleStep (r : DutyStep) (s : State) : State :=
  handDuty r.duty
    { s with gov := { s.gov with a := r.a, residue := r.residue, prev := r.duty, saturated := r.saturated },
             host := { s.host with govSat := s.host.govSat || r.saturated } }

/-- A period at which the handed drive state is not RUN (R36): the PI state is held at 0 and no duty is handed. -/
def holdPi (s : State) : State :=
  { s with gov := { s.gov with a := 0, residue := 0, prev := 0, saturated := false, handedDuty := 0 } }

/-- Stage 6 of a period; `first` marks the first period of a speed hold. -/
def governorDuty (first : Bool) (s : State) : State :=
  if s.drive.state = .run then
    if first then firstHold s else settleStep (dutyStep s.gov s.gov.e s.slewLifted) s
  else holdPi s

/-! ### Stages 7 and 8: the hand-overs (R13, R33) -/

/-- The coast for lack of grant (R13): a floor calibration ends NO_SPEED (R95), and the mode keeps its value. -/
def noGrantCoast (s : State) : State := reportDrive .noGrant (driveStop (endCalibration .noSpeed s))

/-- The suction grant, or the fan grant, handed to the drive (R13). -/
def handGrant (grant : Nat) (s : State) : State :=
  if s.drive.state = .run then
    let count := if grant = 0 then s.drive.zeroGrant + 1 else 0
    let t : State := { s with drive := { s.drive with zeroGrant := count } }
    if 10 ≤ count then noGrantCoast t else t
  else s

/-- Stage 7: the fan grant in DOCK role; the suction grant, then the roll grant and roll duty, in STICK role. -/
def governorHands (s : State) : State :=
  match s.ctl.role with
  | .stick => rollHandOver s.gov.row2.grant s.gov.rollDuty (handGrant s.gov.row3.grant s)
  | .dock => handGrant s.gov.row2.grant s

/-- Stage 8, and the period timer restarts (R26, R27). -/
def governorEnds (s : State) : State :=
  { s with gov := { s.gov with vStart := if s.isStick then s.packVoltage else none, timer := some (s.after 1) } }

/-- The period computation (R27), with the charger stage's readings of the period just ended (R143). -/
def governorPeriod (readings : List ChargerReadings) (s : State) : State :=
  governorEnds (governorHands (governorDuty (s.holding && s.gov.pHold.isNone) (governorStages readings s)))

/-- GOVERNOR_PERIOD (R27). -/
def execGovernorPeriod (readings : List ChargerReadings) (s : State) : Host.Outcome State Fault Refusal :=
  event s.gov.timer.isSome (governorPeriod readings) s

/-! ### Requests (section 2.10) -/

/-- The value of a MODE_POWERS record (section 11.6). -/
def powersBytes (p : ModePowers) : List Byte := u16 p.eco ++ u16 p.med ++ u16 p.boost ++ u16 p.autoMax

/-- The value of a LIMITS record (section 11.6). -/
def limitsBytes (l : Limits) : List Byte := u16 l.discharge ++ u16 l.charge ++ u16 l.cellTarget ++ u16 l.dutyMax

/-- SET_MODE_POWER (R45). -/
def setModePowerSpec : RequestSpec :=
  ⟨0x12, true, true, lengthIs 9, settings16 [0, 2, 4, 6], false, false, fun p s =>
    let asked : ModePowers := ⟨u16At p 0, u16At p 2, u16At p 4, u16At p 6⟩
    let powers : ModePowers := ⟨clampNat 20 500 asked.eco, clampNat 20 500 asked.med, clampNat 20 500 asked.boost,
      clampNat 20 500 asked.autoMax⟩
    let keep := byteAt p 8
    if keepOk keep = false then refuse .outOfRange s
    else if powers.autoMax < powers.eco then refuse .outOfRange s
    else if keepBusy keep s then refuse .busy s
    else ⟨okOrClamped (decide (powers ≠ asked)),
      keepWrite keep 0x12 0x02 (powersBytes powers) { s with gov := { s.gov with powers := powers } }, []⟩⟩

/-- SET_MODE_POWER. -/
def execSetModePower (s : State) : Host.Outcome State Fault Refusal := request setModePowerSpec s

/-- The limits replaced; the allowance is computed again at once (R29, R43). -/
def applyLimits (l : Limits) (s : State) : State :=
  let t : State := { s with gov := { s.gov with limits := l } }
  if l.discharge = s.gov.limits.discharge then t else recomputeAllowance t

/-- SET_LIMITS (R46). -/
def setLimitsSpec : RequestSpec :=
  ⟨0x13, true, true, lengthIs 9, settings16 [0, 2, 4, 6], false, false, fun p s =>
    let asked : Limits := ⟨u16At p 0, u16At p 2, u16At p 4, u16At p 6⟩
    let limits := clampLimits asked.discharge asked.charge asked.cellTarget asked.dutyMax
    let keep := byteAt p 8
    if s.ctl.lock.isSome then refuse .locked s
    else if keepOk keep = false then refuse .outOfRange s
    else if s.drive.state = .run ∧ (limits.dutyMax < s.drive.duty ∨ limits.dutyMax < s.gov.prev) then refuse .denied s
    else if keepBusy keep s then refuse .busy s
    else ⟨okOrClamped (decide (limits ≠ asked)),
      keepWrite keep 0x13 0x06 (limitsBytes limits) (applyLimits limits s), []⟩⟩

/-- SET_LIMITS. -/
def execSetLimits (s : State) : Host.Outcome State Fault Refusal := request setLimitsSpec s

/-- The limit lock set, with the five values in force, if it was clear (R44, R47). -/
def lockLimits (s : State) : State :=
  if s.ctl.lock.isSome then s
  else { s with ctl := { s.ctl with lock := some ⟨s.gov.limits, s.host.supPeriod⟩ } }

/-- LOCK_LIMITS (R47). -/
def lockLimitsSpec : RequestSpec := plainRequest 0x14 (fun s => ⟨.ok, lockLimits s, []⟩)

/-- LOCK_LIMITS. -/
def execLockLimits (s : State) : Host.Outcome State Fault Refusal := request lockLimitsSpec s

/-- A grant row in BUDGET_STATUS: the consumer reads 0xFF and the time ABSENT while the row is not filled (R48, section
11.3). -/
def rowBytes (r : GrantRow) : List Byte :=
  opt8 (r.time.map (fun _ => consumerCode r.consumer)) ++ u32 r.demand ++ u32 r.grant ++ optMs r.time

/-- The reply fields of BUDGET_STATUS. A residue, Kp or Ki of 65,535 goes out as 0xFFFF (log 67). Of the fields of 32 bits, e
and A are signed and all others unsigned, so that an absent P_hold is 0xFFFFFFFF (DEDUCED, log 80). -/
def budgetStatusFields (s : State) : List Byte :=
  let g := s.gov
  opt16 g.allowance ++ opt16 g.fTp ++ opt16 g.fV ++ opt16 g.fTb ++ rowBytes g.row1 ++ rowBytes g.row2 ++ rowBytes g.row3
    ++ u16 g.rollDuty ++ u32 g.pDem ++ u32 g.pAv ++ u32 g.pCmd ++ u32 g.pMeas ++ s32 g.e ++ s32 g.a ++ u16 g.residue
    ++ u16 g.prev ++ boolByte g.saturated ++ opt32 g.pHold ++ u16 g.handedDuty ++ powersBytes g.powers ++ u16 g.kp
    ++ u16 g.ki ++ limitsBytes g.limits ++ boolByte s.ctl.lock.isSome

/-- BUDGET_STATUS (R48). -/
def budgetStatusSpec : RequestSpec := plainRequest 0x15 (fun s => ⟨.ok, s, budgetStatusFields s⟩)

/-- BUDGET_STATUS. -/
def execBudgetStatus (s : State) : Host.Outcome State Fault Refusal := request budgetStatusSpec s

end Sys2Proof.Machine
end

