-- ==== Sys2Proof/Machine/Reset.lean ====
section
/-! DEFINITION. Resets (section 9.2): what each reset kind keeps, the reset values, the loading of the settings, and the reset
commands. -/

namespace Sys2Proof.Machine

open Sys2Proof

/-! ### What a reset finds -/

/-- The reset cause record after a power-on reset (R172). -/
def CauseRecord.powerOnly : CauseRecord := ⟨true, false, false, false, .powerOn⟩

/-- The reset cause record after another reset: its own flag is set and the last kind names it (R172). -/
def CauseRecord.add (c : CauseRecord) : ResetKind → CauseRecord
  | .powerOn => CauseRecord.powerOnly
  | .pin => { c with pin := true, lastKind := .pin }
  | .request => { c with request := true, lastKind := .request }
  | .shipWake => { c with shipWake := true, lastKind := .shipWake }

/-- The mode controller's record after a reset with its retained part given (R169 to R175): the part leaves every reset in
ACTIVE. -/
def Ctl.afterReset (c : Ctl) : Ctl :=
  { c with power := .active, shipDecided := false, standbyTimer := none, lowCells := 0 }

/-- The mode controller's record after a power-on reset: the straps sampled, the retention domain cleared (R170, R171). -/
def Ctl.powerOn (role : Role) (cells : BitVec 2) : Ctl :=
  ⟨role, cells, [], 0, 0, CauseRecord.powerOnly, .active, false, none, 0, none⟩

/-- What the retention domain keeps for the pack monitor and the debris sensor (R170). -/
structure Retained where
  q : Nat
  valid : Bool
  lockedOut : Bool
  lockout : LockoutSet
  load : Nat

/-- The retention domain as it stands. -/
def State.retained (s : State) : Retained := ⟨s.pack.q, s.pack.valid, s.prot.lockedOut, s.prot.lockout, s.debris.b⟩

/-- The CELLS strap is invalid in STICK role (R171). -/
def strapInvalid (role : Role) (cells : BitVec 2) : Bool := decide (role = .stick) && decide (cells = 3)

/-- The retention domain cleared by a power-on reset; an invalid strap asserts the lockout cause STRAP (R65, R67, R170). -/
def Retained.cleared (strap : Bool) : Retained := ⟨0, false, strap, { LockoutSet.empty with strap := strap }, 0⟩

/-! ### The records after a reset -/

/-- The pack monitor's record after a reset (R49 to R58, R69, R71): the kept Q is limited to the full charge of the
capacity just loaded (R53). -/
def packAfterReset (mem : List Host.Cell) (ctl : Ctl) (limits : Limits) (k : Retained) : Pack :=
  let n := cellCountOf ctl.role ctl.cells
  let capacity := loadCapacity mem
  let runs := decide (ctl.role = .stick) && decide (ctl.cells ≠ 3)
  { record := none, q := min k.q (capacity * 3600), valid := k.valid, acc := 0, capacity := capacity, restTimer := none,
    balance := [], full := false, fullTimer := none, need := ⟨n * limits.cellTarget, 0, false, .protection, false⟩,
    ocv := loadOcv mem, offsets := loadOffsets mem n, scanTimer := if runs then some ctl.partTime else none,
    scanning := false, lastScan := ctl.partTime }

/-- The debris record after a reset (R76, R77, R89). -/
def debrisAfterReset (mem : List Host.Cell) (load : Nat) : Debris :=
  let floors := loadFloors mem
  let levels := loadDirtLevels mem
  { c := 0, last := LastWindow.absent, s := 0, d := none, level := .clean, dirtyLogged := false, clearRef := floors.1,
    floors := floors.2, b := load, binFull := binFullOf load levels.binThreshold, cal := none, levels := levels,
    acoustic := loadAcoustic mem, windowTimer := none }

/-- The attachment record after a reset (R101, R103). -/
def attAfterReset (mem : List Host.Cell) : Att :=
  { entries := loadEntries mem, result := .unknown, voltage := .absent, candidate := none, count := 0,
    latest := .absent, sampleTimer := none }

/-- The state that a reset leaves, from the retained part of the mode controller and of the other blocks, the store's
memory, and the capture timer (log 6). The waiting commands are outside the part. -/
def resetBlocks (ctl : Ctl) (k : Retained) (mem : List Host.Cell) (capture : Ticks) (s : State) : State :=
  let now := ctl.partTime
  let gains := loadGains mem
  let limits := loadLimits mem ctl.lock
  { ctl := ctl.afterReset, host := HostLink.atReset (loadPeriod ctl.lock), drive := Drive.atReset now capture,
    gov := Gov.atReset ctl.role (loadPowers mem) gains.1 gains.2 limits, pack := packAfterReset mem ctl limits k,
    prot := Prot.atReset now k.lockedOut k.lockout, debris := debrisAfterReset mem k.load, att := attAfterReset mem,
    roll := Roll.atReset now, contact := Contact.atReset, stick := Stick.atReset now, dock := Dock.atReset now,
    evacSet := loadEvac mem, charger := Charger.atReset now (loadBudget mem), evac := Evac.atReset,
    store := scanStore mem, freeCount := if s.store.op.isSome then s.freeCount + 1 else s.freeCount,
    pending := s.pending }

/-! ### The reset kinds (R170) -/

/-- The memory of the store as a reset finds it: the operation in flight is abandoned (R184). -/
def State.storeAtReset (s : State) : List Host.Cell := abandonedMem s.store s.freeCount

/-- The STRAP_INVALID entry of a power-on reset (R171). -/
def logStrap (s : State) : State :=
  if strapInvalid s.ctl.role s.ctl.cells then appendFault .modeController .strapInvalid (.num 3) none s else s

/-- A power-on reset: the straps are sampled and the retention domain is cleared. -/
def powerOnReset (role : Role) (cells : BitVec 2) (s : State) : State :=
  logStrap (resetBlocks (Ctl.powerOn role cells) (Retained.cleared (strapInvalid role cells)) s.storeAtReset 0 s)

/-- A pin, request or SHIP-wake reset: the straps and the retention domain are kept. -/
def warmReset (kind : ResetKind) (s : State) : State :=
  resetBlocks { s.ctl with cause := s.ctl.cause.add kind } s.retained s.storeAtReset s.drive.captureTimer s

/-- POWER_ON_RESET (R170, R171): it comes in every power mode, SHIP included. -/
def execPowerOnReset (role : Role) (cells : BitVec 2) (s : State) : Host.Outcome State Fault Refusal :=
  .next (settle (powerOnReset role cells s))

/-- PIN_RESET (R170): it comes in every power mode, SHIP included. -/
def execPinReset (s : State) : Host.Outcome State Fault Refusal := .next (settle (warmReset .pin s))

/-- The part watches a wake source in SHIP; the contacts in STICK role alone (R175). -/
def State.wakes (s : State) (source : WakeSource) : Bool :=
  decide (s.ctl.power = .ship) &&
  match source with
  | .wakePin => true
  | .contact => s.isStick

/-- SHIP_WAKE (R175): a wake source qualifies in SHIP; in any other power mode it does nothing. -/
def execShipWake (source : WakeSource) (s : State) : Host.Outcome State Fault Refusal :=
  if s.wakes source then .next (settle (warmReset .shipWake s)) else .next s

end Sys2Proof.Machine
end

