-- ==== Sys2Proof/Machine/HostLink.lean ====
section
/-! DEFINITION. Host link (chapter 8): the receiver, the transmitter, host supervision, and the link's requests. -/

namespace Sys2Proof.Machine

open Sys2Proof

/-! ### The receiver (R157, R158) -/

/-- The receiver is HUNTING again. -/
def huntAgain (s : State) : State := { s with host := { s.host with rx := none, rxGap := none } }

/-- LINK_ERROR is set (R158, R163). -/
def linkError (s : State) : State := { s with host := { s.host with linkError := true } }

/-- A LEN of 0 or above 129 (R158). -/
def lenInvalid (len : Byte) : Bool := decide (len = 0) || decide (129 < len.toNat)

/-- The bytes after the start byte make a whole frame: LEN, LEN bytes, and two check bytes (R157). -/
def hostComplete (bytes : List Byte) : Bool := decide (1 ≤ bytes.length) && decide (bytes.length = byteAt bytes 0 + 3)

/-- The bytes that the check covers. -/
def checkedBytes (bytes : List Byte) : List Byte := bytes.take (byteAt bytes 0 + 1)

/-- The check of a whole frame is right (R157). -/
def checkRight (bytes : List Byte) : Bool :=
  decide ((crc16 (checkedBytes bytes)).toNat = u16At bytes (byteAt bytes 0 + 1))

/-- The request frame of the bytes of a whole frame. -/
def frameOf (bytes : List Byte) : HostFrame := ⟨bytes.getD 1 0, (checkedBytes bytes).drop 2⟩

/-- A frame with a right check restarts a running supervision timer (R164). -/
def restartSupervision (s : State) : State :=
  { s with host := { s.host with supTimer := s.host.supTimer.map (fun _ => s.after s.host.supPeriod) } }

/-- A frame with a right check enters the receive queue, or is discarded when 4 wait (R158), or after the SHIP decision
(R175; log 25). -/
def queueFrame (f : HostFrame) (s : State) : State :=
  if s.ctl.shipDecided then s
  else if s.host.rxq.length < 4 then { s with host := { s.host with rxq := s.host.rxq ++ [f] } }
  else linkError s

/-- A frame with a wrong check: the link error counter rises, stopping at 65,535 (R158). -/
def badCheck (s : State) : State :=
  linkError { s with host := { s.host with errors := min 65535 (s.host.errors + 1) } }

/-- The last check byte of a frame has arrived (R158). -/
def hostFrameEnds (bytes : List Byte) (s : State) : State :=
  let t := huntAgain s
  if checkRight bytes then queueFrame (frameOf bytes) (restartSupervision t) else badCheck t

/-- The receiver keeps the bytes of a frame in progress. -/
def assemble (bytes : List Byte) (s : State) : State :=
  { s with host := { s.host with rx := some bytes, rxGap := some (s.after 5) } }

/-- A byte on RXD (R158). -/
def hostByte (b : Byte) (s : State) : State :=
  match s.host.rx with
  | none => if b = 0xA5 then assemble [] s else s
  | some [] => if lenInvalid b then linkError (huntAgain s) else assemble [b] s
  | some (len :: rest) =>
    if hostComplete (len :: rest ++ [b]) then hostFrameEnds (len :: rest ++ [b]) s else assemble (len :: rest ++ [b]) s

/-- The frame that a byte completes, if it completes one. -/
def State.hostCompletes (s : State) (b : Byte) : Option (List Byte) :=
  match s.host.rx with
  | some (len :: rest) => if hostComplete (len :: rest ++ [b]) then some (len :: rest ++ [b]) else none
  | some [] => none
  | none => none

/-- HOST_BYTE_ARRIVAL (R158). -/
def execHostByteArrival (byte : Byte) (s : State) : Host.Outcome State Fault Refusal := event true (hostByte byte) s

/-- HOST_FRAME_ARRIVAL (R158): the byte is the last check byte of a frame. -/
def execHostFrameArrival (check : Byte) (s : State) : Host.Outcome State Fault Refusal :=
  event (s.hostCompletes check).isSome
    (fun s => match s.hostCompletes check with
      | some bytes => hostFrameEnds bytes s
      | none => s) s

/-- HOST_RX_GAP_TIMEOUT (R158): more than 5 ms without a byte discard the partial frame. -/
def execHostRxGapTimeout (s : State) : Host.Outcome State Fault Refusal := event s.host.rx.isSome huntAgain s

/-- HOST_RX_FRAMING_ERROR (R158). -/
def execHostRxFramingError (s : State) : Host.Outcome State Fault Refusal :=
  event s.host.rx.isSome (fun s => linkError (huntAgain s)) s

/-- HOST_RX_LEN_INVALID (R158): the byte is a LEN of 0 or above 129. -/
def execHostRxLenInvalid (len : Byte) (s : State) : Host.Outcome State Fault Refusal :=
  event (decide (s.host.rx = some []) && lenInvalid len) (fun s => linkError (huntAgain s)) s

/-! ### The transmitter (R161) -/

/-- The last byte of a frame has been sent: the reply of RESET_PART brings the request reset, and after any other frame the
transmitter chooses the next (R161, R179). -/
def frameSentOut (t : Sending) (s : State) : State :=
  if t.resets then warmReset .request s else { s with host := { s.host with tx := none } }

/-- The frame being sent ends. -/
def transmitDone (s : State) : State :=
  match s.host.tx with
  | some t => frameSentOut t s
  | none => s

/-- FRAME_TRANSMIT_DONE (R161). -/
def execFrameTransmitDone (s : State) : Host.Outcome State Fault Refusal := event s.host.tx.isSome transmitDone s

/-! ### Host supervision (R164) -/

/-- The expiry of the supervision timer: the mode is forced to OFF, a floor calibration ends ABORTED, both drives stop with
the jam count cleared, and HOST_SILENT is logged. -/
def supervisionLost (s : State) : State :=
  let quiet := rollSilence { s with host := { s.host with supTimer := none },
                                    drive := { s.drive with mode := .off } }
  let stopped := driveStop (endCalibration .aborted quiet)
  let logged := appendFault .hostLink .hostSilent (.num s.host.supPeriod) (some (.num (driveStateCode s.drive.state)))
    stopped
  if driveMoved s logged || decide (s.drive.mode ≠ .off) then reportDrive .hostSilent logged else logged

/-- The supervision timer runs and is due. One that a frame arrival has restarted is not, so that an expiry queued behind
the arrival, be it of the same instant, does not occur (R164). -/
def State.supervisionDue (s : State) : Bool := s.host.supTimer.any s.reached

/-- SUPERVISION_EXPIRY (R164). -/
def execSupervisionExpiry (s : State) : Host.Outcome State Fault Refusal := event s.supervisionDue supervisionLost s

/-! ### Requests (section 8.7) -/

/-- The reply fields of IDENTIFY (R165). -/
def identifyFields (s : State) : List Byte :=
  u16 0x0640 ++ u8 0x02 ++ u8 (roleCode s.ctl.role) ++ u8 s.cellCount ++ u8 (causeFlagsCode s.ctl.cause)
    ++ u8 (resetKindCode s.ctl.cause.lastKind) ++ u32 s.now.toNat

/-- IDENTIFY (R165). -/
def identifySpec : RequestSpec := plainRequest 0x01 (fun s => ⟨.ok, s, identifyFields s⟩)

/-- IDENTIFY. -/
def execIdentify (s : State) : Host.Outcome State Fault Refusal := request identifySpec s

/-- The reply fields of STATUS (R166). A link error counter of 65,535 goes out as 0xFFFF (log 67). -/
def statusFields (s : State) : List Byte :=
  u16 s.host.errors ++ u8 s.host.reports.length ++ u8 s.host.mask.toNat ++ u16 s.host.supPeriod
    ++ boolByte s.host.supTimer.isSome

/-- STATUS (R166): its reply always carries the condition summary. -/
def statusSpec : RequestSpec :=
  ⟨0x02, true, true, emptyPayload, anyForm, true, false, fun _ s => ⟨.ok, s, statusFields s⟩⟩

/-- STATUS. -/
def execStatus (s : State) : Host.Outcome State Fault Refusal := request statusSpec s

/-- SUBSCRIBE (R167). -/
def subscribeSpec : RequestSpec :=
  ⟨0x03, true, true, lengthIs 1, anyForm, false, false, fun p s =>
    ⟨.ok, { s with host := { s.host with mask := p.getD 0 0 } }, []⟩⟩

/-- SUBSCRIBE. -/
def execSubscribe (s : State) : Host.Outcome State Fault Refusal := request subscribeSpec s

/-- The supervision period set; a running timer restarts with it (R168). -/
def setSupervision (period : Nat) (s : State) : State :=
  restartSupervision { s with host := { s.host with supPeriod := period } }

/-- SUPERVISE (R168). -/
def superviseSpec : RequestSpec :=
  ⟨0x04, true, true, lengthIs 2, settings16 [0], false, false, fun p s =>
    let period := clampNat 100 2000 (u16At p 0)
    if s.ctl.lock.isSome then refuse .locked s
    else ⟨okOrClamped (decide (period ≠ u16At p 0)), setSupervision period s, []⟩⟩

/-- SUPERVISE. -/
def execSupervise (s : State) : Host.Outcome State Fault Refusal := request superviseSpec s

/-- UNKNOWN_KIND (R159): the request at the head of the receive queue fails the KIND stage. -/
def execUnknownKind (s : State) : Host.Outcome State Fault Refusal := event (s.canTake && s.headUnknown) takeUnknown s

end Sys2Proof.Machine
end

