-- ==== Sys2Proof/Machine/Modes.lean ====
section
/-! DEFINITION. Fault ring and power modes (sections 9.1, 9.3 and 9.4): the standby timer and the mode controller's requests. -/

namespace Sys2Proof.Machine

open Sys2Proof

/-- STANDBY_TIMER_EXPIRY (R173). -/
def execStandbyTimerExpiry (s : State) : Host.Outcome State Fault Refusal :=
  event s.ctl.standbyTimer.isSome (enterStandby .idle) s

/-- An entry of the ring qualifies for READ_FAULTS (R176). -/
def qualifies (from' : BitVec 32) (e : FaultEntry) : Bool := decide ((e.seq - from').toNat < 2147483648)

/-- The entries that READ_FAULTS returns: the first that qualify in ring order, up to a number (R176). -/
def faultsFrom (ring : List FaultEntry) (from' : BitVec 32) (max : Nat) : List FaultEntry :=
  (ring.filter (qualifies from')).take max

/-- The reply fields of READ_FAULTS. -/
def readFaultsFields (s : State) (from' : BitVec 32) (max : Nat) : List Byte :=
  let entries := faultsFrom s.ctl.ring from' max
  u8 s.ctl.ring.length ++ u32 s.ctl.nextSeq.toNat ++ u8 entries.length ++ entries.flatMap faultEntryBytes

/-- READ_FAULTS (R176). -/
def readFaultsSpec : RequestSpec :=
  ⟨0x05, true, true, lengthIs 5, anyForm, false, false, fun p s =>
    if byteAt p 4 = 0 ∨ 8 < byteAt p 4 then refuse .outOfRange s
    else ⟨.ok, s, readFaultsFields s (BitVec.ofNat 32 (u32At p 0)) (byteAt p 4)⟩⟩

/-- READ_FAULTS. -/
def execReadFaults (s : State) : Host.Outcome State Fault Refusal := request readFaultsSpec s

/-- CLEAR_FAULTS (R177). -/
def clearFaultsSpec : RequestSpec :=
  plainRequest 0x06 (fun s => ⟨.ok, { s with ctl := { s.ctl with ring := [] } }, []⟩)

/-- CLEAR_FAULTS. -/
def execClearFaults (s : State) : Host.Outcome State Fault Refusal := request clearFaultsSpec s

/-- The flags that a mask selects are cleared; the last kind stays (R172, R178). -/
def CauseRecord.clear (c : CauseRecord) (mask : Nat) : CauseRecord :=
  { c with powerOn := c.powerOn && !mask.testBit 0, pin := c.pin && !mask.testBit 1,
           request := c.request && !mask.testBit 2, shipWake := c.shipWake && !mask.testBit 3 }

/-- CLEAR_CAUSE (R178). -/
def clearCauseSpec : RequestSpec :=
  ⟨0x07, true, true, lengthIs 1, anyForm, false, false, fun p s =>
    if 16 ≤ byteAt p 0 then refuse .outOfRange s
    else ⟨.ok, { s with ctl := { s.ctl with cause := s.ctl.cause.clear (byteAt p 0) } }, []⟩⟩

/-- CLEAR_CAUSE. -/
def execClearCause (s : State) : Host.Outcome State Fault Refusal := request clearCauseSpec s

/-- RESET_PART (R179): the request reset follows when its reply has been sent (R161). -/
def resetPartSpec : RequestSpec :=
  ⟨0x08, true, true, emptyPayload, anyForm, false, true, fun _ s => ⟨.ok, s, []⟩⟩

/-- RESET_PART. -/
def execResetPart (s : State) : Host.Outcome State Fault Refusal := request resetPartSpec s

/-- SHIP may be entered by request: DETACHED, both drives in OFF, no floor calibration and no store operation (R180). -/
def State.shipAllowed (s : State) : Bool :=
  decide (s.stick.state = .detached) && decide (s.drive.state = .off) && decide (s.roll.state = .off)
    && s.debris.cal.isNone && s.store.op.isNone

/-- SET_POWER_MODE in its own conditions and effect (R180). The taking has returned the part to ACTIVE. -/
def powerModeAct (mode : PowerMode) (s : State) : Judged :=
  match mode with
  | .active => ⟨.ok, s, []⟩
  | .standby => if s.idle then ⟨.ok, enterStandby .request s, []⟩ else refuse .denied s
  | .ship =>
    if s.isDock then refuse .wrongRole s
    else if s.shipAllowed then ⟨.ok, shipDecision .request s, []⟩
    else refuse .denied s

/-- SET_POWER_MODE (R180). -/
def setPowerModeSpec : RequestSpec :=
  ⟨0x09, true, true, lengthIs 1, anyForm, false, false, fun p s =>
    match powerModeOf (byteAt p 0) with
    | some mode => powerModeAct mode s
    | none => refuse .outOfRange s⟩

/-- SET_POWER_MODE. -/
def execSetPowerMode (s : State) : Host.Outcome State Fault Refusal := request setPowerModeSpec s

end Sys2Proof.Machine
end

