-- ==== Sys2Proof/Machine/Dispatch.lean ====
section
/-! DEFINITION. The meaning of every command: one arm per row of spec/opcode_table.json, in the table's order. -/

namespace Sys2Proof.Machine

open Sys2Proof

def exec (i : Instr) (s : State) : Host.Outcome State Fault Refusal :=
  match i with
  | .powerOnReset role cells => Sys2Proof.Machine.execPowerOnReset role cells s
  | .pinReset => Sys2Proof.Machine.execPinReset s
  | .shipWake source => Sys2Proof.Machine.execShipWake source s
  | .hostFrameArrival check => Sys2Proof.Machine.execHostFrameArrival check s
  | .hostRxGapTimeout => Sys2Proof.Machine.execHostRxGapTimeout s
  | .hostRxFramingError => Sys2Proof.Machine.execHostRxFramingError s
  | .hostRxLenInvalid len => Sys2Proof.Machine.execHostRxLenInvalid len s
  | .unknownKind => Sys2Proof.Machine.execUnknownKind s
  | .identify => Sys2Proof.Machine.execIdentify s
  | .status => Sys2Proof.Machine.execStatus s
  | .subscribe => Sys2Proof.Machine.execSubscribe s
  | .supervise => Sys2Proof.Machine.execSupervise s
  | .readFaults => Sys2Proof.Machine.execReadFaults s
  | .clearFaults => Sys2Proof.Machine.execClearFaults s
  | .clearCause => Sys2Proof.Machine.execClearCause s
  | .resetPart => Sys2Proof.Machine.execResetPart s
  | .setPowerMode => Sys2Proof.Machine.execSetPowerMode s
  | .setSuction => Sys2Proof.Machine.execSetSuction s
  | .driveStatus => Sys2Proof.Machine.execDriveStatus s
  | .setModePower => Sys2Proof.Machine.execSetModePower s
  | .setLimits => Sys2Proof.Machine.execSetLimits s
  | .lockLimits => Sys2Proof.Machine.execLockLimits s
  | .budgetStatus => Sys2Proof.Machine.execBudgetStatus s
  | .packStatus => Sys2Proof.Machine.execPackStatus s
  | .setPack => Sys2Proof.Machine.execSetPack s
  | .clearProtection => Sys2Proof.Machine.execClearProtection s
  | .dirtStatus => Sys2Proof.Machine.execDirtStatus s
  | .setDirtLevels => Sys2Proof.Machine.execSetDirtLevels s
  | .clearBin => Sys2Proof.Machine.execClearBin s
  | .calibrateFloor => Sys2Proof.Machine.execCalibrateFloor s
  | .attachmentStatus => Sys2Proof.Machine.execAttachmentStatus s
  | .setAttachment => Sys2Proof.Machine.execSetAttachment s
  | .rollRestart => Sys2Proof.Machine.execRollRestart s
  | .dockStatus => Sys2Proof.Machine.execDockStatus s
  | .setEvacuation => Sys2Proof.Machine.execSetEvacuation s
  | .chargerStatus => Sys2Proof.Machine.execChargerStatus s
  | .setDockSupply => Sys2Proof.Machine.execSetDockSupply s
  | .startEvacuation => Sys2Proof.Machine.execStartEvacuation s
  | .storeRead => Sys2Proof.Machine.execStoreRead s
  | .storeWrite => Sys2Proof.Machine.execStoreWrite s
  | .storeErase => Sys2Proof.Machine.execStoreErase s
  | .storeStatus => Sys2Proof.Machine.execStoreStatus s
  | .frameTransmitDone => Sys2Proof.Machine.execFrameTransmitDone s
  | .supervisionExpiry => Sys2Proof.Machine.execSupervisionExpiry s
  | .standbyTimerExpiry => Sys2Proof.Machine.execStandbyTimerExpiry s
  | .zeroCrossing timestamp => Sys2Proof.Machine.execZeroCrossing timestamp s
  | .crossingWindowExpiry => Sys2Proof.Machine.execCrossingWindowExpiry s
  | .commutation => Sys2Proof.Machine.execCommutation s
  | .forcedCommutation => Sys2Proof.Machine.execForcedCommutation s
  | .alignTimerExpiry => Sys2Proof.Machine.execAlignTimerExpiry s
  | .rampTimerExpiry => Sys2Proof.Machine.execRampTimerExpiry s
  | .coastTimerExpiry => Sys2Proof.Machine.execCoastTimerExpiry s
  | .crossingTimerExpiry => Sys2Proof.Machine.execCrossingTimerExpiry s
  | .faultTimerExpiry => Sys2Proof.Machine.execFaultTimerExpiry s
  | .busCurrentReading reading => Sys2Proof.Machine.execBusCurrentReading reading s
  | .governorPeriod readings => Sys2Proof.Machine.execGovernorPeriod readings s
  | .scanTimerExpiry => Sys2Proof.Machine.execScanTimerExpiry s
  | .packRecordPublication scan => Sys2Proof.Machine.execPackRecordPublication scan s
  | .dsgOcClearExpiry => Sys2Proof.Machine.execDsgOcClearExpiry s
  | .piezoPulse => Sys2Proof.Machine.execPiezoPulse s
  | .debrisWindow ledOff ledOn => Sys2Proof.Machine.execDebrisWindow ledOff ledOn s
  | .bandTimerExpiry => Sys2Proof.Machine.execBandTimerExpiry s
  | .idSample reading => Sys2Proof.Machine.execIdSample reading s
  | .waitTimerExpiry => Sys2Proof.Machine.execWaitTimerExpiry s
  | .rollCurrentReading reading => Sys2Proof.Machine.execRollCurrentReading reading s
  | .contactRxGapTimeout => Sys2Proof.Machine.execContactRxGapTimeout s
  | .contactFrameInvalid check => Sys2Proof.Machine.execContactFrameInvalid check s
  | .hailTaken check => Sys2Proof.Machine.execHailTaken check s
  | .pollTaken check => Sys2Proof.Machine.execPollTaken check s
  | .stickReplyStart => Sys2Proof.Machine.execStickReplyStart s
  | .contactFrameSent => Sys2Proof.Machine.execContactFrameSent s
  | .contactVoltageSample mV => Sys2Proof.Machine.execContactVoltageSample mV s
  | .silenceTimerExpiry => Sys2Proof.Machine.execSilenceTimerExpiry s
  | .contactCurrentSample mA => Sys2Proof.Machine.execContactCurrentSample mA s
  | .hailTimerExpiry => Sys2Proof.Machine.execHailTimerExpiry s
  | .pollTimerExpiry => Sys2Proof.Machine.execPollTimerExpiry s
  | .replyWindowExpiry => Sys2Proof.Machine.execReplyWindowExpiry s
  | .answerAccepted check => Sys2Proof.Machine.execAnswerAccepted check s
  | .needAccepted check => Sys2Proof.Machine.execNeedAccepted check s
  | .chargerReading readings => Sys2Proof.Machine.execChargerReading readings s
  | .restartTimerExpiry => Sys2Proof.Machine.execRestartTimerExpiry s
  | .durationTimerExpiry => Sys2Proof.Machine.execDurationTimerExpiry s
  | .storeWriteComplete matched => Sys2Proof.Machine.execStoreWriteComplete matched s
  | .storeEraseComplete matched => Sys2Proof.Machine.execStoreEraseComplete matched s
  | .compactionStepComplete mismatch => Sys2Proof.Machine.execCompactionStepComplete mismatch s
  | .hostByteArrival byte => Sys2Proof.Machine.execHostByteArrival byte s
  | .contactByteArrival byte => Sys2Proof.Machine.execContactByteArrival byte s
  | .stickReplySent => Sys2Proof.Machine.execStickReplySent s

end Sys2Proof.Machine
end

