-- ==== Sys2Proof/Machine/Step.lean ====
section
/-! DEFINITION. One step of the block: the oldest waiting command acts; with none waiting, one millisecond passes. -/

namespace Sys2Proof.Machine

open Sys2Proof

/-- The state with a command put at the front of its queue. -/
def State.push (s : State) (c : Instr) : State := s.withPending (c :: s.pending)

/-- The state with the command that a word spells put at the front of its queue; unchanged where the word spells none
(log 38). -/
def State.withFetchWord (s : State) (nbits w : Nat) : State :=
  match decodeTableWord nbits w with
  | some c => s.push c
  | none => s

/-- One step: the command at the front of the queue acts, and the rest of the queue waits on; on an empty queue one
millisecond passes (DESIGN CHOICE, log 1). -/
def step (s : State) : Host.Outcome State Fault Refusal :=
  match s.pending with
  | c :: rest => exec c (s.withPending rest)
  | [] => .next (tick s)

end Sys2Proof.Machine
end

