-- ==== Sys2Proof/Safety.lean ====
section
/-! DEFINITION. What a safe state of the part is: the bounds and the interlocks that the rules promise, one predicate each.
Every one is meant to hold at `State.reset` and to be kept by every step. -/

namespace Sys2Proof

open Sys2Proof.Machine

/-- The store's memory is in canonical form: addresses below 2,048, strictly rising, no erased byte listed. -/
abbrev Safety.storeCanonical (s : State) : Prop := memWf s.store.mem = true

/-- The queues of the host link hold at most 4 requests, 4 replies and 8 reports, the link error counter stays within
65,535 (R156, R158), and from the SHIP decision to the entry to SHIP a frame is being sent (R175). -/
abbrev Safety.linkBounded (s : State) : Prop :=
  s.host.rxq.length ≤ 4 ∧ s.host.replies.length ≤ 4 ∧ s.host.reports.length ≤ 8 ∧ s.host.errors ≤ 65535 ∧
  (s.ctl.shipDecided = true → s.host.tx.isSome = true)

/-- The fault ring holds at most 16 entries, whose sequence numbers are consecutive and end just below the next one
(R169). -/
abbrev Safety.ringConsecutive (s : State) : Prop :=
  s.ctl.ring.length ≤ 16 ∧
  s.ctl.ring.map (fun e => e.seq)
    = (List.range s.ctl.ring.length).map (fun i => s.ctl.nextSeq - BitVec.ofNat 32 (s.ctl.ring.length - i))

/-- The limits lie within their ranges (R43). -/
abbrev Safety.limitsInRange (l : Limits) : Prop :=
  5000 ≤ l.discharge ∧ l.discharge ≤ 35000 ∧ 200 ≤ l.charge ∧ l.charge ≤ 4000 ∧ 4000 ≤ l.cellTarget ∧ l.cellTarget ≤ 4200
    ∧ 1024 ≤ l.dutyMax ∧ l.dutyMax ≤ 4032

/-- The limits in force, and those of a limit lock, lie within their ranges (R43, R44). -/
abbrev Safety.limitsBounded (s : State) : Prop :=
  Safety.limitsInRange s.gov.limits ∧ (∀ k ∈ s.ctl.lock, Safety.limitsInRange k.limits)

/-- The duty of channel A, the governor's prev and a duty waiting for a commutation lie within duty_max, and outside RUN
the bridge has at most the duty of RAMP with nothing waiting (R13, R36, R39). -/
abbrev Safety.dutyBounded (s : State) : Prop :=
  s.drive.duty ≤ s.gov.limits.dutyMax ∧ s.gov.prev ≤ s.gov.limits.dutyMax ∧ (∀ d ∈ s.drive.heldDuty, d = s.gov.prev) ∧
  (s.drive.state ≠ .run → s.drive.duty ≤ 410 ∧ s.drive.heldDuty = none ∧ s.gov.prev = 0)

/-- A catch is in progress only in COAST, and in STICK role channel A drives, or a catch is in progress, only while
discharge is permitted and the stick is off the dock (R8, R15, R17, R122). The roll drive runs only while the suction drive
is in RUN (R107, R122). -/
abbrev Safety.motorPermitted (s : State) : Prop :=
  (s.drive.catchCount.isSome = true → s.drive.state = .coast) ∧
  (s.ctl.role = .stick → (s.drive.state.drives = true ∨ s.drive.catchCount.isSome = true) →
    s.prot.dischargeOk = true ∧ s.stick.state = .detached) ∧
  (s.roll.state.runs = true → s.drive.state = .run)

/-- The charger's setpoint is at most the need limit, and 0 while the stage does not switch; the stage switches only
while the dock session is CHARGING or EVACUATING (R133, R144 to R147). -/
abbrev Safety.chargerBounded (s : State) : Prop :=
  s.charger.setpoint ≤ s.charger.needLimit ∧
  (s.charger.state.switches = false → s.charger.setpoint = 0) ∧
  (s.charger.state.switches = true → s.dock.state.charges = true)

/-- The filter state, the dirt index and the bin load lie within their ranges, and BIN_FULL is what the bin load and the
threshold make of it (R76, R85, R88, R89). -/
abbrev Safety.dirtBounded (s : State) : Prop :=
  s.debris.s ≤ 1023 ∧ (∀ d ∈ s.debris.d, d ≤ 255) ∧ s.debris.b ≤ 1000000 ∧
  s.debris.binFull = decide (s.debris.levels.binThreshold ≤ s.debris.b)

/-- Q is at most the full charge of a capacity of 500..10,000 mAh (R52, R53), and with an invalid CELLS strap the pack
monitor does not run: Q is 0 and invalid, no cell bleeds, and no scan is due or in progress (R67). -/
abbrev Safety.chargeBounded (s : State) : Prop :=
  s.pack.q ≤ s.pack.capacity * 3600 ∧ 500 ≤ s.pack.capacity ∧ s.pack.capacity ≤ 10000 ∧
  (s.ctl.role = .stick → s.ctl.cells = 3 → s.pack.q = 0 ∧ s.pack.valid = false ∧ s.pack.balance = [] ∧
    s.pack.scanTimer = none ∧ s.pack.scanning = false)

/-- At most 3 cells bleed, and none while channel A drives (R69). -/
abbrev Safety.balanceAllowed (s : State) : Prop :=
  s.pack.balance.length ≤ 3 ∧ (s.drive.state.drives = true → s.pack.balance = [])

/-- The permissions are what the lockout and the active causes make of them (R66). -/
abbrev Safety.permissionsFollow (s : State) : Prop :=
  (s.prot.dischargeOk = true ↔ s.prot.lockedOut = false ∧ s.prot.evaluated = true ∧ s.prot.active.cellUv = false ∧
    s.prot.active.dsgOt = false ∧ s.prot.active.dsgOc = false ∧ s.prot.active.sense = false) ∧
  (s.prot.chargeOk = true ↔ s.prot.lockedOut = false ∧ s.prot.evaluated = true ∧ s.prot.active.cellOv = false ∧
    s.prot.active.chgOc = false ∧ s.prot.active.sense = false)

/-- Every promise together. -/
structure Safety.Inv (s : State) : Prop where
  store : Safety.storeCanonical s
  link : Safety.linkBounded s
  ring : Safety.ringConsecutive s
  limits : Safety.limitsBounded s
  duty : Safety.dutyBounded s
  motor : Safety.motorPermitted s
  charger : Safety.chargerBounded s
  dirt : Safety.dirtBounded s
  charge : Safety.chargeBounded s
  balance : Safety.balanceAllowed s
  permissions : Safety.permissionsFollow s

end Sys2Proof
end

