-- ==== Sys2Proof/Certificates/Slice0/Obligations.lean ====
section
/-! DEFINITION. The statements for the provers. Every one is about the commands, the step or the shared operations; the
words they share stand first. A request is stated at the head of the receive queue with room for its reply. -/

namespace Sys2Proof

open Sys2Proof.Machine

/-! ### Words of the statements -/

/-- A request frame stands at the head of the receive queue and can be taken: its kind carries the code, with or without the
flag that asks for a summary (R157, R159, R175). -/
structure Spec.Heads (s : State) (code : Nat) (kind : Byte) (payload : List Byte) (rest : List HostFrame) : Prop where
  awake : s.ctl.power ≠ .ship
  link : s.ctl.shipDecided = false
  room : s.host.replies.length < 4
  head : s.host.rxq = ⟨kind, payload⟩ :: rest
  code : requestCode kind = some code

/-- The reply of a request formed in a state: KIND + 0x80, the result, the summary when the kind asks for one (which clears
the sticky flags), and the fields (R159, R163). -/
def Spec.reply (kind : Byte) (result : Nat) (fields : List Byte) (s : State) : State :=
  if 0x40 ≤ kind.toNat then
    pushReply ⟨kind + 0x80, [BitVec.ofNat 8 result] ++ s.summary ++ fields, false⟩ (clearSticky s)
  else pushReply ⟨kind + 0x80, [BitVec.ofNat 8 result] ++ fields, false⟩ s

/-- The commands that only return a record, with their codes, the roles that accept them and the fields they return
(sections 11.3). -/
def Spec.statusRequest : Instr → Option (Nat × List Role × (State → List Byte))
  | .identify => some (0x01, [.stick, .dock], identifyFields)
  | .driveStatus => some (0x11, [.stick, .dock], driveStatusFields)
  | .budgetStatus => some (0x15, [.stick, .dock], budgetStatusFields)
  | .packStatus => some (0x18, [.stick], packStatusFields)
  | .dirtStatus => some (0x20, [.stick], dirtStatusFields)
  | .attachmentStatus => some (0x24, [.stick], attachmentStatusFields)
  | .chargerStatus => some (0x2C, [.dock], chargerStatusFields)
  | .storeStatus => some (0x33, [.stick, .dock], storeStatusFields)
  | _ => none

/-- Commands acting one after another; none of them stops. -/
def Spec.runs : List Instr → State → Option State
  | [], s => some s
  | c :: rest, s =>
    match exec c s with
    | .next t => Spec.runs rest t
    | .fault _ => none
    | .refused _ => none

/-- Two states agree on every block but the mode controller, the host link and the timers that follow a condition. -/
structure Spec.SameBlocks (s t : State) : Prop where
  drive : t.drive = s.drive
  pack : t.pack = s.pack
  prot : t.prot = s.prot
  debris : t.debris = s.debris
  roll : t.roll = s.roll
  contact : t.contact = s.contact
  stick : t.stick = s.stick
  dock : t.dock = s.dock
  evacSet : t.evacSet = s.evacSet
  charger : t.charger = s.charger
  evac : t.evac = s.evac
  store : t.store = s.store
  freeCount : t.freeCount = s.freeCount
  pending : t.pending = s.pending

/-- The pack is as before, but for a balance set that the entry to SHIP empties (R69, R175). -/
def Spec.PackKept (s t : State) : Prop :=
  t.pack = s.pack ∨ (t.ctl.power = .ship ∧ t.pack = { s.pack with balance := [] })

/-- The contact link is as before, but for its outputs and its receiver, which the entry to SHIP makes inactive (R175). -/
def Spec.ContactKept (s t : State) : Prop :=
  t.contact = s.contact ∨ (t.ctl.power = .ship ∧ t.contact = ⟨none, none, none, none, none, none, none⟩)

/-- A state is what a written state gives once reports are handed over and the event is followed up: apart from the queued
frames, the sticky flags, the timers that follow a condition and the outputs that the entry to SHIP makes inactive, the
two agree. The current readings of the governor period in progress stay, or go with its timer (R13, R26, R106). -/
structure Spec.LeavesAs (u t : State) : Prop where
  blocks : Spec.SameBlocks { u with pack := t.pack, contact := t.contact } t
  pack : Spec.PackKept u t
  contact : Spec.ContactKept u t
  gov : t.gov = { u.gov with timer := t.gov.timer, vStart := t.gov.vStart, busSamples := t.gov.busSamples,
                             rollSamples := t.gov.rollSamples }
  samples : (t.gov.busSamples = u.gov.busSamples ∧ t.gov.rollSamples = u.gov.rollSamples) ∨
    (t.gov.timer = none ∧ t.gov.busSamples = ⟨0, 0, false⟩ ∧ t.gov.rollSamples = ⟨0, 0, false⟩)
  att : t.att = { u.att with sampleTimer := t.att.sampleTimer }
  ctl : t.ctl = { u.ctl with power := t.ctl.power, shipDecided := t.ctl.shipDecided, standbyTimer := t.ctl.standbyTimer }
  link : t.host.rxq = u.host.rxq ∧ t.host.mask = u.host.mask ∧ t.host.supPeriod = u.host.supPeriod ∧
    t.host.errors = u.host.errors ∧ t.host.linkError = u.host.linkError ∧ t.host.faultNew = u.host.faultNew

/-- From the SHIP decision to the entry to SHIP a frame is being sent: a part of `Safety.linkBounded` (R175). -/
def Spec.Sends (s : State) : Prop := s.ctl.shipDecided = true → s.host.tx.isSome = true

/-- An event logged one fault entry: it stands last in the ring, with the sequence number and the part time before the
event (R169). -/
def Spec.Logged (s t : State) (source : FaultSource) (code : FaultCode) (value : Reading) (second : Option Reading) :
    Prop :=
  t.ctl.ring.getLast? = some ⟨s.ctl.nextSeq, s.ctl.partTime, source, code, value, second⟩ ∧
  t.ctl.nextSeq = s.ctl.nextSeq + 1 ∧ t.host.faultNew = true

/-- A drive fault of channel A (R18, R22, R95, R151): FAULT with the bridge off, the cause and the fault timer; no start
waits, no calibration and no run goes on; released is false while the host still asks for suction, and true once the
claim that held the drive has ended. The mode stays, and the pack, its protection, the session, the charger and the store
are as before. -/
structure Spec.Faulted (s t : State) (cause : DriveFault) (code : FaultCode) (value : Reading) (second : Option Reading) :
    Prop where
  state : t.drive.state = .fault ∧ t.drive.duty = 0 ∧ t.drive.faultCause = some cause
  timer : t.drive.faultTimer = some (s.ctl.partTime + 3000)
  waiting : t.drive.startPending = false ∧ t.drive.retryPending = false ∧ t.drive.catchCount = none
  ended : t.debris.cal = none ∧ t.evac.phase = .none
  host : s.drive.owner = .host → s.drive.mode ≠ .off → t.drive.released = some false ∧ t.drive.owner = .host
  others : s.drive.owner ≠ .host → t.drive.released = some true ∧ t.drive.owner = .none
  logged : Spec.Logged s t .channelA code value second
  mode : t.drive.mode = s.drive.mode
  kept : Spec.PackKept s t ∧ t.prot = s.prot ∧ t.stick = s.stick ∧ t.charger = s.charger ∧ t.store = s.store ∧
    t.gov.limits = s.gov.limits

/-- The period ring with an interval appended, of which the last six stay (R2). -/
def Spec.ringWith (ring : List Nat) (interval : Nat) : List Nat := (ring ++ [interval]).drop (ring.length - 5)

/-- The speed that a ring of periods gives: absent with fewer than six (R2). -/
def Spec.speedOf (ring : List Nat) : Option Nat := if ring.length < 6 then none else some (600000000 / ring.sum)

/-- Channel A at rest in OFF with no start waiting (R9). -/
def Spec.offDrive (s : State) : Drive :=
  { s.drive with state := .off, duty := 0, ring := [], xref := none, missCount := 0, zeroGrant := 0, stallTimer := none,
                 overTimer := none, blockTimer := none, blocked := false, speed := none, heldDuty := none,
                 forcedPeriod := none, forcedIn := none, commIn := none, coastTimer := none, crossTimer := none,
                 faultTimer := none, faultCause := none, released := none, owner := .none,
                 enteredAt := s.ctl.partTime }

/-- The stick wants an evacuation for a bin load (R127): it is bound, has not seen this binding's DONE, and its policy asks
for one. -/
def Spec.wantsEvacuation (e : EvacSettings) (load : Nat) : Option StickBinding → Bool
  | none => false
  | some k => !k.seenDone && (decide (e.policy = .always) || (decide (e.policy = .whenFull) && decide (e.threshold ≤ load)))

/-- The permissions and the level are what the lockout, the active causes and the allowance make of them (R66). -/
def Spec.standingFollows (t : State) : Prop :=
  (t.prot.dischargeOk = true ↔ t.prot.lockedOut = false ∧ t.prot.evaluated = true ∧ t.prot.active.cellUv = false ∧
    t.prot.active.dsgOt = false ∧ t.prot.active.dsgOc = false ∧ t.prot.active.sense = false) ∧
  (t.prot.chargeOk = true ↔ t.prot.lockedOut = false ∧ t.prot.evaluated = true ∧ t.prot.active.cellOv = false ∧
    t.prot.active.chgOc = false ∧ t.prot.active.sense = false) ∧
  t.prot.level = (if t.prot.lockedOut then .lockout
    else if t.prot.active ≠ ⟨false, false, false, false, false, false⟩ then .cutoff
    else if t.gov.allowance.getD 0 < t.gov.limits.discharge then .derated else .normal)

/-- A condition with a qualifying time, evaluated at a publication while its cause is inactive (R59): its timer runs from
the first evaluation at which it holds, and the cause becomes active, and the timer absent, once the time has passed. -/
def Spec.qualifies (s : State) (active after : Bool) (timer timer' : Option Ms) (holds : Prop) (time : Nat) : Prop :=
  active = false →
    (¬ holds → after = false ∧ timer' = none) ∧
    (holds → timer = none → after = false ∧ timer' = some s.ctl.partTime) ∧
    (∀ t0, holds → timer = some t0 → (s.ctl.partTime - t0).toNat < time → after = false ∧ timer' = some t0) ∧
    (∀ t0, holds → timer = some t0 → time ≤ (s.ctl.partTime - t0).toNat → after = true ∧ timer' = none)

/-- A publication has entered a fault of the pack monitor in the ring (R68, R169). -/
def Spec.Entered (s t : State) (code : FaultCode) (value : Reading) (second : Option Reading) : Prop :=
  ∃ e ∈ t.ctl.ring, e.time = s.ctl.partTime ∧ e.source = .packMonitor ∧ e.code = code ∧ e.value = value ∧
    e.second = second

/-- The power in mW of a voltage reading in mV and a current in mA: 0 for a voltage that is no number (R35). -/
def Spec.milliwatts (v : Option Reading) (mA : Nat) : Nat :=
  match v with
  | some (.num n) => n.toNat * mA / 1000
  | _ => 0

/-- The mean of the voltages read over a period, truncated: ABSENT with an open sense among them (R143), and what stood
before when none was read (log 71). -/
def Spec.meanVoltage (vs : List (Option Nat)) (before : Option Nat) : Option Nat :=
  if vs = [] then before else if none ∈ vs then none else some ((vs.map (fun v => v.getD 0)).sum / vs.length)

/-- The mean of the output currents read over a period, truncated: ABOVE with an ABOVE among them (R143), and what stood
before when none was read (log 71). -/
def Spec.meanCurrent (rs : List ChargerReadings) (before : Reading) : Reading :=
  if rs = [] then before else if ∃ r ∈ rs, r.iOut = .above then .above
  else .num ((rs.map (fun r => (r.iOut.toInt?.getD 0).toNat)).sum / rs.length : Nat)

/-- What the drive's entry to RUN starts in the other blocks. In STICK role the count, S and D of the debris sensor begin
again, its window timer starts with 50 ms (R78), and a floor calibration seeks, with the band timer of 3,000 ms (R91).
That S begins at 0 and D is ABSENT also where a floor calibration holds the drive is the model's choice (DEDUCED, log 43):
R78 says it of every entry to RUN, and a worked sequence of section 4.5 keeps S and D. In DOCK role a run of the fan in
SPINNING is timed, for the duration in force (R151). -/
structure Spec.RunStarts (s t : State) : Prop where
  stick : s.ctl.role = .stick → t.evac = s.evac ∧
    t.debris = { s.debris with
      c := 0, s := 0, d := none, dirtyLogged := false, windowTimer := some (s.ctl.partTime + 50),
      cal := s.debris.cal.map (fun k =>
        { k with phase := .seeking, bandTimer := some (s.ctl.partTime + 3000), settle := none }) }
  dock : s.ctl.role = .dock → t.debris = s.debris ∧
    (s.evac.phase = .spinning → t.evac = { s.evac with
      phase := .timing, duration := some s.evacSet.duration,
      durationTimer := some (s.ctl.partTime + BitVec.ofNat 32 (s.evacSet.duration * 1000)) }) ∧
    (s.evac.phase ≠ .spinning → t.evac = s.evac)

/-- A cell reading is higher than another: ABOVE is higher than every number (R59). -/
def Spec.higher : Reading → Reading → Prop
  | .above, .num _ => True
  | .num a, .num b => b < a
  | _, _ => False

/-- A cell, numbered from 1, may bleed: it exceeds the lowest cell by more than 10 mV when it bleeds already, and by more
than 30 mV when it does not (R70). -/
def Spec.mayBleed (balance : List Nat) (cells : List Reading) (lowest : Int) (i : Nat) : Prop :=
  1 ≤ i ∧ ∃ c, cells[i - 1]? = some c ∧ Spec.higher c (.num (lowest + if i ∈ balance then 10 else 30))

/-- A cell comes before another in the order of R70: by reading, highest first, and by index among equals. -/
def Spec.bleedsBefore (cells : List Reading) (i j : Nat) : Prop :=
  Spec.higher (cells.getD (i - 1) .absent) (cells.getD (j - 1) .absent) ∨
  (¬ Spec.higher (cells.getD (j - 1) .absent) (cells.getD (i - 1) .absent) ∧ i < j)

/-- The balance set selected after another one (R70): candidates in their order, three or fewer, and every candidate left
out comes after three that bleed. -/
structure Spec.Selected (balance : List Nat) (cells : List Reading) (lowest : Int) (set : List Nat) : Prop where
  size : set.length ≤ 3
  candidates : ∀ i ∈ set, Spec.mayBleed balance cells lowest i
  order : set.Pairwise (Spec.bleedsBefore cells)
  rest : ∀ j, Spec.mayBleed balance cells lowest j → j ∉ set →
    set.length = 3 ∧ ∀ i ∈ set, Spec.bleedsBefore cells i j

/-- A command is one of the three resets. -/
def Spec.isReset : Instr → Bool
  | .powerOnReset _ _ => true
  | .pinReset => true
  | .shipWake _ => true
  | _ => false

/-- A command is a power-on reset. -/
def Spec.isPowerOn : Instr → Bool
  | .powerOnReset _ _ => true
  | _ => false

end Sys2Proof

open Sys2Proof Sys2Proof.Machine

/-! ### The step -/

/-- A step takes the command at the front of the queue, and runs it on the state with the rest of the queue. The queue
is the model's form (log 31). -/
def Obligations.StepTakesFront : Prop :=
  ∀ (c : Instr) (rest : List Instr) (s : State), step (s.withPending (c :: rest)) = exec c (s.withPending rest)

/-- With no command waiting, a step is one millisecond of part time and 10,000 ticks of the capture timer, and nothing in
SHIP. The model's choice (logs 1 and 6). -/
def Obligations.IdleStepCountsTime : Prop :=
  ∀ s : State, s.pending = [] →
    (s.ctl.power = .ship → step s = .next s) ∧
    (s.ctl.power ≠ .ship → step s = .next
      { s with ctl := { s.ctl with partTime := s.ctl.partTime + 1 },
               drive := { s.drive with captureTimer := s.drive.captureTimer + 10000 } })

/-- Every command answers a next state from every state: none faults and none is refused, and the waiting commands
stay. That an event which cannot occur changes nothing is the model's choice (log 5). -/
def Obligations.EveryCommandAnswers : Prop :=
  ∀ (c : Instr) (s : State), ∃ t, exec c s = .next t ∧ t.pending = s.pending

/-- In SHIP no command but a reset changes anything, and the contacts wake no dock. For an event that cannot occur
this is the model's choice (log 5). -/
def Obligations.ShipIsQuiet : Prop :=
  ∀ (c : Instr) (s : State), s.ctl.power = .ship →
    (Spec.isReset c = false → exec c s = .next s) ∧
    (s.ctl.role = .dock → exec (.shipWake .contact) s = .next s)

/-- The straps and part time change at a power-on reset only: no other command touches them. -/
def Obligations.StrapsAndPartTimeKept : Prop :=
  ∀ (c : Instr) (s t : State), Spec.isPowerOn c = false → exec c s = .next t →
    t.ctl.role = s.ctl.role ∧ t.ctl.cells = s.ctl.cells ∧ t.ctl.partTime = s.ctl.partTime

/-! ### Invariants that every step keeps -/

/-- The state right after reset meets every invariant. -/
def Obligations.ResetIsSafe : Prop := Safety.Inv State.reset

/-- Every step keeps the store's memory in canonical form. -/
def Obligations.StoreStaysCanonical : Prop :=
  ∀ s t : State, Safety.storeCanonical s → step s = .next t → Safety.storeCanonical t

/-- Every step keeps the bounds of the host link's queues and of its error counter, and from the SHIP decision to the entry
to SHIP a frame is being sent. -/
def Obligations.LinkStaysBounded : Prop :=
  ∀ s t : State, Safety.linkBounded s → step s = .next t → Safety.linkBounded t

/-- Every step keeps the fault ring at 16 entries or fewer with consecutive sequence numbers. -/
def Obligations.RingStaysConsecutive : Prop :=
  ∀ s t : State, Safety.ringConsecutive s → step s = .next t → Safety.ringConsecutive t

/-- Every step keeps the limits in their ranges and the duty of channel A within duty_max. -/
def Obligations.DutyStaysWithinMax : Prop :=
  ∀ s t : State, Safety.limitsBounded s → Safety.dutyBounded s → step s = .next t →
    Safety.limitsBounded t ∧ Safety.dutyBounded t

/-- Every step keeps the interlock of the motor: in STICK role channel A drives only with discharge permitted and the stick
off the dock, and the roll drive runs only while the suction drive is in RUN. -/
def Obligations.MotorStaysPermitted : Prop :=
  ∀ s t : State, Safety.motorPermitted s → step s = .next t → Safety.motorPermitted t

/-- Every step keeps the charger's setpoint within the need limit, and the stage switching only in a charging session. -/
def Obligations.ChargerStaysBounded : Prop :=
  ∀ s t : State, Safety.chargerBounded s → step s = .next t → Safety.chargerBounded t

/-- Every step keeps the dirt index, its filter and the bin load within their ranges, and BIN_FULL true to the bin load. -/
def Obligations.DirtStaysBounded : Prop :=
  ∀ s t : State, Safety.dirtBounded s → step s = .next t → Safety.dirtBounded t

/-- Every step keeps Q within the full charge, and with an invalid CELLS strap at 0 with no scan. The state of charge is
floor(Q × 1,000 / (C × 3,600)) while Q is valid and ABSENT otherwise, and so lies within 0..1,000. -/
def Obligations.ChargeStaysBounded : Prop :=
  (∀ s t : State, Safety.chargeBounded s → step s = .next t → Safety.chargeBounded t) ∧
  (∀ s : State, (s.pack.valid = false → s.soc = none) ∧
    (s.pack.valid = true → s.soc = some (s.pack.q * 1000 / (s.pack.capacity * 3600)))) ∧
  (∀ s : State, Safety.chargeBounded s → ∀ n, s.soc = some n → n ≤ 1000)

/-- Every step keeps the balance set at 3 cells or fewer, and empty while channel A drives. -/
def Obligations.BalanceStaysAllowed : Prop :=
  ∀ s t : State, Safety.balanceAllowed s → step s = .next t → Safety.balanceAllowed t

/-- Every step keeps the two permissions what the lockout and the active causes make of them. -/
def Obligations.PermissionsStayTrue : Prop :=
  ∀ s t : State, Safety.permissionsFollow s → step s = .next t → Safety.permissionsFollow t

/-! ### Resets -/

/-- A power-on reset samples the straps and clears the retention domain: the fault ring but for the entry of an invalid
strap, the sequence numbers, part time, the limit lock, Q, the bin load and the lockout, whose cause STRAP an invalid strap
asserts. POWER_ON alone is set in the cause record, and every block is at rest. -/
def Obligations.PowerOnResetClears : Prop :=
  ∀ (role : Role) (cells : BitVec 2) (s : State), ∃ t, exec (.powerOnReset role cells) s = .next t ∧
    t.ctl.role = role ∧ t.ctl.cells = cells ∧ t.ctl.partTime = 0 ∧ t.ctl.lock = none ∧ t.ctl.power = .active ∧
    t.ctl.cause = ⟨true, false, false, false, .powerOn⟩ ∧ t.ctl.lowCells = 0 ∧
    (role = .stick ∧ cells = 3 →
      t.ctl.ring = [⟨0, 0, .modeController, .strapInvalid, .num 3, none⟩] ∧ t.ctl.nextSeq = 1 ∧
      t.prot.lockedOut = true ∧ t.prot.lockout = ⟨false, false, false, true⟩ ∧ t.prot.level = .lockout) ∧
    (¬ (role = .stick ∧ cells = 3) →
      t.ctl.ring = [] ∧ t.ctl.nextSeq = 0 ∧ t.prot.lockedOut = false ∧
      t.prot.lockout = ⟨false, false, false, false⟩ ∧ t.prot.level = .derated) ∧
    t.pack.q = 0 ∧ t.pack.valid = false ∧ t.pack.record = none ∧ t.debris.b = 0 ∧
    t.prot.dischargeOk = false ∧ t.prot.chargeOk = false ∧
    t.drive.state = .off ∧ t.drive.duty = 0 ∧ t.drive.mode = .off ∧ t.roll.state = .off ∧ t.charger.state = .off ∧
    t.stick.state = .detached ∧ t.dock.state = .vacant ∧ t.evac.phase = .none ∧ t.debris.cal = none ∧
    t.att.result = .unknown ∧ t.store.op = none ∧ t.host.mask = 0x60 ∧ t.host.errors = 0 ∧ t.host.rxq = [] ∧
    t.pending = s.pending

/-- A command that brings a reset other than power-on, with the kind of the reset: the pin, a wake source that the part
watches in SHIP, and the end of RESET_PART's reply (R161, R170, R175). -/
inductive Spec.WarmReset (s : State) : Instr → ResetKind → Prop where
  | pin : Spec.WarmReset s .pinReset .pin
  | wakePin : s.ctl.power = .ship → Spec.WarmReset s (.shipWake .wakePin) .shipWake
  | wakeContact : s.ctl.power = .ship → s.ctl.role = .stick → Spec.WarmReset s (.shipWake .contact) .shipWake
  | request (w : List Byte) : s.ctl.power ≠ .ship → s.host.tx = some ⟨w, true⟩ →
      Spec.WarmReset s .frameTransmitDone .request

/-- RESET_PART answers OK with a reply whose last byte will bring the request reset; until then nothing else changes but
the sticky flags, when the reply is asked for a summary. With a payload it is BAD_LENGTH, and that reply brings no reset
(DEDUCED, log 52). Every other reset keeps the straps and the retention domain: the fault ring with its sequence numbers,
part time, the limit lock with the limits and the supervision period it holds, Q up to the full charge of the capacity
loaded, the bin load and the lockout. It adds its flag to the cause record, abandons the store's operation, and leaves
every block at rest in ACTIVE. -/
def Obligations.OtherResetsKeepRetained : Prop :=
  (∀ (s : State) (rest : List HostFrame), Spec.Heads s 0x08 0x08 [] rest →
    exec .resetPart s = .next (settle (pushReply ⟨0x88, [0x00], true⟩ (beginTaking rest s)))) ∧
  (∀ (s : State) (rest : List HostFrame), Spec.Heads s 0x08 0x48 [] rest →
    let b := beginTaking rest s
    exec .resetPart s = .next (settle (pushReply ⟨0xC8, [0x00] ++ b.summary, true⟩
      { b with host := { b.host with govSat := false, overrun := false, linkError := false, faultNew := false } }))) ∧
  (∀ (s : State) (kind : Byte) (p : List Byte) (rest : List HostFrame), Spec.Heads s 0x08 kind p rest → p ≠ [] →
    exec .resetPart s = .next (settle (Spec.reply kind 0x12 [] (beginTaking rest s)))) ∧
  (∀ (c : Instr) (k : ResetKind) (s : State), Spec.WarmReset s c k → ∃ t, exec c s = .next t ∧
    t.ctl.role = s.ctl.role ∧ t.ctl.cells = s.ctl.cells ∧ t.ctl.ring = s.ctl.ring ∧ t.ctl.nextSeq = s.ctl.nextSeq ∧
    t.ctl.partTime = s.ctl.partTime ∧ t.ctl.lock = s.ctl.lock ∧ t.ctl.power = .active ∧ t.ctl.lowCells = 0 ∧
    t.ctl.cause = { powerOn := s.ctl.cause.powerOn, pin := s.ctl.cause.pin || decide (k = .pin),
                    request := s.ctl.cause.request || decide (k = .request),
                    shipWake := s.ctl.cause.shipWake || decide (k = .shipWake), lastKind := k } ∧
    (∀ l, s.ctl.lock = some l → t.gov.limits = l.limits ∧ t.host.supPeriod = l.supPeriod) ∧
    t.pack.q = min s.pack.q (t.pack.capacity * 3600) ∧ t.pack.valid = s.pack.valid ∧ t.pack.record = none ∧
    t.debris.b = s.debris.b ∧ t.prot.lockedOut = s.prot.lockedOut ∧ t.prot.lockout = s.prot.lockout ∧
    t.prot.dischargeOk = false ∧ t.prot.chargeOk = false ∧
    t.drive.state = .off ∧ t.drive.duty = 0 ∧ t.drive.mode = .off ∧ t.roll.state = .off ∧ t.charger.state = .off ∧
    t.stick.state = .detached ∧ t.dock.state = .vacant ∧ t.evac.phase = .none ∧ t.debris.cal = none ∧
    t.att.result = .unknown ∧ t.store.op = none ∧ t.host.mask = 0x60 ∧ t.host.errors = 0 ∧ t.host.rxq = [] ∧
    t.host.tx = none ∧ t.pending = s.pending)

/-! ### What follows every event, and faults -/

/-- What follows an event: an idle transmitter starts the oldest waiting reply, or failing that the oldest waiting
report, and the frame leaves its queue; a busy one goes on. The period timer, the supervision timer, the standby timer
and the ID sample timer run while their conditions hold: one that was running keeps its due time, and one that starts is
due 1 ms, the supervision period, 30,000 ms and 50 ms later. The last byte of
a frame other than RESET_PART's reply frees the transmitter, which then chooses the next frame. That the transmitter
chooses at the end of the event is the model's choice (log 11). A period timer that stops leaves no V_start and no
reading of the period cut off (log 12), and whether it runs is judged once, at the end of the event (log 55): the model's
choices. After a SHIP decision a frame that waits or is being sent keeps the part out of SHIP; with
none, the part is in SHIP in the same event (DEDUCED, log 27), with every timer that follows a condition stopped, both
receivers off, no cell bleeding and the contact link inactive, and all else as it was. -/
def Obligations.EventIsFollowedUp : Prop :=
  (∀ s : State, s.ctl.shipDecided = false →
    (∀ r rest, s.host.tx = none → s.host.replies = r :: rest →
      (settle s).host.tx = some ⟨hostWire r.kind r.payload, r.resets⟩ ∧ (settle s).host.replies = rest ∧
      (settle s).host.reports = s.host.reports) ∧
    (∀ r rest, s.host.tx = none → s.host.replies = [] → s.host.reports = r :: rest →
      (settle s).host.tx = some ⟨reportWire r, false⟩ ∧ (settle s).host.replies = [] ∧
      (settle s).host.reports = rest) ∧
    (∀ w, s.host.tx = some w → (settle s).host.tx = some w ∧ (settle s).host.replies = s.host.replies ∧
      (settle s).host.reports = s.host.reports) ∧
    ((settle s).gov.timer.isSome = s.govRuns ∧ (settle s).host.supTimer.isSome = s.supervised ∧
      (settle s).ctl.standbyTimer.isSome = s.standbyRuns ∧ (settle s).att.sampleTimer.isSome = s.samplesId) ∧
    (∀ d, s.host.supTimer = some d → s.supervised = true → (settle s).host.supTimer = some d) ∧
    (∀ d, s.gov.timer = some d → s.govRuns = true → (settle s).gov.timer = some d) ∧
    (∀ d, s.ctl.standbyTimer = some d → s.standbyRuns = true → (settle s).ctl.standbyTimer = some d) ∧
    (∀ d, s.att.sampleTimer = some d → s.samplesId = true → (settle s).att.sampleTimer = some d) ∧
    (s.host.supTimer = none → s.supervised = true →
      (settle s).host.supTimer = some (s.ctl.partTime + BitVec.ofNat 32 s.host.supPeriod)) ∧
    (s.gov.timer = none → s.govRuns = true → (settle s).gov.timer = some (s.ctl.partTime + 1)) ∧
    (s.ctl.standbyTimer = none → s.standbyRuns = true →
      (settle s).ctl.standbyTimer = some (s.ctl.partTime + 30000)) ∧
    (s.att.sampleTimer = none → s.samplesId = true → (settle s).att.sampleTimer = some (s.ctl.partTime + 50)) ∧
    (s.govRuns = true → (settle s).gov.vStart = s.gov.vStart ∧ (settle s).gov.busSamples = s.gov.busSamples ∧
      (settle s).gov.rollSamples = s.gov.rollSamples) ∧
    (s.govRuns = false → (settle s).gov.vStart = none ∧ (settle s).gov.busSamples = ⟨0, 0, false⟩ ∧
      (settle s).gov.rollSamples = ⟨0, 0, false⟩) ∧
    (settle s).ctl.power = s.ctl.power ∧ Spec.SameBlocks s (settle s)) ∧
  (∀ s : State, s.ctl.shipDecided = true →
    (s.host.tx.isSome = true ∨ s.host.replies ≠ [] ∨ s.host.reports ≠ [] → (settle s).ctl.power = s.ctl.power ∧
      (settle s).ctl.shipDecided = true ∧ (settle s).host.tx.isSome = true ∧ Spec.SameBlocks s (settle s)) ∧
    (s.host.tx = none → s.host.replies = [] → s.host.reports = [] → let t := settle s
      t.ctl = { s.ctl with power := .ship, shipDecided := false, standbyTimer := none } ∧
      t.host = { s.host with rx := none, rxGap := none, supTimer := none } ∧
      t.gov = { s.gov with timer := none, vStart := none, busSamples := ⟨0, 0, false⟩, rollSamples := ⟨0, 0, false⟩ } ∧
      t.att = { s.att with sampleTimer := none } ∧ t.pack = { s.pack with balance := [] } ∧
      t.contact = ⟨none, none, none, none, none, none, none⟩ ∧
      Spec.SameBlocks { s with pack := t.pack, contact := t.contact } t)) ∧
  (∀ (s : State) (w : List Byte), s.ctl.power ≠ .ship → s.host.tx = some ⟨w, false⟩ →
    exec .frameTransmitDone s = .next (settle { s with host := { s.host with tx := none } }))

/-- A fault entry takes the next sequence number and part time with the source, the code and the two values handed to it, a
number beyond ±32,766 as ABOVE or BELOW. It is placed last in the ring, from which the oldest of 16 is removed, sets
FAULT_NEW and is reported as FAULT; every block is as before. A report that a block hands to the link is discarded when its
type is clear in the mask, enters the report queue while fewer than 8 wait, and is else dropped, with REPORT_OVERRUN set. -/
def Obligations.FaultEntryIsAppended : Prop :=
  (∀ (src : FaultSource) (code : FaultCode) (v : Reading) (w : Option Reading) (s t : State),
    s.ctl.ring.length ≤ 16 → t = appendFault src code v w s →
    (∃ e, e.seq = s.ctl.nextSeq ∧ e.time = s.ctl.partTime ∧ e.source = src ∧ e.code = code ∧
      e.value = v.fit16 ∧ e.second = w.map Reading.fit16 ∧
      (∀ n : Int, v = .num n → -32766 ≤ n → n ≤ 32766 → e.value = .num n) ∧
      (∀ n : Int, v = .num n → 32766 < n → e.value = .above) ∧
      (∀ n : Int, v = .num n → n < -32766 → e.value = .below) ∧
      (v = .above ∨ v = .below ∨ v = .absent → e.value = v) ∧
      (s.ctl.ring.length < 16 → t.ctl.ring = s.ctl.ring ++ [e]) ∧
      (s.ctl.ring.length = 16 → t.ctl.ring = s.ctl.ring.tail ++ [e]) ∧
      (s.host.mask.getLsbD 5 = true → s.host.reports.length < 8 →
        t.host.reports = s.host.reports ++ [Report.fault e])) ∧
    t.ctl.nextSeq = s.ctl.nextSeq + 1 ∧ t.host.faultNew = true ∧ t.host.rxq = s.host.rxq ∧
    t.host.replies = s.host.replies ∧ t.gov = s.gov ∧ t.att = s.att ∧ Spec.SameBlocks s t) ∧
  (∀ (r : Report) (s : State),
    let subscribed := s.host.mask.getLsbD (reportType r - 1)
    (subscribed = false → handReport r s = s) ∧
    (subscribed = true → s.host.reports.length < 8 →
      handReport r s = { s with host := { s.host with reports := s.host.reports ++ [r] } }) ∧
    (subscribed = true → 8 ≤ s.host.reports.length →
      handReport r s = { s with host := { s.host with overrun := true } }))

/-! ### Host link -/

/-- A host frame sent byte by byte to a receiver in HUNTING arrives as the request of its kind and payload, at the end of
the receive queue: the frame's form and the receiver agree, for every kind and every payload of up to 128 bytes. That the
last byte on RXD acts as the completed frame is DEDUCED (log 34). -/
def Obligations.HostFrameRoundTrip : Prop :=
  ∀ (kind : Byte) (payload : List Byte) (s : State), payload.length ≤ 128 → s.host.rx = none → s.ctl.power ≠ .ship →
    s.ctl.shipDecided = false → s.host.rxq.length < 4 →
    ∃ t, Spec.runs ((hostWire kind payload).map Instr.hostByteArrival) s = some t ∧
      t.host.rxq = s.host.rxq ++ [⟨kind, payload⟩] ∧ t.host.rx = none ∧ t.host.errors = s.host.errors ∧
      t.host.linkError = s.host.linkError ∧ Spec.SameBlocks s t

/-- The expiry of the supervision timer forces the mode to OFF, ends a floor calibration, stops both drives with the
jam count cleared, and logs HOST_SILENT with the period and the drive's state before it. A stopped timer has no expiry,
and a timer that is not yet due has none either: the arrival of a frame with a right check restarts it, and an expiry
taken after that arrival, at the same instant too, does not occur and changes nothing. That a timer is due while part
time less its due time, modulo 2^32, is below 2^31 is the model's choice (log 4). -/
def Obligations.SupervisionExpiryStops : Prop :=
  (∀ s : State, s.host.supTimer = none → exec .supervisionExpiry s = .next s) ∧
  (∀ (s : State) (due : Ms), s.host.supTimer = some due → 2147483648 ≤ (s.ctl.partTime - due).toNat →
    exec .supervisionExpiry s = .next s) ∧
  (∀ (s : State) (len check : Byte) (rest : List Byte) (due : Ms), s.ctl.power ≠ .ship →
    let bytes := len :: rest ++ [check]
    s.host.rx = some (len :: rest) → bytes.length = len.toNat + 3 →
    (crc16 (bytes.take (len.toNat + 1))).toNat = u16At bytes (len.toNat + 1) →
    s.host.supTimer = some due → s.supervised = true → 0 < s.host.supPeriod → s.host.supPeriod ≤ 2000 →
    ∃ t, exec (.hostFrameArrival check) s = .next t ∧
      t.host.supTimer = some (s.ctl.partTime + BitVec.ofNat 32 s.host.supPeriod) ∧ t.drive = s.drive ∧ t.roll = s.roll ∧
      exec .supervisionExpiry t = .next t) ∧
  (∀ (s : State) (due : Ms), s.ctl.power ≠ .ship → s.host.supTimer = some due →
    (s.ctl.partTime - due).toNat < 2147483648 →
    ∃ t, exec .supervisionExpiry s = .next t ∧ t.drive.mode = .off ∧ t.drive.state.drives = false ∧
      t.roll.state = .off ∧ (s.roll.state ≠ .off → t.roll.jamCount = 0) ∧ t.debris.cal = none ∧
      (∃ e, t.ctl.ring.getLast? = some e ∧ e.seq = s.ctl.nextSeq ∧ e.time = s.ctl.partTime ∧ e.source = .hostLink ∧
        e.code = .hostSilent ∧ (s.host.supPeriod ≤ 32766 → e.value = .num s.host.supPeriod) ∧
        e.second = some (.num (driveStateCode s.drive.state))) ∧
      t.pack.q = s.pack.q ∧ t.prot = s.prot ∧ t.stick = s.stick ∧ t.store = s.store ∧ t.charger = s.charger)

/-! ### Requests -/

/-- The length of every record that a status request returns, as the table of section 11.3 adds it up: a drive record with
its n periods, a pack record with its N cells and b bleeding cells, and the fixed ones. -/
def Obligations.StatusRecordLengths : Prop :=
  ∀ s : State,
    (identifyFields s).length = 11 ∧ (statusFields s).length = 7 ∧
    (driveStatusFields s).length = 38 + 3 * s.drive.ring.length ∧
    (budgetStatusFields s).length = 105 ∧
    (s.cellCount = ((s.pack.record.map PackRecord.cells).getD (List.replicate s.cellCount .absent)).length →
      (packStatusFields s).length = 42 + 2 * s.cellCount + s.pack.balance.length) ∧
    (s.debris.floors.length = 8 → (dirtStatusFields s).length = 70) ∧
    (s.att.entries.length = 8 → (attachmentStatusFields s).length = 121) ∧
    (stickStatusFields s).length = 29 ∧ (dockStatusFields s).length = 47 ∧
    (chargerStatusFields s).length = 62 ∧ (storeStatusFields s).length = 21

/-- STATUS answers OK and always carries the summary, which clears the four sticky flags; then come the error counter, the
number of queued reports, the mask, the supervision period, and whether the supervision timer runs. A payload that is not
empty is BAD_LENGTH. A counter of 65,535 goes out as 0xFFFF, the code of ABSENT: the model's choice (log 67). -/
def Obligations.StatusCarriesSummary : Prop :=
  ∀ (s : State) (kind : Byte) (rest : List HostFrame) (p : List Byte), Spec.Heads s 0x02 kind p rest →
    let b := beginTaking rest s
    let cleared : State :=
      { b with host := { b.host with govSat := false, overrun := false, linkError := false, faultNew := false } }
    let fields := u16 b.host.errors ++ u8 b.host.reports.length ++ u8 b.host.mask.toNat ++ u16 b.host.supPeriod
      ++ u8 (if b.host.supTimer.isSome then 1 else 0)
    (p = [] → exec .status s
      = .next (settle (pushReply ⟨kind + 0x80, [0x00] ++ b.summary ++ fields, false⟩ cleared))) ∧
    (p ≠ [] → exec .status s = .next (settle (pushReply ⟨kind + 0x80, [0x12] ++ b.summary, false⟩ cleared)))

/-- READ_FAULTS with a maximum of 1..8 returns the number of entries, the next sequence number, and the first entries whose
sequence number less from_seq is below 2^31; another maximum is OUT_OF_RANGE, and another length BAD_LENGTH. The ring
keeps its entries. A sequence number or time of 0xFFFFFFFF goes out as its four bytes: the model's choice (log 67). -/
def Obligations.ReadFaultsReturns : Prop :=
  ∀ (s : State) (kind : Byte) (rest : List HostFrame) (p : List Byte), Spec.Heads s 0x05 kind p rest →
    let b := beginTaking rest s
    let found := (b.ctl.ring.filter
      (fun e => decide ((e.seq - BitVec.ofNat 32 (u32At p 0)).toNat < 2 ^ 31))).take (byteAt p 4)
    (p.length = 5 → 1 ≤ byteAt p 4 → byteAt p 4 ≤ 8 → exec .readFaults s = .next (settle (Spec.reply kind 0x00
      (u8 b.ctl.ring.length ++ u32 b.ctl.nextSeq.toNat ++ u8 found.length ++ found.flatMap faultEntryBytes) b))) ∧
    (p.length = 5 → byteAt p 4 = 0 ∨ 8 < byteAt p 4 →
      exec .readFaults s = .next (settle (Spec.reply kind 0x14 [] b))) ∧
    (p.length ≠ 5 → exec .readFaults s = .next (settle (Spec.reply kind 0x12 [] b)))

/-- SUBSCRIBE replaces the subscription mask by its byte and answers OK; a payload of another length is BAD_LENGTH and
changes nothing. The queued reports stay. SUPERVISE sets the supervision period, clamped into 100..2,000 ms, and
restarts a running supervision timer with it; it answers CLAMPED for a clamped period, and LOCKED, with nothing changed,
while the limit lock is set. A payload that is not two bytes is BAD_LENGTH, and the period 0xFFFF, which is ABSENT,
NONCANONICAL. -/
def Obligations.HostSettingsTakeEffect : Prop :=
  (∀ (s : State) (kind : Byte) (rest : List HostFrame) (p : List Byte), Spec.Heads s 0x03 kind p rest →
    let b := beginTaking rest s
    (∀ m, p = [m] → exec .subscribe s
      = .next (settle (Spec.reply kind 0x00 [] { b with host := { b.host with mask := m } }))) ∧
    (p.length ≠ 1 → exec .subscribe s = .next (settle (Spec.reply kind 0x12 [] b)))) ∧
  (∀ (s : State) (kind : Byte) (rest : List HostFrame) (p : List Byte), Spec.Heads s 0x04 kind p rest → p.length = 2 →
    u16At p 0 ≠ 0xFFFF →
    let b := beginTaking rest s
    let period := if u16At p 0 < 100 then 100 else if 2000 < u16At p 0 then 2000 else u16At p 0
    let timer := b.host.supTimer.map (fun _ => b.ctl.partTime + BitVec.ofNat 32 period)
    (s.ctl.lock = none → exec .supervise s = .next (settle (Spec.reply kind
      (if period = u16At p 0 then 0x00 else 0x02) []
      { b with host := { b.host with supPeriod := period, supTimer := timer } }))) ∧
    (s.ctl.lock.isSome = true → exec .supervise s = .next (settle (Spec.reply kind 0x17 [] b)))) ∧
  (∀ (s : State) (kind : Byte) (rest : List HostFrame) (p : List Byte), Spec.Heads s 0x04 kind p rest →
    let b := beginTaking rest s
    (p.length ≠ 2 → exec .supervise s = .next (settle (Spec.reply kind 0x12 [] b))) ∧
    (p = [0xFF, 0xFF] → exec .supervise s = .next (settle (Spec.reply kind 0x13 [] b))))

/-- LOCK_LIMITS, taken while the limit lock is clear, sets it with the four limits and the supervision period in force;
taken while it is set it changes nothing. Both answer OK. A payload that is not empty is BAD_LENGTH. -/
def Obligations.LockLimitsCaptures : Prop :=
  ∀ (s : State) (kind : Byte) (rest : List HostFrame) (p : List Byte), Spec.Heads s 0x14 kind p rest →
    let b := beginTaking rest s
    (p = [] → s.ctl.lock = none → exec .lockLimits s = .next (settle (Spec.reply kind 0x00 []
      { b with ctl := { b.ctl with lock := some ⟨b.gov.limits, b.host.supPeriod⟩ } }))) ∧
    (p = [] → s.ctl.lock.isSome = true → exec .lockLimits s = .next (settle (Spec.reply kind 0x00 [] b))) ∧
    (p ≠ [] → exec .lockLimits s = .next (settle (Spec.reply kind 0x12 [] b)))

/-- A request whose kind is not a known one is answered with KIND 0xFF, the result UNKNOWN_KIND and the kind received. A
request of the other role is WRONG_ROLE whatever its payload; one of a wrong length is BAD_LENGTH, and one not in
canonical form NONCANONICAL. None of these changes anything but the queues, the standby timer and a summary's flags. -/
def Obligations.RefusalsChangeNothing : Prop :=
  (∀ (s : State) (kind : Byte) (p : List Byte) (rest : List HostFrame), s.ctl.power ≠ .ship →
    s.ctl.shipDecided = false → s.host.replies.length < 4 → s.host.rxq = ⟨kind, p⟩ :: rest →
    (kind = 0x00 ∨ kind = 0x40 ∨ 0x80 ≤ kind.toNat ∨ kind.toNat % 0x40 ∉ assignedCodes) →
    exec .unknownKind s = .next (settle (pushReply ⟨0xFF, [0x11, kind], false⟩ (beginTaking rest s)))) ∧
  (∀ (q : RequestSpec) (p : List Byte) (s : State),
    (q.accepts s.ctl.role = false → judge q p s = refuse .wrongRole s) ∧
    (q.accepts s.ctl.role = true → q.lengthOk p = false → judge q p s = refuse .badLength s) ∧
    (q.accepts s.ctl.role = true → q.lengthOk p = true → q.canonical p = false →
      judge q p s = refuse .noncanonical s)) ∧
  (∀ (s : State) (kind : Byte) (p : List Byte) (rest : List HostFrame), s.ctl.role = .dock →
    (Spec.Heads s 0x10 kind p rest → exec .setSuction s = .next (settle (Spec.reply kind 0x15 [] (beginTaking rest s))))
    ∧ (Spec.Heads s 0x26 kind p rest →
      exec .rollRestart s = .next (settle (Spec.reply kind 0x15 [] (beginTaking rest s))))) ∧
  (∀ (s : State) (kind : Byte) (p : List Byte) (rest : List HostFrame), s.ctl.role = .stick →
    Spec.Heads s 0x2E kind p rest →
    exec .startEvacuation s = .next (settle (Spec.reply kind 0x15 [] (beginTaking rest s))))

/-- Taking a request removes it from the receive queue; in ACTIVE nothing else changes but a running standby timer,
which restarts with 30,000 ms, and in STANDBY the part returns to ACTIVE with its low-cell count 0 and, in STICK role
with valid straps, a scan due at once. SET_POWER_MODE: ACTIVE answers OK and changes nothing; STANDBY, while the part
is idle, enters STANDBY with the standby timer stopped and the scans 1,000 ms apart, and is else DENIED; SHIP, in a
detached stick at rest, makes the SHIP decision and stops the scan and the timers. The expiry of the standby timer
enters STANDBY likewise. At a publication in STANDBY the low-cell count rises by one while the stick is detached and its
lowest numeric cell is below 3,000 mV, and else becomes 0; at 10 AUTO_SHIP is logged with that cell and the state of
charge, and the SHIP decision is made. A timer's command acts while that timer runs, due or not (log 4), the entry of
AUTO_SHIP comes after those of the causes of the same publication (log 10), and a request for STANDBY taken in STANDBY
starts no scan and sets the scan timer as any entry to STANDBY does (log 73): the model's choices. -/
def Obligations.PowerModesFollow : Prop :=
  (∀ (s : State) (rest : List HostFrame),
    let due := s.ctl.standbyTimer.map (fun _ => s.ctl.partTime + BitVec.ofNat 32 30000)
    (s.ctl.power = .active → beginTaking rest s
      = { s with host := { s.host with rxq := rest }, ctl := { s.ctl with standbyTimer := due } }) ∧
    (s.ctl.power = .standby → s.ctl.shipDecided = false →
      (beginTaking rest s).ctl = { s.ctl with power := .active, lowCells := 0, standbyTimer := due } ∧
      (beginTaking rest s).pack = { s.pack with scanTimer :=
        if s.ctl.role = .stick ∧ s.ctl.cells ≠ 3 then some s.ctl.partTime else none } ∧
      (beginTaking rest s).drive = s.drive ∧ (beginTaking rest s).host.rxq = rest)) ∧
  ((∀ (s : State) (kind : Byte) (rest : List HostFrame), Spec.Heads s 0x09 kind [0x00] rest →
    exec .setPowerMode s = .next (settle (Spec.reply kind 0x00 [] (beginTaking rest s)))) ∧
  (∀ (s : State) (kind : Byte) (rest : List HostFrame), Spec.Heads s 0x09 kind [0x01] rest →
    (s.idle = true → ∃ t, exec .setPowerMode s = .next t ∧ t.ctl.power = .standby ∧ t.ctl.standbyTimer = none ∧
      (s.packRuns = true → t.pack.scanTimer = some (s.pack.lastScan + 1000)) ∧ t.drive = s.drive ∧ t.prot = s.prot ∧
      t.store = s.store ∧ t.debris = s.debris ∧ t.pack.q = s.pack.q) ∧
    (s.idle = false → exec .setPowerMode s = .next (settle (Spec.reply kind 0x16 [] (beginTaking rest s))))) ∧
  (∀ (s : State) (kind : Byte) (rest : List HostFrame), Spec.Heads s 0x09 kind [0x02] rest → s.ctl.role = .stick →
    s.stick.state = .detached → s.drive.state = .off → s.roll.state = .off → s.debris.cal = none → s.store.op = none →
    ∃ t, exec .setPowerMode s = .next t ∧ t.ctl.shipDecided = true ∧ t.pack.scanTimer = none ∧
      t.pack.scanning = false ∧ t.host.supTimer = none ∧ t.ctl.standbyTimer = none ∧ t.drive = s.drive ∧
      t.prot = s.prot ∧ t.store = s.store ∧ t.debris = s.debris ∧ t.pack.q = s.pack.q) ∧
  (∀ (s : State) (due : Ms), s.ctl.power = .active → s.ctl.shipDecided = false → s.ctl.standbyTimer = some due →
    ∃ t, exec .standbyTimerExpiry s = .next t ∧ t.ctl.power = .standby ∧ t.ctl.standbyTimer = none ∧
      (s.packRuns = true → t.pack.scanTimer = some (s.pack.lastScan + 1000)) ∧ t.drive = s.drive ∧ t.prot = s.prot ∧
      t.store = s.store ∧ t.debris = s.debris ∧ t.pack.q = s.pack.q) ∧
  (∀ (s : State) (scan : RawScan), s.ctl.power = .standby → s.ctl.shipDecided = false → s.pack.scanning = true →
    let lowest := ((formRecord s scan).cells.filterMap Reading.toInt?).min?
    let low := s.stick.state = .detached ∧ ∃ v, lowest = some v ∧ v < 3000
    ∃ t, exec (.packRecordPublication scan) s = .next t ∧
      (¬ low → t.ctl.lowCells = 0) ∧ (low → t.ctl.lowCells = s.ctl.lowCells + 1) ∧
      (¬ low ∨ s.ctl.lowCells < 9 → t.ctl.power = .standby ∧ t.ctl.shipDecided = false) ∧
      (low → 9 ≤ s.ctl.lowCells → (t.ctl.shipDecided = true ∨ t.ctl.power = .ship) ∧ t.ctl.standbyTimer = none ∧
        t.pack.scanTimer = none ∧ t.pack.scanning = false ∧ t.host.supTimer = none ∧
        ∃ e, t.ctl.ring.getLast? = some e ∧ e.time = s.ctl.partTime ∧ e.source = .modeController ∧
          e.code = .autoShip ∧ (∀ v, lowest = some v → e.value = .num v) ∧
          e.second = some (Reading.fit16 ((t.soc.map (fun n => Reading.num n)).getD .absent)))))

/-- The receiver of the host link. A gap of more than 5 ms discards a frame in progress; a framing error discards it
and sets LINK_ERROR; a LEN of 0 or above 129 does the same. At the last check byte of a frame: with a right check the
request enters the receive queue while fewer than 4 wait, and is else discarded with LINK_ERROR, and either way a
running supervision timer restarts; with a wrong check the frame is discarded, the error counter rises up to 65,535
and LINK_ERROR is set. The byte acts alike as a byte on RXD (DEDUCED, log 34). A timer's command acts while that timer
runs, due or not: the model's choice (log 4). -/
def Obligations.HostReceiverJudges : Prop :=
  (∀ (s : State) (bytes : List Byte) (len : Byte), s.ctl.power ≠ .ship →
    (s.host.rx = some bytes → exec .hostRxGapTimeout s
      = .next (settle { s with host := { s.host with rx := none, rxGap := none } })) ∧
    (s.host.rx = some bytes → exec .hostRxFramingError s
      = .next (settle { s with host := { s.host with rx := none, rxGap := none, linkError := true } })) ∧
    (s.host.rx = some [] → (len = 0 ∨ 129 < len.toNat) → exec (.hostRxLenInvalid len) s
      = .next (settle { s with host := { s.host with rx := none, rxGap := none, linkError := true } }))) ∧
  (∀ (s : State) (len check : Byte) (body : List Byte), s.ctl.power ≠ .ship → s.ctl.shipDecided = false →
    s.host.rx = some (len :: body) → body.length + 2 = len.toNat + 3 →
    let bytes := len :: body ++ [check]
    let right := (crc16 (bytes.take (len.toNat + 1))).toNat = u16At bytes (len.toNat + 1)
    let quiet : State := { s with host := { s.host with rx := none, rxGap := none } }
    let heard : State := { quiet with host := { quiet.host with
      supTimer := s.host.supTimer.map (fun _ => s.ctl.partTime + BitVec.ofNat 32 s.host.supPeriod) } }
    (right → s.host.rxq.length < 4 → exec (.hostFrameArrival check) s = .next (settle
      { heard with host := { heard.host with
          rxq := s.host.rxq ++ [⟨bytes.getD 1 0, (bytes.take (len.toNat + 1)).drop 2⟩] } })) ∧
    (right → 4 ≤ s.host.rxq.length → exec (.hostFrameArrival check) s
      = .next (settle { heard with host := { heard.host with linkError := true } })) ∧
    (¬ right → exec (.hostFrameArrival check) s = .next (settle
      { quiet with host := { quiet.host with errors := min 65535 (s.host.errors + 1), linkError := true } })) ∧
    exec (.hostByteArrival check) s = exec (.hostFrameArrival check) s)

/-- A request that only returns a record, taken with an empty payload in a role that accepts it, answers OK with its
fields and, when asked, the summary. Nothing else changes but the queues, and the sticky flags that a summary carries.
DOCK_STATUS answers with the record of the part's role, and moves the counter that marks its free bytes (log 17). The
codes of the fields that chapter 11 leaves open are the model's choices (logs 18, 22, 56, 65, 67, 76 and 80). -/
def Obligations.StatusRequestsAnswer : Prop :=
  (∀ (c : Instr) (code : Nat) (roles : List Role) (fields : State → List Byte) (s : State) (kind : Byte)
    (rest : List HostFrame), Spec.statusRequest c = some (code, roles, fields) → s.ctl.role ∈ roles →
    Spec.Heads s code kind [] rest →
    exec c s = .next (settle (Spec.reply kind 0x00 (fields (beginTaking rest s)) (beginTaking rest s)))) ∧
  (∀ (s : State) (kind : Byte) (rest : List HostFrame), Spec.Heads s 0x28 kind [] rest →
    let b := beginTaking rest s
    exec .dockStatus s = .next (settle (Spec.reply kind 0x00
      (if s.ctl.role = .dock then dockStatusFields b else stickStatusFields b) { b with freeCount := b.freeCount + 1 })))

/-- CLEAR_FAULTS empties the ring and answers OK; the next sequence number and FAULT_NEW keep their values. CLEAR_CAUSE
clears the flags its mask selects and answers OK; a mask with a bit above the four flags is OUT_OF_RANGE. A payload of
another length is BAD_LENGTH at both. -/
def Obligations.ClearRequestsClear : Prop :=
  ∀ (s : State) (kind : Byte) (rest : List HostFrame) (p : List Byte),
    let b := beginTaking rest s
    (Spec.Heads s 0x06 kind p rest → p = [] → exec .clearFaults s
      = .next (settle (Spec.reply kind 0x00 [] { b with ctl := { b.ctl with ring := [] } }))) ∧
    (Spec.Heads s 0x06 kind p rest → p ≠ [] → exec .clearFaults s = .next (settle (Spec.reply kind 0x12 [] b))) ∧
    (Spec.Heads s 0x07 kind p rest → ∀ m : Byte, p = [m] → m.toNat < 16 → exec .clearCause s
      = .next (settle (Spec.reply kind 0x00 []
      { b with ctl := { b.ctl with cause :=
          { powerOn := b.ctl.cause.powerOn && !m.getLsbD 0, pin := b.ctl.cause.pin && !m.getLsbD 1,
            request := b.ctl.cause.request && !m.getLsbD 2, shipWake := b.ctl.cause.shipWake && !m.getLsbD 3,
            lastKind := b.ctl.cause.lastKind } } }))) ∧
    (Spec.Heads s 0x07 kind p rest → ∀ m : Byte, p = [m] → 16 ≤ m.toNat → exec .clearCause s
      = .next (settle (Spec.reply kind 0x14 [] b))) ∧
    (Spec.Heads s 0x07 kind p rest → p.length ≠ 1 → exec .clearCause s = .next (settle (Spec.reply kind 0x12 [] b)))

/-! ### Suction drive and roll drive -/

/-- SET_SUCTION. With a mode other than OFF it is DENIED in FAULT, while the stick session is not DETACHED, and without the
discharge permission; in OFF it starts ALIGN with the host as owner; in COAST it begins a catch at 20,000 rpm or more
after a recorded exit from RUN, leaves one in progress, and else waits as start_pending; while the drive drives it sets
the mode alone, and a floor calibration that held the drive ends and leaves it to the host in its state. OFF in RUN
coasts, ends the roll and holds the PI state at 0; in ALIGN and RAMP it coasts; in COAST it ends a waiting start, a
retry and a catch; in FAULT it releases the drive, which enters OFF at once below 3,000 rpm or with the fault timer
expired; and it ends a floor calibration. A latched roll drive is released with it. An unnamed mode is OUT_OF_RANGE,
another length BAD_LENGTH. -/
def Obligations.SetSuctionActs : Prop :=
  (∀ (s : State) (kind : Byte) (rest : List HostFrame) (mode : SuctionMode),
    Spec.Heads s 0x10 kind [BitVec.ofNat 8 (suctionModeCode mode)] rest → s.ctl.role = .stick → mode ≠ .off →
    let b := beginTaking rest s
    (s.drive.state = .fault ∨ s.stick.state ≠ .detached ∨ s.prot.dischargeOk = false →
      exec .setSuction s = .next (settle (Spec.reply kind 0x16 [] b))) ∧
    (s.stick.state = .detached → s.prot.dischargeOk = true → s.debris.cal = none →
      (s.drive.state = .off → ∃ u, exec .setSuction s = .next (settle (Spec.reply kind 0x00 [] u)) ∧ Spec.LeavesAs
        { b with pack := { b.pack with balance := [] }
                 drive := { s.drive with
                              mode := mode, owner := .host, attempts := 0, state := .align, step := 0, duty := 330,
                              ring := [], xref := none, speed := none, heldDuty := none, forcedPeriod := none,
                              forcedIn := none, commIn := none, startPending := false, retryPending := false,
                              lastRunDuty := 0, speedAtStop := none, alignTimer := some (s.ctl.partTime + 40),
                              coastTimer := none, crossTimer := none, faultTimer := none,
                              enteredAt := s.ctl.partTime } } u) ∧
      (s.drive.state = .coast →
        let fast : Prop := s.drive.speedAtStop.isSome = true ∧ ∃ v, s.drive.speed = some v ∧ 20000 ≤ v
        let started : Drive := { s.drive with mode := mode, owner := .host, attempts := 0, retryPending := false }
        ∃ u, exec .setSuction s = .next (settle (Spec.reply kind 0x00 [] u)) ∧
          (s.drive.catchCount.isSome = true → Spec.LeavesAs { b with drive := started } u) ∧
          (s.drive.catchCount = none → fast →
            Spec.LeavesAs { b with drive := { started with catchCount := some 0, ring := [], speed := none } } u) ∧
          (s.drive.catchCount = none → ¬ fast →
            Spec.LeavesAs { b with drive := { started with startPending := true } } u)) ∧
      (s.drive.state.drives = true → exec .setSuction s
        = .next (settle (Spec.reply kind 0x00 [] { b with drive := { s.drive with mode := mode } })))) ∧
    (s.stick.state = .detached → s.prot.dischargeOk = true → s.debris.cal.isSome = true → s.drive.state.drives = true →
      ∃ u, exec .setSuction s = .next (settle (Spec.reply kind 0x00 [] u)) ∧ Spec.LeavesAs
        { b with drive := { s.drive with mode := mode, owner := .host }, gov := { b.gov with pHold := none }
                 debris := if s.drive.state = .run then { s.debris with cal := none, s := 0, d := none,
                                                                        dirtyLogged := false }
                   else { s.debris with cal := none } } u)) ∧
  (∀ (s : State) (kind : Byte) (rest : List HostFrame), Spec.Heads s 0x10 kind [0x00] rest → s.ctl.role = .stick →
    s.drive.state = .run → s.drive.owner = .host → s.debris.cal = none →
    ∃ u, exec .setSuction s = .next (settle (Spec.reply kind 0x00 [] u)) ∧
      u.drive = { s.drive with
        mode := .off, owner := .none, state := .coast, duty := 0, lastRunDuty := s.drive.duty,
        speedAtStop := s.drive.speed, blocked := false, missCount := 0, zeroGrant := 0, heldDuty := none,
        forcedPeriod := none, forcedIn := none, commIn := none, startPending := false, retryPending := false,
        alignTimer := none, rampTimer := none, coastTimer := some (s.ctl.partTime + 3000),
        crossTimer := some (s.ctl.partTime + 100), enteredAt := s.ctl.partTime } ∧
      u.gov = { s.gov with a := 0, residue := 0, prev := 0, pHold := none } ∧ u.roll.state = .off ∧
      u.debris = { s.debris with windowTimer := none, c := 0 } ∧ u.pack.q = s.pack.q ∧ u.prot = s.prot ∧
      u.att = s.att ∧ u.stick = s.stick ∧ u.store = s.store ∧ u.evacSet = s.evacSet) ∧
  (∀ (s : State) (kind : Byte) (rest : List HostFrame), Spec.Heads s 0x10 kind [0x00] rest → s.ctl.role = .stick →
    let b := beginTaking rest s
    let now := s.ctl.partTime
    let roll : Roll := if s.roll.state = .jamLatched ∨ s.roll.state = .fault then
      { s.roll with state := .off, appliedDuty := 0, jamTimer := none, waitTimer := none, faultCause := none,
                    jamCount := 0, enteredAt := now } else s.roll
    let slow : Prop := s.drive.faultTimer = none ∨ ∃ v, s.drive.speed = some v ∧ v < 3000
    let coasting : Drive := { s.drive with
      mode := .off, owner := .none, state := .coast, duty := 0, missCount := 0, zeroGrant := 0, heldDuty := none,
      forcedPeriod := none, forcedIn := none, commIn := none, startPending := false, retryPending := false,
      alignTimer := none, rampTimer := none, coastTimer := some (now + 3000), crossTimer := some (now + 100),
      enteredAt := now }
    ∃ u, exec .setSuction s = .next (settle (Spec.reply kind 0x00 [] u)) ∧
      (s.debris.cal = none → s.drive.state = .off →
        Spec.LeavesAs { b with roll := roll, drive := { s.drive with mode := .off } } u) ∧
      (s.debris.cal = none → s.drive.owner = .host → s.drive.state = .align ∨ s.drive.state = .ramp →
        Spec.LeavesAs { b with roll := roll, drive := coasting } u) ∧
      (s.debris.cal = none → s.drive.owner = .host → s.drive.state = .coast → Spec.LeavesAs
        { b with roll := roll, drive := { s.drive with mode := .off, owner := .none, startPending := false,
                                                       retryPending := false, catchCount := none,
                                                       speedAtStop := none } } u) ∧
      (s.debris.cal = none → s.drive.owner = .host → s.drive.state = .fault →
        (s.drive.released ≠ some true → slow → Spec.LeavesAs
          { b with roll := roll, drive := { Spec.offDrive s with mode := .off, catchCount := none, startPending := false,
                                                                 retryPending := false } } u) ∧
        (s.drive.released = some true ∨ ¬ slow → Spec.LeavesAs
          { b with roll := roll, drive := { s.drive with mode := .off, owner := .none, released := some true } } u)) ∧
      (s.debris.cal.isSome = true → u.debris.cal = none ∧ u.gov.pHold = none ∧ u.drive.mode = .off ∧ u.prot = s.prot ∧
        (s.drive.state = .align ∨ s.drive.state = .ramp → Spec.LeavesAs
          { b with roll := roll, drive := coasting, debris := { s.debris with cal := none },
                   gov := { b.gov with pHold := none } } u) ∧
        (s.drive.state = .run → u.drive.state = .coast ∧ u.drive.owner = .none ∧ u.drive.duty = 0 ∧
          u.drive.lastRunDuty = s.drive.duty ∧ u.drive.speedAtStop = s.drive.speed ∧ u.debris.windowTimer = none))) ∧
  (∀ (s : State) (kind : Byte) (p : List Byte) (rest : List HostFrame), Spec.Heads s 0x10 kind p rest →
    s.ctl.role = .stick →
    (p.length ≠ 1 → exec .setSuction s = .next (settle (Spec.reply kind 0x12 [] (beginTaking rest s)))) ∧
    (∀ m : Byte, p = [m] → 4 < m.toNat →
      exec .setSuction s = .next (settle (Spec.reply kind 0x14 [] (beginTaking rest s)))))

/-- A start, from ALIGN on. The align timer enters RAMP, which commutates at once and schedules a commutation 50,000
ticks later; each forced commutation shortens the period to no less than 5,000 ticks. In RAMP a first crossing becomes
the reference; a crossing outside the window of the forced period changes nothing, one within it is counted, and the
twelfth in a row enters RUN with the duty of 410; a window that expires clears the count. The entry to RUN starts the window
timer of the debris sensor with 50 ms, and the band timer of a floor calibration with 3,000 ms, which then seeks; in DOCK
role it starts the duration timer of a run that spins. The ramp timer ends the attempt: COAST with a retry, and at the third
START_FAIL. A timer's command acts while that timer runs, due or not (log
4), a crossing sets the capture timer (log 6), a crossing beyond the window is ignored (log 7), the first reference in RAMP
has a p_ref of 0 (log 62), a START_FAIL whose run request is gone stays in FAULT, released (log 13), and S becomes 0 and D
ABSENT at the entry to RUN of a floor calibration too, where a worked sequence of section 4.5 keeps them (DEDUCED, log 43):
the model's choices. -/
def Obligations.StartSequenceRuns : Prop :=
  ∀ s : State, s.ctl.power ≠ .ship →
    (s.drive.state = .align → s.drive.alignTimer.isSome = true → ∃ t, exec .alignTimerExpiry s = .next t ∧ Spec.LeavesAs
      { s with drive := { s.drive with
                            state := .ramp, duty := 410, forcedPeriod := some 50000, forcedIn := some 50000,
                            step := (s.drive.step + 1) % 6, xref := none, validCount := 0, alignTimer := none,
                            rampTimer := some (s.ctl.partTime + 1500), enteredAt := s.ctl.partTime } } t) ∧
    (s.drive.state = .ramp →
      (∀ p, s.drive.forcedPeriod = some p → s.drive.forcedIn.isSome = true →
        exec .forcedCommutation s = .next (settle
          { s with drive := { s.drive with step := (s.drive.step + 1) % 6, forcedPeriod := some (max 5000 (p - p / 64)),
                                           forcedIn := some (max 5000 (p - p / 64)) } })) ∧
      (∀ ts, s.drive.xref = none → exec (.zeroCrossing ts) s
        = .next (settle { s with drive := { s.drive with captureTimer := ts, xref := some ⟨ts, 0⟩ } })) ∧
      (∀ ts ref p, s.drive.xref = some ref → s.drive.forcedPeriod = some p →
        let interval := (ts - ref.tRef).toNat
        let ring := Spec.ringWith s.drive.ring interval
        let counted : Drive :=
          { s.drive with captureTimer := ts, ring := ring, xref := some ⟨ts, interval⟩, speed := Spec.speedOf ring,
                         validCount := s.drive.validCount + 1 }
        (interval < 3 * p / 4 ∨ 5 * p / 4 < interval → exec (.zeroCrossing ts) s
          = .next (settle { s with drive := { s.drive with captureTimer := ts } })) ∧
        (3 * p / 4 ≤ interval → interval ≤ 5 * p / 4 → 0 < ring.sum → s.drive.validCount < 11 →
          exec (.zeroCrossing ts) s = .next (settle { s with drive := counted })) ∧
        (3 * p / 4 ≤ interval → interval ≤ 5 * p / 4 → 0 < ring.sum → 11 ≤ s.drive.validCount →
          ∃ t, exec (.zeroCrossing ts) s = .next t ∧
            t.drive = { counted with
              state := .run, duty := 410, heldDuty := none, attempts := 0, missCount := 0, zeroGrant := 0,
              blocked := false, stallTimer := none, overTimer := none, blockTimer := none, catchCount := none,
              forcedPeriod := none, forcedIn := none, rampTimer := none, coastTimer := none, crossTimer := none,
              commIn := some (interval / 2), enteredAt := s.ctl.partTime } ∧
            t.gov.a = 410 * 65536 ∧ t.gov.residue = 0 ∧ t.gov.prev = 410 ∧ t.pack.balance = [] ∧
            t.pack.q = s.pack.q ∧ t.prot = s.prot ∧ t.roll = s.roll ∧ t.stick = s.stick ∧ t.store = s.store ∧
            Spec.RunStarts s t)) ∧
      (∀ ref, s.drive.xref = some ref → exec .crossingWindowExpiry s
        = .next (settle { s with drive := { s.drive with xref := none, validCount := 0 } })) ∧
      (s.drive.rampTimer.isSome = true → s.drive.attempts < 2 → ∃ t, exec .rampTimerExpiry s = .next t ∧ Spec.LeavesAs
        { s with drive := { s.drive with
            attempts := s.drive.attempts + 1, retryPending := true, state := .coast, duty := 0, missCount := 0,
            zeroGrant := 0, heldDuty := none, forcedPeriod := none, forcedIn := none, commIn := none, alignTimer := none,
            rampTimer := none, coastTimer := some (s.ctl.partTime + 3000), crossTimer := some (s.ctl.partTime + 100),
            enteredAt := s.ctl.partTime } } t) ∧
      (s.drive.rampTimer.isSome = true → s.drive.attempts = 2 →
        ∃ t, exec .rampTimerExpiry s = .next t ∧ Spec.Faulted s t .startFail .startFail (.num 3) none))

/-- RUN. A valid crossing enters the ring, sets the reference and the speed, clears the miss count and schedules the
commutation half an interval later; with a speed that meets no condition nothing else changes. A crossing before the
window changes nothing. The commutation advances the step and applies the held duty; so does a miss, which moves the
reference by its period; the fourth miss in a row is a DESYNC fault. A timer's command acts while that timer runs, due
or not: the model's choice (log 4). A crossing sets the capture timer (log 6), the DESYNC entry holds the step after the
miss (log 15), a miss keeps a commutation that is scheduled (log 41), and a fault whose run request is gone stays in
FAULT, released (log 13): the model's choices. -/
def Obligations.RunIsTimed : Prop :=
  ∀ s : State, s.ctl.power ≠ .ship → s.drive.state = .run →
    (∀ ts ref, s.drive.xref = some ref →
      let interval := (ts - ref.tRef).toNat
      let ring := Spec.ringWith s.drive.ring interval
      (interval < 3 * ref.pRef / 4 → exec (.zeroCrossing ts) s
        = .next (settle { s with drive := { s.drive with captureTimer := ts } })) ∧
      (3 * ref.pRef / 4 ≤ interval → interval ≤ 5 * ref.pRef / 4 → 5 ≤ s.drive.ring.length → 0 < ring.sum →
        15000 ≤ 600000000 / ring.sum → 600000000 / ring.sum < speedMax s.ctl.role - 5000 →
        exec (.zeroCrossing ts) s = .next (settle { s with drive := { s.drive with
          captureTimer := ts, ring := ring, xref := some ⟨ts, interval⟩, speed := some (600000000 / ring.sum),
          missCount := 0, commIn := some (interval / 2), stallTimer := none, overTimer := none,
          blockTimer := none } }))) ∧
    (s.drive.commIn.isSome = true → exec .commutation s = .next (settle { s with drive := { s.drive with
      step := (s.drive.step + 1) % 6, duty := s.drive.heldDuty.getD s.drive.duty, heldDuty := none, commIn := none } })) ∧
    (∀ ref, s.drive.xref = some ref →
      (s.drive.missCount < 3 → exec .crossingWindowExpiry s = .next (settle { s with drive := { s.drive with
        step := (s.drive.step + 1) % 6, duty := s.drive.heldDuty.getD s.drive.duty, heldDuty := none,
        xref := some ⟨ref.tRef + BitVec.ofNat 24 ref.pRef, ref.pRef⟩, missCount := s.drive.missCount + 1 } })) ∧
      (∀ v, s.drive.missCount = 3 → s.drive.speed = some v → v ≤ 300000 → ∃ t, exec .crossingWindowExpiry s = .next t ∧
        Spec.Faulted s t .desync .desync (.num (v / 10 : Nat)) (some (.num ((s.drive.step + 1) % 6 : Nat)))) ∧
      (s.drive.missCount = 3 → s.drive.speed = none → ∃ t, exec .crossingWindowExpiry s = .next t ∧
        Spec.Faulted s t .desync .desync .absent (some (.num ((s.drive.step + 1) % 6 : Nat)))))

/-- The faults of channel A. A bus current reading while the bridge drives joins the period's readings; above 45,000
mA it is an OVERCURRENT fault at once. At a valid crossing in RUN a speed below 15,000 rpm that has held for 100 ms is
a STALL fault, and one above speed_max + 8,000 rpm that has held for 50 ms an OVERSPEED fault; one of at least speed_max −
5,000 rpm starts the blocked timer, and when it has held for 2 s sets blocked, at which a run of the dock ends BLOCKED and
its fan coasts. With the bridge off a bus current reading is not compared and changes nothing. After the end DONE of a run
of the fan, a DESYNC at the fourth miss and a STALL or OVERSPEED that has held for its time, taken at the same instant,
still enter FAULT (DEDUCED, log 59). A window's expiry acts while the window runs, due or not (log 4), a reading that is
not compared joins no period's readings (log 5), a crossing sets the capture timer (log 6), a reading that is no number
adds 0 to the sum (log 12), the DESYNC entry holds the step after the miss (log 15), OVERSPEED comes before blocked where
both qualify (log 53), the timer of a condition that has qualified is kept (log 48), and a fault whose run request is gone
stays in FAULT, released (log 13): the model's choices. -/
def Obligations.DriveFaultsAreTaken : Prop :=
  (∀ s : State, s.ctl.power ≠ .ship → s.drive.state.drives = true →
    (∀ n : Nat, n ≤ 45000 → exec (.busCurrentReading (.num n)) s = .next (settle { s with gov := { s.gov with
      busSamples := ⟨s.gov.busSamples.sum + n, s.gov.busSamples.count + 1, s.gov.busSamples.above⟩ } })) ∧
    (∀ r : Reading, r = .below ∨ r = .absent ∨ (∃ n : Int, r = .num n ∧ n < 0) → exec (.busCurrentReading r) s
      = .next (settle { s with gov := { s.gov with
          busSamples := ⟨s.gov.busSamples.sum, s.gov.busSamples.count + 1, s.gov.busSamples.above⟩ } })) ∧
    (∀ r : Reading, r = .above ∨ (∃ n : Int, r = .num n ∧ 45000 < n) →
      ∃ t, exec (.busCurrentReading r) s = .next t ∧
        Spec.Faulted s t .overcurrent .overcurrent .above (some (.num (driveStateCode s.drive.state))))) ∧
  (∀ (s : State) (r : Reading), s.drive.state.drives = false → exec (.busCurrentReading r) s = .next s) ∧
  (∀ (s : State) (ts : Ticks) (ref : CrossRef), s.ctl.power ≠ .ship → s.drive.state = .run → s.drive.xref = some ref →
    let interval := (ts - ref.tRef).toNat
    let ring := Spec.ringWith s.drive.ring interval
    let v := 600000000 / ring.sum
    3 * ref.pRef / 4 ≤ interval → interval ≤ 5 * ref.pRef / 4 → 5 ≤ s.drive.ring.length → 0 < ring.sum →
    (∀ t0, v < 15000 → s.drive.stallTimer = some t0 → 100 ≤ (s.ctl.partTime - t0).toNat →
      ∃ t, exec (.zeroCrossing ts) s = .next t ∧ Spec.Faulted s t .stall .stall (.num (v / 10 : Nat)) none) ∧
    (∀ t0, speedMax s.ctl.role + 8000 < v → v ≤ 300000 → s.drive.overTimer = some t0 →
      50 ≤ (s.ctl.partTime - t0).toNat →
      ∃ t, exec (.zeroCrossing ts) s = .next t ∧ Spec.Faulted s t .overspeed .overspeed (.num (v / 10 : Nat)) none) ∧
    (speedMax s.ctl.role - 5000 ≤ v → v ≤ speedMax s.ctl.role + 8000 →
      let d : Drive := { s.drive with
        captureTimer := ts, ring := ring, xref := some ⟨ts, interval⟩, speed := some v, missCount := 0,
        commIn := some (interval / 2), stallTimer := none, overTimer := none,
        blockTimer := some (s.drive.blockTimer.getD s.ctl.partTime) }
      let held : Prop := ∃ t0, s.drive.blockTimer = some t0 ∧ 2000 ≤ (s.ctl.partTime - t0).toNat
      (¬ held ∨ s.drive.blocked = true → exec (.zeroCrossing ts) s = .next (settle { s with drive := d })) ∧
      (held → s.drive.blocked = false →
        (s.ctl.role = .stick → ∃ t, exec (.zeroCrossing ts) s = .next t ∧
          Spec.LeavesAs { s with drive := { d with blocked := true } } t) ∧
        (s.ctl.role = .dock → s.evac.phase ≠ .none → ∃ t, exec (.zeroCrossing ts) s = .next t ∧
          t.evac.phase = .none ∧ t.evac.lastResult = some .blocked ∧ t.evac.lastKind = s.evac.kind ∧
          t.evac.lastEnd = some s.ctl.partTime ∧ t.evac.durationTimer = none ∧ t.drive.state = .coast ∧
          t.drive.owner = .none ∧ t.drive.duty = 0 ∧ t.drive.lastRunDuty = s.drive.duty ∧
          t.drive.speedAtStop = some v)))) ∧
  (∀ (s : State) (misses : Nat), s.ctl.power ≠ .ship → s.missesAtEnd = some misses →
    (∀ (ref : CrossRef) (v : Nat), misses = 3 → s.drive.xref = some ref → s.drive.speed = some v → v ≤ 300000 →
      ∃ t, exec .crossingWindowExpiry s = .next t ∧ Spec.Faulted s t .desync .desync (.num (v / 10 : Nat))
        (some (.num ((s.drive.step + 1) % 6 : Nat))) ∧ t.evac = s.evac) ∧
    (∀ (ref : CrossRef) (ts : Ticks), s.drive.xref = some ref →
      let interval := (ts - ref.tRef).toNat
      let ring := Spec.ringWith s.drive.ring interval
      let v := 600000000 / ring.sum
      3 * ref.pRef / 4 ≤ interval → interval ≤ 5 * ref.pRef / 4 → 5 ≤ s.drive.ring.length → 0 < ring.sum →
      (∀ t0, v < 15000 → s.drive.stallTimer = some t0 → 100 ≤ (s.ctl.partTime - t0).toNat →
        ∃ t, exec (.zeroCrossing ts) s = .next t ∧ Spec.Faulted s t .stall .stall (.num (v / 10 : Nat)) none ∧
          t.evac = s.evac) ∧
      (∀ t0, speedMax s.ctl.role + 8000 < v → v ≤ 300000 → s.drive.overTimer = some t0 →
        50 ≤ (s.ctl.partTime - t0).toNat → ∃ t, exec (.zeroCrossing ts) s = .next t ∧
          Spec.Faulted s t .overspeed .overspeed (.num (v / 10 : Nat)) none ∧ t.evac = s.evac)))

/-- The ends of COAST and FAULT. The coast timer, the crossing timer and, once released, the fault timer lead to OFF, with
the drive at rest and no owner; a start that waits in COAST, or a catch that the exit ends, goes on to ALIGN where the
start conditions hold, and is else given up. During a catch a crossing before the window changes nothing, a valid one
enters the ring and is counted, and a miss moves the reference by its period and counts from 0 again, with no commutation.
The sixth valid crossing of a catch at 20,000 rpm or more enters RUN with the duty scaled by the speeds, within duty_max,
and starts the window timer, and the timer of a floor calibration or of a run that spins, as any entry to RUN does; below
20,000 rpm it ends the catch with a start that waits. A crossing of a catch that leaves the speed below 3,000 rpm ends in
OFF. With the bridge off and no catch, a crossing without a reference becomes it; one within three quarters of the
reference period changes nothing; an accepted one advances the step and enters the ring, and in COAST restarts the
crossing timer. After a judged crossing with the speed below 3,000 rpm, COAST and a released FAULT go to OFF. The premise
on the end of a run leaves out a crossing that can fault a fan at the instant of its run's end DONE, of which
DriveFaultsAreTaken speaks. A timer's command acts while that timer runs, due or not (log 4), a crossing sets the capture
timer (log 6), the step follows the rotor and the crossing timer restarts at a valid crossing of a catch (DEDUCED, log
14), S becomes 0 and D ABSENT at the entry to RUN of a floor calibration too, where a worked sequence of section 4.5 keeps
them (DEDUCED, log 43), and an ignored crossing makes no exit, while one that becomes the first reference does (DEDUCED,
log 61): the model's choices. -/
def Obligations.CoastAndFaultEnd : Prop :=
  (∀ s : State, s.ctl.power ≠ .ship → s.drive.startPending = false → s.drive.retryPending = false →
    s.drive.catchCount = none →
    (s.drive.state = .coast → s.drive.coastTimer.isSome = true →
      ∃ t, exec .coastTimerExpiry s = .next t ∧ Spec.LeavesAs { s with drive := Spec.offDrive s } t) ∧
    (s.drive.state = .coast → s.drive.crossTimer.isSome = true →
      ∃ t, exec .crossingTimerExpiry s = .next t ∧ Spec.LeavesAs { s with drive := Spec.offDrive s } t) ∧
    (s.drive.state = .fault → s.drive.faultTimer.isSome = true → s.drive.released = some true →
      ∃ t, exec .faultTimerExpiry s = .next t ∧ Spec.LeavesAs { s with drive := Spec.offDrive s } t) ∧
    (s.drive.state = .fault → s.drive.faultTimer.isSome = true → s.drive.released ≠ some true →
      exec .faultTimerExpiry s = .next (settle { s with drive := { s.drive with faultTimer := none } }))) ∧
  (∀ (s : State) (c : Instr), s.ctl.power ≠ .ship → s.ctl.role = .stick → s.drive.state = .coast →
    (c = .coastTimerExpiry ∧ s.drive.coastTimer.isSome = true ∨
      c = .crossingTimerExpiry ∧ s.drive.crossTimer.isSome = true) →
    s.drive.startPending = true ∨ s.drive.retryPending = true ∨ s.drive.catchCount.isSome = true → s.drive.owner = .host →
    let startOk : Prop := s.drive.mode ≠ .off ∧ s.stick.state = .detached ∧ s.prot.dischargeOk = true ∧ s.debris.cal = none
    (startOk → ∃ t, exec c s = .next t ∧ t.drive.state = .align ∧ t.drive.step = 0 ∧ t.drive.duty = 330 ∧
      t.drive.owner = .host ∧ t.drive.attempts = s.drive.attempts ∧ t.drive.startPending = false ∧
      t.drive.retryPending = false ∧ t.drive.catchCount = none ∧ t.drive.alignTimer = some (s.ctl.partTime + 40)) ∧
    (¬ startOk → ∃ t, exec c s = .next t ∧ Spec.LeavesAs { s with drive :=
      { Spec.offDrive s with catchCount := none, startPending := false, retryPending := false } } t)) ∧
  (∀ (s : State) (ts : Ticks) (ref : CrossRef) (n : Nat), s.ctl.power ≠ .ship → s.drive.state = .coast →
    s.drive.catchCount = some n → s.drive.xref = some ref →
    let interval := (ts - ref.tRef).toNat
    let ring := Spec.ringWith s.drive.ring interval
    let step := (s.drive.step + 1) % 6
    let counted : Drive :=
      { s.drive with captureTimer := ts, ring := ring, xref := some ⟨ts, interval⟩, speed := Spec.speedOf ring,
                     missCount := 0, step := step, catchCount := some (n + 1),
                     crossTimer := some (s.ctl.partTime + 100) }
    (interval < 3 * ref.pRef / 4 → exec (.zeroCrossing ts) s
      = .next (settle { s with drive := { s.drive with captureTimer := ts } })) ∧
    (3 * ref.pRef / 4 ≤ interval → interval ≤ 5 * ref.pRef / 4 → 0 < ring.sum →
      (n < 5 → (∀ v, Spec.speedOf ring = some v → 3000 ≤ v) →
        exec (.zeroCrossing ts) s = .next (settle { s with drive := counted })) ∧
      (5 ≤ n → (∀ v, Spec.speedOf ring = some v → 3000 ≤ v ∧ v < 20000) → exec (.zeroCrossing ts) s
        = .next (settle { s with drive := { counted with catchCount := none, startPending := true } })) ∧
      (∀ v, Spec.speedOf ring = some v → v < 3000 → s.ctl.role = .stick → s.prot.dischargeOk = false →
        ∃ t, exec (.zeroCrossing ts) s = .next t ∧ Spec.LeavesAs { s with drive :=
          { Spec.offDrive s with captureTimer := ts, step := step, catchCount := none, startPending := false,
                                 retryPending := false } } t)) ∧
    exec .crossingWindowExpiry s = .next (settle { s with drive := { s.drive with
      xref := some ⟨ref.tRef + BitVec.ofNat 24 ref.pRef, ref.pRef⟩, catchCount := some 0 } })) ∧
  (∀ (s : State) (ts : Ticks) (ref : CrossRef) (last : Nat), s.ctl.power ≠ .ship → s.drive.state = .coast →
    s.drive.catchCount = some 5 → s.drive.xref = some ref → s.drive.speedAtStop = some last →
    let interval := (ts - ref.tRef).toNat
    let ring := Spec.ringWith s.drive.ring interval
    let duty := min s.gov.limits.dutyMax (s.drive.lastRunDuty * (600000000 / ring.sum) / last)
    3 * ref.pRef / 4 ≤ interval → interval ≤ 5 * ref.pRef / 4 → 5 ≤ s.drive.ring.length → 0 < ring.sum →
    20000 ≤ 600000000 / ring.sum → 0 < last →
    ∃ t, exec (.zeroCrossing ts) s = .next t ∧ t.drive.state = .run ∧ t.drive.duty = duty ∧ t.gov.prev = duty ∧
      t.gov.a = duty * 65536 ∧ t.drive.catchCount = none ∧ t.drive.attempts = 0 ∧
      t.drive.commIn = some (interval / 2) ∧ t.pack.balance = [] ∧ Spec.RunStarts s t) ∧
  (∀ (s : State) (ts : Ticks), s.ctl.power ≠ .ship → s.drive.startPending = false → s.drive.retryPending = false →
    s.drive.catchCount = none →
    s.drive.state = .coast ∨ s.drive.state = .fault →
    (s.missesAtEnd.isSome = true → s.drive.stallTimer = none ∧ s.drive.overTimer = none) →
    let leaves : Prop := s.drive.state = .coast ∨ s.drive.released = some true
    let slow (speed : Option Nat) : Prop := ∃ v, speed = some v ∧ v < 3000
    (s.drive.xref = none →
      (leaves → slow s.drive.speed → ∃ t, exec (.zeroCrossing ts) s = .next t ∧
        Spec.LeavesAs { s with drive := { Spec.offDrive s with captureTimer := ts } } t) ∧
      (¬ leaves ∨ ¬ slow s.drive.speed → exec (.zeroCrossing ts) s = .next (settle
        { s with drive := { s.drive with captureTimer := ts, xref := some ⟨ts, 0⟩ } }))) ∧
    (∀ ref, s.drive.xref = some ref →
      let interval := (ts - ref.tRef).toNat
      let ring := Spec.ringWith s.drive.ring interval
      let step := (s.drive.step + 1) % 6
      let crossTimer := if s.drive.state = .coast then some (s.ctl.partTime + 100) else s.drive.crossTimer
      (interval < 3 * ref.pRef / 4 → exec (.zeroCrossing ts) s
        = .next (settle { s with drive := { s.drive with captureTimer := ts } })) ∧
      (3 * ref.pRef / 4 ≤ interval → interval ≤ 1000000 → 0 < ring.sum →
        (leaves → slow (Spec.speedOf ring) → ∃ t, exec (.zeroCrossing ts) s = .next t ∧
          Spec.LeavesAs { s with drive := { Spec.offDrive s with captureTimer := ts, step := step } } t) ∧
        (¬ leaves ∨ ¬ slow (Spec.speedOf ring) → exec (.zeroCrossing ts) s = .next (settle { s with drive :=
          { s.drive with captureTimer := ts, step := step, ring := ring, xref := some ⟨ts, interval⟩,
                         speed := Spec.speedOf ring, crossTimer := crossTimer } }))) ∧
      (3 * ref.pRef / 4 ≤ interval → 1000000 < interval → exec (.zeroCrossing ts) s = .next (settle { s with drive :=
        { s.drive with captureTimer := ts, step := step, ring := [], xref := some ⟨ts, 0⟩, speed := none,
                       crossTimer := crossTimer } }))))

/-- The roll drive. A reading of its current while channel B drives joins the period's readings, and above 8,000 mA, or
ABOVE, is a SHORT at once: FAULT with its entry, nothing else touched. The wait timer of a jam leads from JAM_WAIT to
SPINUP. ROLL_RESTART releases JAM_LATCHED or FAULT to OFF with the jam count 0, and is else DENIED. At a governor period
in STICK role the roll takes the mean of its readings, and while the drive stays in RUN the hand-over of the roll grant
and the roll duty. At a hand-over with the run condition, OFF goes to SPINUP; SPINUP applies the granted duty × t / 200
until t is 200 ms, and then enters RUN with the granted duty and no jam test; RUN applies the granted duty, sets the jam
timer when a jam begins, clears it when none holds, and clears the jam count after 10 s, before the jam test (DEDUCED, log
44). Without the run condition a roll that runs goes to OFF with its jam count kept. A jam that has held for 100 ms enters
JAM_WAIT for 2 s, and at a count of 2 JAM_LATCHED with its entry, which names the index of the entry in force. A timer's
command acts while that timer runs, due or not (log 4), and a reading that is no number adds 0 to the sum (log 12): the
model's choices. -/
def Obligations.RollActs : Prop :=
  (∀ s : State, s.ctl.power ≠ .ship → s.roll.state.drives = true →
    (∀ n : Nat, n ≤ 8000 → exec (.rollCurrentReading (.num n)) s = .next (settle { s with gov := { s.gov with
      rollSamples := ⟨s.gov.rollSamples.sum + n, s.gov.rollSamples.count + 1, s.gov.rollSamples.above⟩ } })) ∧
    (∀ r : Reading, r = .below ∨ r = .absent ∨ (∃ n : Int, r = .num n ∧ n < 0) → exec (.rollCurrentReading r) s
      = .next (settle { s with gov := { s.gov with
          rollSamples := ⟨s.gov.rollSamples.sum, s.gov.rollSamples.count + 1, s.gov.rollSamples.above⟩ } })) ∧
    (∀ r v : Reading, (r = .above ∧ v = .above) ∨ (∃ n : Int, r = .num n ∧ 8000 < n ∧
        v = if 10000 < n then .above else .num n) → ∃ t, exec (.rollCurrentReading r) s = .next t ∧
      t.roll.state = .fault ∧ t.roll.appliedDuty = 0 ∧ t.roll.faultCause = some .short ∧ t.roll.jamTimer = none ∧
      t.roll.waitTimer = none ∧ t.roll.jamCount = s.roll.jamCount ∧ t.drive = s.drive ∧ Spec.PackKept s t ∧
      t.prot = s.prot ∧ Spec.Logged s t .channelB .rollShort v (some (.num (rollStateCode s.roll.state))))) ∧
  (∀ s : State, s.ctl.power ≠ .ship → s.roll.state = .jamWait → s.roll.waitTimer.isSome = true →
    exec .waitTimerExpiry s = .next (settle { s with roll := { s.roll with
      state := .spinup, appliedDuty := 0, waitTimer := none, enteredAt := s.ctl.partTime } })) ∧
  (∀ (s : State) (kind : Byte) (rest : List HostFrame), Spec.Heads s 0x26 kind [] rest → s.ctl.role = .stick →
    let b := beginTaking rest s
    (s.roll.state = .jamLatched ∨ s.roll.state = .fault →
      ∃ u, exec .rollRestart s = .next (settle (Spec.reply kind 0x00 [] u)) ∧ Spec.LeavesAs
        { b with roll := { s.roll with
                             state := .off, appliedDuty := 0, jamTimer := none, waitTimer := none,
                             faultCause := none, jamCount := 0, enteredAt := s.ctl.partTime } } u) ∧
    (s.roll.state ≠ .jamLatched → s.roll.state ≠ .fault →
      exec .rollRestart s = .next (settle (Spec.reply kind 0x16 [] b)))) ∧
  (∀ (s : State) (readings : List ChargerReadings), s.ctl.power ≠ .ship → s.gov.timer.isSome = true →
    s.ctl.role = .stick → ∃ t, exec (.governorPeriod readings) s = .next t ∧
      let mean : Reading :=
        if s.gov.rollSamples.above then .above else .num (s.gov.rollSamples.sum / s.gov.rollSamples.count : Nat)
      t.roll.current = mean ∧ t.roll.grant = t.gov.row2.grant ∧ t.roll.grantedDuty = t.gov.rollDuty ∧
      t.gov.rollSamples = ⟨0, 0, false⟩ ∧
      (t.drive.state = .run → t.debris.cal = none → t.roll
        = (rollHandOver t.gov.row2.grant t.gov.rollDuty { s with roll := { s.roll with current := mean } }).roll)) ∧
  (∀ (s : State) (grant duty : Nat),
    let wanted : Prop := s.drive.state = .run ∧ s.rollEntry = true ∧ 0 < grant ∧ s.debris.cal = none
    let handed : Roll := { s.roll with grant := grant, grantedDuty := duty }
    let t := (s.ctl.partTime - s.roll.enteredAt).toNat
    let jammed : Prop := s.roll.current = .above ∨ ∃ n, s.roll.current = .num n ∧ (s.jamLimit : Int) < n
    let ran : Roll := { handed with appliedDuty := duty, jamCount := if 10000 ≤ t then 0 else s.roll.jamCount }
    (wanted → s.roll.state = .off → rollHandOver grant duty s = { s with roll := { handed with
      state := .spinup, appliedDuty := 0, waitTimer := none, enteredAt := s.ctl.partTime } }) ∧
    (wanted → s.roll.state = .spinup → t < 200 →
      rollHandOver grant duty s = { s with roll := { handed with appliedDuty := duty * t / 200 } }) ∧
    (wanted → s.roll.state = .spinup → 200 ≤ t → rollHandOver grant duty s = { s with roll := { handed with
      state := .run, appliedDuty := duty, jamTimer := none, enteredAt := s.ctl.partTime } }) ∧
    (wanted → s.roll.state = .run → ¬ jammed →
      rollHandOver grant duty s = { s with roll := { ran with jamTimer := none } }) ∧
    (wanted → s.roll.state = .run → jammed → s.roll.jamTimer = none →
      rollHandOver grant duty s = { s with roll := { ran with jamTimer := some s.ctl.partTime } }) ∧
    (∀ t0, wanted → s.roll.state = .run → jammed → s.roll.jamTimer = some t0 → (s.ctl.partTime - t0).toNat < 100 →
      rollHandOver grant duty s = { s with roll := ran }) ∧
    (wanted → s.roll.state = .jamWait → rollHandOver grant duty s = { s with roll := handed }) ∧
    (¬ wanted → s.roll.state = .spinup ∨ s.roll.state = .run ∨ s.roll.state = .jamWait →
      rollHandOver grant duty s = { s with roll := { handed with
        state := .off, appliedDuty := 0, jamTimer := none, waitTimer := none, faultCause := none,
        enteredAt := s.ctl.partTime } }) ∧
    (¬ wanted ∧ s.roll.state = .off ∨ s.roll.state = .jamLatched ∨ s.roll.state = .fault →
      rollHandOver grant duty s = { s with roll := handed })) ∧
  (∀ (s : State) (grant duty index : Nat) (c : Reading) (t0 : Ms), s.roll.state = .run → s.drive.state = .run →
    s.rollEntry = true → s.att.result = .entry index → index < 8 → 0 < grant → s.debris.cal = none →
    s.roll.current = c → c = .above ∨ (∃ n : Int, c = .num n ∧ s.jamLimit < n ∧ n ≤ 10000) →
    s.roll.jamTimer = some t0 → 100 ≤ (s.ctl.partTime - t0).toNat →
    let count := if 10000 ≤ (s.ctl.partTime - s.roll.enteredAt).toNat then 0 else s.roll.jamCount
    (count < 2 → (rollHandOver grant duty s).roll.state = .jamWait ∧
      (rollHandOver grant duty s).roll.jamCount = count + 1 ∧
      (rollHandOver grant duty s).roll.appliedDuty = 0 ∧
      (rollHandOver grant duty s).roll.waitTimer = some (s.ctl.partTime + 2000)) ∧
    (count = 2 → (rollHandOver grant duty s).roll.state = .jamLatched ∧
      (rollHandOver grant duty s).roll.jamCount = 3 ∧ (rollHandOver grant duty s).roll.appliedDuty = 0 ∧
      (rollHandOver grant duty s).roll.waitTimer = none ∧
      Spec.Logged s (rollHandOver grant duty s) .channelB .rollJam c (some (.num index))))

/-! ### Settings -/

/-- The settings of both roles and of the dock, taken with keep 0. SET_MODE_POWER replaces the four powers, clamped into
20..500 W; AUTO_MAX below ECO is OUT_OF_RANGE. SET_LIMITS replaces the four limits, clamped, and a new discharge limit
computes the allowance again at once; it is LOCKED while the limit lock is set, and DENIED when it would lower duty_max
below the duty of a running motor or below prev. SET_DOCK_SUPPLY replaces the budget, clamped. The reply is CLAMPED when a
field was clamped, else OK. With keep 1 and a store operation in flight each is BUSY and changes nothing. -/
def Obligations.PowerSettingsTakeEffect : Prop :=
  ∀ (s : State) (kind : Byte) (rest : List HostFrame) (p : List Byte),
    let b := beginTaking rest s
    let asked : ModePowers := ⟨u16At p 0, u16At p 2, u16At p 4, u16At p 6⟩
    let powers : ModePowers := ⟨clampNat 20 500 (u16At p 0), clampNat 20 500 (u16At p 2), clampNat 20 500 (u16At p 4),
      clampNat 20 500 (u16At p 6)⟩
    let askedLimits : Limits := ⟨u16At p 0, u16At p 2, u16At p 4, u16At p 6⟩
    let limits : Limits := ⟨clampNat 5000 35000 (u16At p 0), clampNat 200 4000 (u16At p 2),
      clampNat 4000 4200 (u16At p 4), clampNat 1024 4032 (u16At p 6)⟩
    let lowers : Prop := s.drive.state = .run ∧ (limits.dutyMax < s.drive.duty ∨ limits.dutyMax < s.gov.prev)
    let budget := clampNat 60000 600000 (u32At p 0)
    (Spec.Heads s 0x12 kind p rest → p.length = 9 → settings16 [0, 2, 4, 6] p = true →
      (byteAt p 8 = 0 → powers.eco ≤ powers.autoMax → exec .setModePower s = .next (settle (Spec.reply kind
        (if powers = asked then 0x00 else 0x02) [] { b with gov := { s.gov with powers := powers } }))) ∧
      (powers.autoMax < powers.eco → exec .setModePower s = .next (settle (Spec.reply kind 0x14 [] b))) ∧
      (byteAt p 8 = 1 → powers.eco ≤ powers.autoMax → s.store.op.isSome = true →
        exec .setModePower s = .next (settle (Spec.reply kind 0x10 [] b)))) ∧
    (Spec.Heads s 0x13 kind p rest → p.length = 9 → settings16 [0, 2, 4, 6] p = true →
      (s.ctl.lock.isSome = true → exec .setLimits s = .next (settle (Spec.reply kind 0x17 [] b))) ∧
      (s.ctl.lock = none → byteAt p 8 ≤ 1 → lowers →
        exec .setLimits s = .next (settle (Spec.reply kind 0x16 [] b))) ∧
      (s.ctl.lock = none → byteAt p 8 = 1 → ¬ lowers → s.store.op.isSome = true →
        exec .setLimits s = .next (settle (Spec.reply kind 0x10 [] b))) ∧
      (s.ctl.lock = none → byteAt p 8 = 0 → ¬ lowers → ∃ u,
        exec .setLimits s = .next (settle (Spec.reply kind (if limits = askedLimits then 0x00 else 0x02) [] u)) ∧
        Spec.SameBlocks b u ∧ u.gov.limits = limits ∧ u.gov.powers = s.gov.powers ∧
        (limits.discharge = s.gov.limits.discharge → u.gov.allowance = s.gov.allowance) ∧
        (limits.discharge ≠ s.gov.limits.discharge → s.ctl.role = .stick →
          u.gov.allowance
            = some (allowanceOf limits.discharge (factorsOf s.pack.record) s.prot.dischargeOk)))) ∧
    (Spec.Heads s 0x2D kind p rest → p.length = 5 → s.ctl.role = .dock →
      (byteAt p 4 = 0 → exec .setDockSupply s = .next (settle (Spec.reply kind
        (if budget = u32At p 0 then 0x00 else 0x02) [] { b with charger := { s.charger with budget := budget } }))) ∧
      (byteAt p 4 = 1 → s.store.op.isSome = true →
        exec .setDockSupply s = .next (settle (Spec.reply kind 0x10 [] b))))

/-- SET_PACK sets the capacity, clamped into 500..10,000 mAh, and rescales Q by it. With keep 1, an idle store and room in
the active segment the write of the record begins; with an operation in flight the request is BUSY. With an invalid
CELLS strap a taken request sets the capacity and changes nothing else, whatever keep is. -/
def Obligations.SetPackRescales : Prop :=
  ∀ (s : State) (kind : Byte) (rest : List HostFrame) (p : List Byte), Spec.Heads s 0x19 kind p rest →
    s.ctl.role = .stick → p.length = 3 → u16At p 0 ≠ 0xFFFF →
    let b := beginTaking rest s
    let c := clampNat 500 10000 (u16At p 0)
    let code := if c = u16At p 0 then 0x00 else 0x02
    let pack : Pack := { b.pack with capacity := c, q := s.pack.q * c / s.pack.capacity }
    (s.ctl.cells ≠ 3 → byteAt p 2 = 0 →
      exec .setPack s = .next (settle (Spec.reply kind code [] { b with pack := pack }))) ∧
    (s.ctl.cells = 3 → byteAt p 2 = 0 ∨ (byteAt p 2 = 1 ∧ s.store.op = none) →
      exec .setPack s = .next (settle (Spec.reply kind code [] { b with pack := { b.pack with capacity := c } }))) ∧
    (∀ seg, s.ctl.cells ≠ 3 → byteAt p 2 = 1 → s.store.op = none → s.store.active = some seg → s.store.fits seg 2 = true →
      exec .setPack s = .next (settle (Spec.reply kind code []
        { b with pack := pack, store := { s.store with op := some ⟨.write, seg, 0x05, 0x19, u16 c, 0, 0⟩ } }))) ∧
    (byteAt p 2 = 1 → s.store.op.isSome = true → exec .setPack s = .next (settle (Spec.reply kind 0x10 [] b)))

/-- The settings of the stick's sensors, taken with keep 0. SET_DIRT_LEVELS replaces the seven settings, clamped, and
evaluates BIN_FULL; thresholds that do not rise strictly within 1..254 are OUT_OF_RANGE. CLEAR_BIN empties the bin load.
SET_EVACUATION replaces the four settings, clamped, and derives the stick's evacuation request. SET_ATTACHMENT replaces an
entry and matches the voltage in force again; an index of 8 or more is OUT_OF_RANGE. A class above 15 is clamped to 15,
with the result CLAMPED: DEDUCED (log 21). -/
def Obligations.SensorSettingsTakeEffect : Prop :=
  ∀ (s : State) (kind : Byte) (rest : List HostFrame) (p : List Byte),
    let b := beginTaking rest s
    let asked : DirtLevels :=
      ⟨byteAt p 0, byteAt p 1, byteAt p 2, byteAt p 3, byteAt p 4, byteAt p 5, u24At p 6⟩
    let levels : DirtLevels := { asked with hysteresis := min 32 (byteAt p 3),
                                            binThreshold := clampNat 10000 1000000 (u24At p 6) }
    let rising := 1 ≤ byteAt p 0 ∧ byteAt p 0 < byteAt p 1 ∧ byteAt p 1 < byteAt p 2 ∧ byteAt p 2 ≤ 254
    (Spec.Heads s 0x21 kind p rest → s.ctl.role = .stick → p.length = 10 → u24At p 6 < 1048576 → byteAt p 9 = 0 →
      (rising → ∃ u, exec .setDirtLevels s
          = .next (settle (Spec.reply kind (if levels = asked then 0x00 else 0x02) [] u)) ∧
        Spec.LeavesAs { b with debris := { s.debris with levels := levels,
                                                         binFull := decide (levels.binThreshold ≤ s.debris.b) } } u) ∧
      (¬ rising → exec .setDirtLevels s = .next (settle (Spec.reply kind 0x14 [] b)))) ∧
    (Spec.Heads s 0x22 kind [] rest → s.ctl.role = .stick → ∃ u,
      exec .clearBin s = .next (settle (Spec.reply kind 0x00 [] u)) ∧
      Spec.LeavesAs { b with debris := { s.debris with b := 0, binFull := decide (s.debris.levels.binThreshold ≤ 0) },
                             stick := { s.stick with evacRequest := Spec.wantsEvacuation s.evacSet 0 s.stick.binding } }
        u) ∧
    (∀ policy, Spec.Heads s 0x29 kind p rest → p.length = 9 → u32At p 1 < 1048576 → u16At p 6 ≠ 0xFFFF →
      byteAt p 0 = policyCode policy → byteAt p 8 = 0 →
      let asked : EvacSettings := ⟨policy, u32At p 1, byteAt p 5, u16At p 6⟩
      let e : EvacSettings :=
        ⟨policy, clampNat 10000 1000000 (u32At p 1), clampNat 2 30 (byteAt p 5), clampNat 100 400 (u16At p 6)⟩
      exec .setEvacuation s = .next (settle (Spec.reply kind (if e = asked then 0x00 else 0x02) []
        { b with evacSet := e,
                 stick := { s.stick with evacRequest := Spec.wantsEvacuation e s.debris.b s.stick.binding } }))) ∧
    (Spec.Heads s 0x25 kind p rest → s.ctl.role = .stick → p.length = 17 →
      settings16 [2, 4, 7, 9, 11, 13] p = true →
      let e : AttEntry := ⟨decide (byteAt p 1 = 1), min 3300 (u16At p 2), min 3300 (u16At p 4), min 15 (byteAt p 6),
        min 1000 (u16At p 7), min 5000 (u16At p 9), clampNat 500 6000 (u16At p 11), clampNat 20 500 (u16At p 13),
        decide (byteAt p 15 = 1)⟩
      let entries := s.att.entries.set (byteAt p 0) e
      (byteAt p 0 < 8 → byteAt p 1 ≤ 1 → byteAt p 15 ≤ 1 → byteAt p 16 = 0 → e.idLow ≤ e.idHigh →
        ∃ (u : State) (code : Nat), exec .setAttachment s = .next (settle (Spec.reply kind code [] u)) ∧
          (code = 0x00 ∨ code = 0x02) ∧ (code = 0x00 ↔ e = requestEntry p) ∧
          u.att.entries = entries ∧ u.att.candidate = none ∧ u.att.count = 0 ∧ u.att.voltage = s.att.voltage ∧
          (s.att.voltage = .absent → u.att.result = s.att.result) ∧
          (s.att.voltage ≠ .absent → u.att.result = resolveId entries s.att.voltage) ∧
          (u.att.result ≠ s.att.result → u.roll.jamCount = 0) ∧ u.drive = s.drive ∧ u.prot = s.prot ∧
          u.store = s.store ∧ u.debris = s.debris) ∧
      (8 ≤ byteAt p 0 → exec .setAttachment s = .next (settle (Spec.reply kind 0x14 [] b))))

/-! ### Power governor -/

/-- The AUTO power is ECO + floor((AUTO_MAX − ECO) × D / 255) mW: the ECO power at D = 0 and the AUTO_MAX power at 255. It
is the MED power while D is ABSENT, and while the match is a table entry whose auto_allowed is false. With a match of NONE
or UNKNOWN the formula applies, and UNKNOWN limits the demand to the ECO power. In RUN the D is the latest dirt index; what
the demand takes outside RUN is a clause of GovernorPeriodGrants. -/
def Obligations.AutoPowerFollowsDirt : Prop :=
  ∀ (s : State) (dirt : Option Nat), s.gov.powers.eco ≤ s.gov.powers.autoMax → s.drive.mode = .auto →
    let eco := s.gov.powers.eco * 1000
    let auto := modePower s.gov.powers s.drive.mode dirt s.autoFollows
    (dirt = none → auto = s.gov.powers.med * 1000) ∧
    (∀ i e, s.att.result = .entry i → s.att.entries[i]? = some e → e.autoAllowed = false →
      auto = s.gov.powers.med * 1000) ∧
    (∀ d, dirt = some d → s.att.result = .bare ∨ s.att.result = .unknown ∨
        (∃ i e, s.att.result = .entry i ∧ s.att.entries[i]? = some e ∧ e.autoAllowed = true) →
      auto = eco + (s.gov.powers.autoMax * 1000 - eco) * d / 255 ∧ eco ≤ auto ∧
      (d = 0 → auto = eco) ∧ (d = 255 → auto = s.gov.powers.autoMax * 1000)) ∧
    (s.att.result = .unknown → s.modeDemand ≤ eco) ∧
    (s.drive.state = .run → s.debris.d = dirt → s.modeDemand = min auto (min s.attachmentCap s.blockedCap))

/-- The duty step. The integrator takes Ki × e within its bound; d is the floor of the sum by 65,536; the clamps bring it
within 64 of prev and within 0..duty_max, in that order; then the PI state is settled. So the duty never exceeds duty_max,
and moves by at most 64 unless the lower slew bound is lifted, which only a discharge current above five quarters of the
allowance does, in STICK role. That a governor period in RUN makes this step is a clause of GovernorPeriodGrants. -/
def Obligations.DutyStepIsClamped : Prop :=
  (∀ (g : Gov) (e : Int) (lifted : Bool),
    let a := max (-268369920) (min 268369920 (g.a + g.ki * e))
    let u := g.kp * e + a + g.residue
    let d := u / 65536
    let upper := min d ((g.prev : Int) + 64)
    let slewed := if lifted then upper else max ((g.prev : Int) - 64) upper
    let duty := max 0 (min (g.limits.dutyMax : Int) slewed)
    let r := dutyStep g e lifted
    ((r.duty : Int) = duty ∧
      (duty = d → r.a = a ∧ (r.residue : Int) = u - d * 65536 ∧ r.residue ≤ 65535 ∧ r.saturated = false) ∧
      (duty ≠ d → r.residue = 0 ∧ r.saturated = true ∧
        ((duty < d ∧ 0 < e) ∨ (d < duty ∧ e < 0) → r.a = g.a) ∧
        (¬ ((duty < d ∧ 0 < e) ∨ (d < duty ∧ e < 0)) → r.a = a))) ∧
    r.duty ≤ g.limits.dutyMax ∧
    (g.prev ≤ g.limits.dutyMax → r.duty ≤ g.prev + 64 ∧ (lifted = false → g.prev ≤ r.duty + 64))) ∧
  (∀ s : State, (s.ctl.role = .dock → s.slewLifted = false) ∧ (s.pack.record = none → s.slewLifted = false) ∧
    (∀ r, s.ctl.role = .stick → s.pack.record = some r → (s.slewLifted = true ↔
      r.packI = .below ∨ ∃ n, r.packI = .num n ∧ n < -(((s.gov.allowance.getD 0) * 5 / 4 : Nat) : Int)))) ∧
  (∀ s : State, s.drive.state = .run → let r := dutyStep s.gov s.gov.e s.slewLifted
    governorDuty false s = { s with
      gov := { s.gov with a := r.a, residue := r.residue, prev := r.duty, saturated := r.saturated, handedDuty := r.duty },
      drive := { s.drive with heldDuty := some r.duty },
      host := { s.host with govSat := s.host.govSat || r.saturated } })

/-- A governor period. In STICK role the grant table is filled in the order OVERHEAD, ROLL, SUCTION: OVERHEAD takes its
150 mA, the roll the least of its demand and what is left, the suction the rest; all are 0 without the discharge
permission. In DOCK role OVERHEAD holds 2,000 mW (as demand and grant: the model's choice, log 56), the fan takes the
least of its demand and the rest of the budget, the charger 15/16 of what is left, its setpoint within the need limit, and
the cap while it regulates. P_av is the power of the grant, P_cmd the least of P_dem and P_av, P_meas the power of the
mean bus current, at V_start or else the latest pack voltage or at the supply, and e their bounded difference. In RUN the
period makes the duty step of DutyStepIsClamped, settles it and hands prev; the tenth in a row with a grant of 0 takes the
drive to COAST, with the mode kept and a floor calibration ended. Outside RUN the PI state is held at 0 and no duty is
handed. Under a floor calibration in RUN the first period forms P_dem as 0, takes P_meas into P_hold and hands prev
without a step; each later one moves P_hold, which is P_dem, by 200 mW towards the target speed; an ABSENT speed keeps it
(log 28). The roll duty is the entry's duty × roll grant / roll demand, 0 without a demand. The bus current takes the mean
of the period's readings, truncated (log 12), and the next begin. The period timer starts again. A timer's command acts
while that timer runs, due or not: the model's choice (log 4). In DOCK role the charger record takes the means of the
readings that come with the command: I_out is ABOVE with an ABOVE among them, and 0 while the stage does not switch. That
means are truncated, that an open sense makes a voltage ABSENT, and that without a reading the fields stay (log 71), that
in AUTO P_dem takes the kept D outside RUN (log 74) and that a dock's P_meas is not limited to R25's range (log 75) are
the model's choices; handedDuty is its own field (log 42). -/
def Obligations.GovernorPeriodGrants : Prop :=
  ∀ (s : State) (readings : List ChargerReadings), s.ctl.power ≠ .ship → s.gov.timer.isSome = true →
    let vOut := Spec.meanVoltage (readings.map ChargerReadings.vOut) s.charger.vOut
    let supply := Spec.meanVoltage (readings.map ChargerReadings.supply) s.charger.supply
    ∃ t, exec (.governorPeriod readings) s = .next t ∧
      let grant := if s.ctl.role = .stick then t.gov.row3.grant else t.gov.row2.grant
      let mA := match t.drive.busCurrent with
        | .num n => n.toNat
        | .above => 45000
        | _ => 0
      t.gov.timer = (if t.govRuns then some (s.ctl.partTime + 1) else none) ∧
      t.gov.pCmd = min t.gov.pDem t.gov.pAv ∧
      t.gov.e = max (-600000) (min 500000 ((t.gov.pCmd : Int) - t.gov.pMeas)) ∧
      t.gov.row1.consumer = .overhead ∧ t.gov.row1.time = some s.ctl.partTime ∧
      t.gov.row2.time = some s.ctl.partTime ∧ t.gov.row3.time = some s.ctl.partTime ∧
      (s.ctl.role = .stick → t.gov.row2.consumer = .roll ∧ t.gov.row3.consumer = .suction ∧
        t.gov.allowance = some (allowanceOf s.gov.limits.discharge (factorsOf s.pack.record) s.prot.dischargeOk) ∧
        t.gov.row2.grant + t.gov.row3.grant = t.gov.allowance.getD 0 - 150 ∧
        (s.prot.dischargeOk = false → t.gov.row2.grant = 0 ∧ t.gov.row3.grant = 0) ∧
        t.gov.row1.demand = 150 ∧ t.gov.row1.grant = (if t.gov.allowance.getD 0 < 150 then 0 else 150) ∧
        t.gov.row2.demand = (match s.matched with
          | some e => if s.drive.state = .run ∧ 0 < e.rollDuty ∧ s.debris.cal = none ∧ s.roll.state.held = false
              then e.rollCap else 0
          | none => 0) ∧
        t.gov.row2.grant = min t.gov.row2.demand (t.gov.allowance.getD 0 - 150) ∧
        t.gov.rollDuty = (match s.matched with
          | some e => if t.gov.row2.demand = 0 then 0 else e.rollDuty * t.gov.row2.grant / t.gov.row2.demand
          | none => 0) ∧
        (∀ v : Nat, 0 < v → s.pack.record.map PackRecord.packV = some (.num v) →
          t.gov.row3.demand = t.gov.pDem * 1000 / v) ∧
        (s.drive.owner ≠ .calibration → t.gov.pDem = s.modeDemand) ∧
        (s.drive.owner ≠ .calibration → s.drive.mode = .auto → t.gov.pDem
          = min (modePower s.gov.powers .auto s.debris.d s.autoFollows) (min s.attachmentCap s.blockedCap)) ∧
        t.gov.pAv = Spec.milliwatts (s.pack.record.map PackRecord.packV) t.gov.row3.grant ∧
        t.gov.pMeas = Spec.milliwatts
          (match s.gov.vStart with | some v => some v | none => s.pack.record.map PackRecord.packV) mA) ∧
      t.gov.busSamples = ⟨0, 0, false⟩ ∧
      t.drive.busCurrent = (if s.gov.busSamples.above ∨ 45000 < s.gov.busSamples.sum / s.gov.busSamples.count then .above
        else .num (s.gov.busSamples.sum / s.gov.busSamples.count : Nat)) ∧
      (s.ctl.role = .dock → t.gov.row2.consumer = .fan ∧ t.gov.row3.consumer = .charger ∧
        (Safety.chargerBounded s → t.charger.setpoint ≤ t.charger.needLimit) ∧
        t.gov.row1.demand = 2000 ∧ t.gov.row1.grant = 2000 ∧
        t.gov.row2.demand = (if s.evac.phase = .none then 0 else s.evacSet.power * 1000) ∧
        t.gov.row2.grant = min t.gov.row2.demand (s.charger.budget - 2000) ∧
        t.gov.pDem = t.gov.row2.demand ∧ t.gov.pAv = t.gov.row2.grant ∧
        t.gov.pMeas = supply.getD 0 * mA / 1000 ∧
        t.charger.vOut = vOut ∧ t.charger.supply = supply ∧
        (s.charger.state.switches = false → t.charger.iOut = .num 0) ∧
        (t.charger.state.switches = true → readings = [] → t.charger.iOut = s.charger.iOut) ∧
        (t.charger.state.switches = true → readings ≠ [] → t.charger.iOut =
          if ∃ r ∈ readings, r.iOut = .above then .above
          else .num ((readings.map (fun r => (r.iOut.toInt?.getD 0).toNat)).sum / readings.length : Nat)) ∧
        (2000 ≤ s.charger.budget → t.gov.row2.grant + t.gov.row3.grant + 2000 ≤ s.charger.budget) ∧
        t.gov.row3.grant = (s.charger.budget - 2000 - t.gov.row2.grant) * 15 / 16 ∧
        (∃ sp, t.charger.split = some sp ∧ sp.fanGrant = t.gov.row2.grant ∧ sp.allowance = t.gov.row3.grant ∧
          (s.charger.state.switches = true → t.charger.state.switches = true → t.charger.setpoint ≤ sp.cap) ∧
          (∀ v, vOut = some v → sp.cap = t.gov.row3.grant * 1000 / max 20000 v) ∧
          (vOut = none → sp.cap = 0))) ∧
      (s.drive.state ≠ .run → t.gov.a = 0 ∧ t.gov.residue = 0 ∧ t.gov.prev = 0 ∧ t.gov.saturated = false ∧
        t.drive.heldDuty = s.drive.heldDuty ∧ t.drive.duty = s.drive.duty ∧ t.drive.state = s.drive.state) ∧
      (s.drive.state = .run → s.drive.owner ≠ .calibration →
        (s.ctl.role = .stick → 0 < t.gov.row3.grant) → (s.ctl.role = .dock → 0 < t.gov.row2.grant) →
        t.drive.state = .run ∧ t.drive.heldDuty = some t.gov.prev ∧ t.gov.handedDuty = t.gov.prev ∧
        t.gov.prev ≤ s.gov.limits.dutyMax ∧ t.drive.zeroGrant = 0) ∧
      (s.drive.state = .run → t.drive.state = .run → s.drive.owner ≠ .calibration ∨ s.gov.pHold.isSome = true →
        let r := dutyStep s.gov t.gov.e t.slewLifted
        t.gov.a = r.a ∧ t.gov.residue = r.residue ∧ t.gov.prev = r.duty ∧ t.gov.saturated = r.saturated ∧
        t.gov.handedDuty = r.duty ∧ t.drive.heldDuty = some r.duty ∧
        t.host.govSat = (s.host.govSat || r.saturated)) ∧
      (s.ctl.role = .stick → s.drive.state = .run → s.drive.owner = .calibration →
        (s.gov.pHold = none → t.gov.pDem = 0 ∧ (t.drive.state = .run →
          t.gov.pHold = some (min 500000 t.gov.pMeas) ∧ t.gov.a = s.gov.a ∧ t.gov.residue = s.gov.residue ∧
          t.gov.prev = s.gov.prev ∧ t.gov.saturated = false ∧ t.gov.handedDuty = s.gov.prev ∧
          t.drive.heldDuty = some s.gov.prev ∧ t.host.govSat = s.host.govSat)) ∧
        (∀ (h : Nat) (k : FloorCal), s.gov.pHold = some h → s.debris.cal = some k →
          let held := match s.drive.speed with
            | none => h
            | some v => if v + 1000 < k.target then min 500000 (h + 200) else if k.target + 1000 < v then h - 200 else h
          t.gov.pDem = held ∧ (t.drive.state = .run → t.gov.pHold = some held))) ∧
      (s.drive.state = .run → grant = 0 → s.drive.zeroGrant < 9 →
        t.drive.state = .run ∧ t.drive.zeroGrant = s.drive.zeroGrant + 1) ∧
      (s.drive.state = .run → grant = 0 → 9 ≤ s.drive.zeroGrant →
        t.drive.state = .coast ∧ t.drive.duty = 0 ∧ t.drive.owner = .none ∧ t.drive.mode = s.drive.mode ∧
        t.drive.lastRunDuty = s.drive.duty ∧ t.debris.cal = none)

/-! ### Pack monitor and protection -/

/-- A scan. The scan timer starts one and starts itself again after 10 ms in ACTIVE and 1,000 ms in STANDBY; an expiry
during a scan starts the timer alone. The publication replaces the record by the readings of the scan, formed with the
offsets, those beyond their ranges as BELOW or ABOVE and those of an open sensor as ABSENT, and ends the scan. The charge
counter integrates the interval, moves whole mAs and keeps the remainder. While Q is not valid, a pack at rest for 2 s
gives Q the charge of its mean cell voltage by the OCV table, and makes it valid; the setting of FULL makes it the full
charge, and the assertion of CELL_UV 0. FULL is set after 60 s of its condition, judged against the need record before the
publication, and cleared with every cell below the per-cell target − 100 mV. While balancing is active, the first three
candidates bleed, and else none. The need record asks for the charge limit, halved below 10.0 °C, and in precharge for a
tenth of that, 100 mA at the least; without the charge permission, at a temperature outside 0..45.0 °C or with FULL set it
asks for none, and says why. A timer's command acts while that timer runs, due or not (log 4), the interval is integrated
before the estimate is made (log 72), and the timer of FULL becomes absent at a publication outside CHARGING (log 63): the
model's choices. So are that a pack current of BELOW counts as below FULL's threshold (DEDUCED, log 36), where R72 orders
the codes of the pack voltage alone, and that while FULL is set only its clearing is evaluated, with its timer absent
(DEDUCED, log 47). -/
def Obligations.ScanIsPublished : Prop :=
  (∀ s : State, s.ctl.power ≠ .ship → s.pack.scanTimer.isSome = true →
    let due := some (s.ctl.partTime + (if s.ctl.power = .active then 10 else 1000))
    (s.pack.scanning = false → exec .scanTimerExpiry s = .next (settle { s with pack := { s.pack with
      scanTimer := due, scanning := true, lastScan := s.ctl.partTime } })) ∧
    (s.pack.scanning = true → exec .scanTimerExpiry s
      = .next (settle { s with pack := { s.pack with scanTimer := due } }))) ∧
  (∀ (s : State) (scan : RawScan), s.ctl.power ≠ .ship → s.pack.scanning = true →
    ∃ t r, exec (.packRecordPublication scan) s = .next t ∧ t.pack.record = some r ∧ t.pack.scanning = false ∧
      t.prot.evaluated = true ∧ r.scanTime = s.ctl.partTime ∧ r.cells.length = s.cellCount ∧
      (∀ i, i < s.cellCount → let mV := scan.taps.getD i 0 + s.pack.offsets.getD i 0
        r.cells[i]? = some (if mV < 500 then .absent else if 5000 < mV then .above else .num mV)) ∧
      r.packV = (if 32766 < scan.packV then .above else .num scan.packV) ∧
      r.packI = (if scan.packI < -50000 then .below else if 20000 < scan.packI then .above else .num scan.packI) ∧
      (let temp := fun (x : Option Int) => match x with
        | none => Reading.absent
        | some n => if n < -400 then .below else if 1250 < n then .above else .num n
       r.t1 = temp scan.t1 ∧ r.t2 = temp scan.t2 ∧ r.t3 = temp scan.t3) ∧
      t.pack.capacity = s.pack.capacity ∧ t.stick = s.stick ∧ t.store = s.store ∧
      let lowest := (r.cells.filterMap Reading.toInt?).min?
      let target := s.cellCount * s.gov.limits.cellTarget
      let refused : NeedReason → Need := fun reason => ⟨target, 0, false, reason, false⟩
      (t.prot.chargeOk = false →
        t.pack.need = refused (if t.prot.active.chgOc then .cutoffChg else .protection)) ∧
      (t.prot.chargeOk = true → r.tPack = .below ∨ r.tPack = .above ∨ (∃ n, r.tPack = .num n ∧ (n < 0 ∨ 450 < n)) →
        t.pack.need = refused .temp) ∧
      (∀ n, t.prot.chargeOk = true → r.tPack = .num n → 0 ≤ n → n ≤ 450 →
        (t.pack.full = true → t.pack.need = refused .full) ∧
        (t.pack.full = false → let limit := if n < 100 then s.gov.limits.charge / 2 else s.gov.limits.charge
          (lowest = none ∨ (∃ v, lowest = some v ∧ 3000 ≤ v) → t.pack.need = ⟨target, limit, true, .none, false⟩) ∧
          (∀ v, lowest = some v → v < 3000 → t.pack.need = ⟨target, max 100 (limit / 10), true, .none, true⟩))) ∧
      (Spec.qualifies s s.pack.full t.pack.full s.pack.fullTimer t.pack.fullTimer (s.stick.state = .charging ∧
        (r.packI = .below ∨ ∃ n, r.packI = .num n ∧ n < ((max 50 (s.pack.need.limit / 20) : Nat) : Int)) ∧
        (r.packV = .above ∨ ∃ n, r.packV = .num n ∧ ((s.pack.need.target - 10 * s.cellCount : Nat) : Int) ≤ n)) 60000) ∧
      (s.pack.full = true → t.pack.fullTimer = none ∧ (t.pack.full = false ↔ (∃ n, .num n ∈ r.cells) ∧
        ∀ c ∈ r.cells, c ≠ .above ∧ ∀ n, c = .num n → n < (s.gov.limits.cellTarget : Int) - 100)) ∧
      (let counted := s.pack.integrate r.packI (match s.pack.record with
        | some before => (s.ctl.partTime - before.scanTime).toNat
        | none => 0)
       let filled : Prop := s.pack.full = false ∧ t.pack.full = true
       let cutOff : Prop := s.prot.active.cellUv = false ∧ t.prot.active.cellUv = true
       let atRest : Prop := (∃ n, r.packI = .num n ∧ -50 < n ∧ n < 50) ∧ ∀ c ∈ r.cells, ∃ n, c = .num n
       let mean := (r.cells.filterMap Reading.toInt?).sum.toNat / r.cells.length
       (filled ∨ cutOff → t.pack.valid = true ∧ t.pack.acc = 0 ∧ t.pack.restTimer = none ∧
        (filled → t.pack.q = s.pack.capacity * 3600) ∧ (¬ filled → t.pack.q = 0)) ∧
       (¬ filled → ¬ cutOff →
        Spec.qualifies s s.pack.valid t.pack.valid s.pack.restTimer t.pack.restTimer atRest 2000 ∧
        (s.pack.valid = true → t.pack.valid = true ∧ t.pack.restTimer = none) ∧
        (s.pack.valid = t.pack.valid → t.pack.q = counted.q ∧ t.pack.acc = counted.acc) ∧
        (s.pack.valid ≠ t.pack.valid → t.pack.q = ocvToSoc s.pack.ocv mean * s.pack.capacity * 36 / 10 ∧
          t.pack.acc = 0))) ∧
      (t.ctl.power ≠ .ship →
        let active : Prop := t.drive.state.drives = false ∧
          (s.stick.state = .charging ∨ ∃ n, r.packI = .num n ∧ -200 < n ∧ n < 200) ∧
          (∃ c ∈ r.cells, c = .above ∨ ∃ n, c = .num n ∧ 3900 ≤ n) ∧ (∀ c ∈ r.cells, c ≠ .absent) ∧ lowest.isSome = true
        (¬ active → t.pack.balance = []) ∧
        (∀ v, active → lowest = some v → Spec.Selected s.pack.balance r.cells v t.pack.balance))) ∧
  (∀ (p : Pack) (current : Reading) (dt : Nat),
    let i : Int := match current with
      | .num n => n
      | .below => -50000
      | .above => 20000
      | .absent => 0
    let sum := p.acc + i * dt - 60 * p.balance.length * dt
    let q := (p.q : Int) + sum.tdiv 1000
    (p.integrate current dt).acc = sum - sum.tdiv 1000 * 1000 ∧
    -999 ≤ (p.integrate current dt).acc ∧ (p.integrate current dt).acc ≤ 999 ∧
    ((p.integrate current dt).q : Int)
      = (if q < 0 then 0 else if ((p.capacity * 3600 : Nat) : Int) < q then ((p.capacity * 3600 : Nat) : Int) else q)) ∧
  (∀ (table : List Nat) (avg : Nat), table.length = 9 → table.Pairwise (· < ·) →
    let soc : List Nat := [0, 50, 100, 200, 350, 500, 650, 850, 1000]
    let v := fun k => table.getD k 0
    let s := fun k => soc.getD k 0
    (avg ≤ v 0 → ocvToSoc table avg = 0) ∧ (v 8 ≤ avg → ocvToSoc table avg = 1000) ∧
    (∀ k, k < 8 → v k ≤ avg → avg < v (k + 1) →
      ocvToSoc table avg = s k + (s (k + 1) - s k) * (avg - v k) / (v (k + 1) - v k)))

/-- The causes at a publication. A missing reading asserts SENSE at once, which forbids both directions; a cell above
4,250 mV for 100 ms asserts CELL_OV, which forbids charge; a cell below 2,900 mV for 500 ms asserts CELL_UV, and a current
below −40,000 mA for 20 ms asserts DSG_OC with its clear timer: both forbid discharge. A temperature of 60.0 °C for 1 s
asserts DSG_OT, which forbids discharge; on the dock a charge current above 5,000 mA for 100 ms, or above the need limit
by more than 500 mA or beyond its range for 1 s, asserts CHG_OC, which forbids charge. A cell above 4,400 mV for 100 ms,
one below 1,500 mV for 1 s, and a third DSG_OC within 60 s lock the part out. A condition that does not hold makes its
timer absent, and one that begins to hold sets it. CELL_OV is released with every cell a number below 4,150 mV, CELL_UV
with no cell absent and the lowest at 3,100 mV or more, DSG_OT below 50.0 °C, at a T_pack of BELOW too (the model's
choice, log 77), and SENSE with every reading present for 1 s. Each assertion enters its fault with the values of R68, a
current beyond a 16-bit number as BELOW. A severe condition that qualifies again under a standing lockout enters its fault
again (DEDUCED, log 19), and the timer of one that has qualified becomes absent (DEDUCED, log 48). -/
def Obligations.CausesForbid : Prop :=
  ∀ (s : State) (scan : RawScan), s.ctl.power ≠ .ship → s.pack.scanning = true →
    let mV := fun i => scan.taps.getD i 0 + s.pack.offsets.getD i 0
    let since := fun t0 => (s.ctl.partTime - t0).toNat
    let r := formRecord s scan
    let absent : Prop := (∃ i, i < s.cellCount ∧ mV i < 500) ∨ scan.t1 = none ∨ scan.t2 = none ∨ scan.t3 = none
    let ceiling : Prop := 5000 < scan.packI
    let need : Prop := ((s.pack.need.limit + 500 : Nat) : Int) < scan.packI ∨ 20000 < scan.packI
    ∃ t, exec (.packRecordPublication scan) s = .next t ∧ t.pack.record = some r ∧
      (absent → t.prot.active.sense = true ∧ t.prot.dischargeOk = false ∧ t.prot.chargeOk = false) ∧
      (s.prot.active.sense = false → ¬ absent → t.prot.active.sense = false) ∧
      Spec.qualifies s (!s.prot.active.sense) (!t.prot.active.sense) s.prot.senseTimer t.prot.senseTimer (¬ absent) 1000 ∧
      Spec.qualifies s s.prot.active.cellOv t.prot.active.cellOv s.prot.tOv t.prot.tOv
        (∃ i, i < s.cellCount ∧ 4250 < mV i) 100 ∧
      Spec.qualifies s s.prot.active.cellUv t.prot.active.cellUv s.prot.tUv t.prot.tUv
        (∃ i, i < s.cellCount ∧ 500 ≤ mV i ∧ mV i < 2900) 500 ∧
      Spec.qualifies s s.prot.active.dsgOt t.prot.active.dsgOt s.prot.tOt t.prot.tOt
        (∃ a b, scan.t1 = some a ∧ scan.t2 = some b ∧ 600 ≤ max a b) 1000 ∧
      Spec.qualifies s s.prot.active.dsgOc t.prot.active.dsgOc s.prot.tOc t.prot.tOc (scan.packI < -40000) 20 ∧
      (s.prot.active.cellOv = true →
        (t.prot.active.cellOv = false ↔ ∀ i, i < s.cellCount → 500 ≤ mV i ∧ mV i < 4150)) ∧
      (s.prot.active.cellUv = true → (t.prot.active.cellUv = false ↔
        (∃ i, i < s.cellCount ∧ mV i ≤ 5000) ∧ ∀ i, i < s.cellCount → 3100 ≤ mV i)) ∧
      (s.prot.active.dsgOt = true →
        (t.prot.active.dsgOt = false ↔ ∃ a b, scan.t1 = some a ∧ scan.t2 = some b ∧ max a b < 500)) ∧
      (s.prot.active.dsgOc = true → t.prot.active.dsgOc = true) ∧
      (t.prot.active.cellOv = true → t.prot.chargeOk = false) ∧
      (t.prot.active.cellUv = true → t.prot.dischargeOk = false) ∧
      (t.prot.active.dsgOt = true → t.prot.dischargeOk = false) ∧
      (t.prot.active.dsgOc = true → t.prot.dischargeOk = false) ∧
      (t.prot.active.chgOc = true → t.prot.chargeOk = false) ∧
      (∀ t0, scan.packI < -40000 → s.prot.active.dsgOc = false → s.prot.tOc = some t0 → 20 ≤ since t0 →
        t.prot.ocClear = some (s.ctl.partTime + 5000) ∧
        (∀ a b, s.prot.ocEvents = [a, b] ∨ (∃ x, s.prot.ocEvents = [x, a, b]) → since a ≤ 60000 →
          t.prot.lockedOut = true ∧ t.prot.lockout.ocRepeat = true ∧ t.prot.level = .lockout ∧
          t.prot.chargeOk = false ∧ Spec.Entered s t .ocRepeat .below none)) ∧
      (s.prot.active.chgOc = true → t.prot.active.chgOc = true) ∧
      (s.prot.active.chgOc = false → s.stick.state = .detached →
        t.prot.active.chgOc = false ∧ t.prot.tChgCeiling = none ∧ t.prot.tChgNeed = none) ∧
      (s.prot.active.chgOc = false → s.stick.state ≠ .detached →
        (¬ ceiling → t.prot.tChgCeiling = none) ∧ (¬ need → t.prot.tChgNeed = none) ∧
        (ceiling → s.prot.tChgCeiling = none → t.prot.tChgCeiling = some s.ctl.partTime) ∧
        (need → s.prot.tChgNeed = none → t.prot.tChgNeed = some s.ctl.partTime) ∧
        (t.prot.active.chgOc = true ↔ ∃ t0, (ceiling ∧ s.prot.tChgCeiling = some t0 ∧ 100 ≤ since t0) ∨
          (need ∧ s.prot.tChgNeed = some t0 ∧ 1000 ≤ since t0))) ∧
      ((¬ ∃ i, i < s.cellCount ∧ 4400 < mV i) → t.prot.tOvSevere = none) ∧
      (∀ i, i < s.cellCount → 4400 < mV i → s.prot.tOvSevere = none → t.prot.tOvSevere = some s.ctl.partTime) ∧
      (∀ i t0, i < s.cellCount → 4400 < mV i → s.prot.tOvSevere = some t0 → 100 ≤ since t0 →
        t.prot.lockedOut = true ∧ t.prot.lockout.ovSevere = true ∧ t.prot.level = .lockout ∧
        t.prot.dischargeOk = false ∧ t.prot.chargeOk = false ∧ t.prot.tOvSevere = none ∧
        Spec.Entered s t .ovSevere (highestEntry r.cells).1 ((highestEntry r.cells).2.map (fun n => .num n))) ∧
      ((¬ ∃ i, i < s.cellCount ∧ 500 ≤ mV i ∧ mV i < 1500) → t.prot.tUvSevere = none) ∧
      (∀ i, i < s.cellCount → 500 ≤ mV i → mV i < 1500 → s.prot.tUvSevere = none →
        t.prot.tUvSevere = some s.ctl.partTime) ∧
      (∀ i t0, i < s.cellCount → 500 ≤ mV i → mV i < 1500 → s.prot.tUvSevere = some t0 → 1000 ≤ since t0 →
        t.prot.lockedOut = true ∧ t.prot.lockout.uvSevere = true ∧ t.prot.level = .lockout ∧
        t.prot.dischargeOk = false ∧ t.prot.chargeOk = false ∧ t.prot.tUvSevere = none ∧
        Spec.Entered s t .uvSevere (lowestEntry r.cells).1 ((lowestEntry r.cells).2.map (fun n => .num n))) ∧
      (s.prot.active.cellOv = false → t.prot.active.cellOv = true →
        Spec.Entered s t .cellOv (highestEntry r.cells).1 ((highestEntry r.cells).2.map (fun n => .num n))) ∧
      (s.prot.active.cellUv = false → t.prot.active.cellUv = true → (t.pack.full = false → t.pack.q = 0) ∧
        Spec.Entered s t .cellUv (lowestEntry r.cells).1 ((lowestEntry r.cells).2.map (fun n => .num n))) ∧
      (s.prot.active.dsgOt = false → t.prot.active.dsgOt = true → Spec.Entered s t .dsgOt r.tPack none) ∧
      (s.prot.active.dsgOc = false → t.prot.active.dsgOc = true →
        Spec.Entered s t .dsgOc .below (some (.num t.prot.ocEvents.length))) ∧
      (s.prot.active.chgOc = false → t.prot.active.chgOc = true →
        Spec.Entered s t .chgOc r.packI (some (Reading.num s.pack.need.limit).fit16)) ∧
      (∀ k, s.prot.active.sense = false → firstAbsent r = some k → k ≤ 11 → Spec.Entered s t .sense (.num k) none)

/-- The releases. The DSG_OC clear timer releases DSG_OC; the permissions and the level follow what remains.
CLEAR_PROTECTION is DENIED outside LOCKOUT and before a first record, LOCKED while the limit lock is set, and else DENIED
while the condition of a lockout cause in the set is present; with none present
it releases the lockout. A timer's command acts while that timer runs, due or not: the model's choice (log 4). -/
def Obligations.ProtectionReleases : Prop :=
  (∀ s : State, s.ctl.power ≠ .ship → s.prot.ocClear.isSome = true →
    ∃ t, exec .dsgOcClearExpiry s = .next t ∧ t.prot.active = { s.prot.active with dsgOc := false } ∧
      t.prot.ocClear = none ∧ t.prot.lockedOut = s.prot.lockedOut ∧ Spec.standingFollows t) ∧
  (∀ (s : State) (kind : Byte) (rest : List HostFrame), Spec.Heads s 0x1A kind [] rest → s.ctl.role = .stick →
    let b := beginTaking rest s
    (s.prot.level ≠ .lockout → exec .clearProtection s = .next (settle (Spec.reply kind 0x16 [] b))) ∧
    (s.prot.level = .lockout → s.ctl.lock.isSome = true →
      exec .clearProtection s = .next (settle (Spec.reply kind 0x17 [] b))) ∧
    (s.prot.level = .lockout → s.ctl.lock = none → s.pack.record = none →
      exec .clearProtection s = .next (settle (Spec.reply kind 0x16 [] b))) ∧
    (∀ r, s.prot.level = .lockout → s.ctl.lock = none → s.pack.record = some r →
      (s.prot.lockout.ovSevere = true ∧ (∃ c ∈ r.cells, c = .above ∨ c = .absent ∨ ∃ n, c = .num n ∧ 4400 < n)) ∨
        (s.prot.lockout.uvSevere = true ∧ (∃ c ∈ r.cells, c = .absent ∨ ∃ n, c = .num n ∧ n < 1500)) ∨
        (s.prot.lockout.ocRepeat = true ∧
          (s.prot.active.dsgOc = true ∨ r.packI = .below ∨ ∃ n, r.packI = .num n ∧ n < -40000)) ∨
        (s.prot.lockout.strap = true ∧ s.ctl.cells = 3) →
      exec .clearProtection s = .next (settle (Spec.reply kind 0x16 [] b))) ∧
    (∀ r, s.prot.level = .lockout → s.ctl.lock = none → s.pack.record = some r →
      (s.prot.lockout.ovSevere = true → ∀ c ∈ r.cells, ∃ n, c = .num n ∧ n ≤ 4400) →
      (s.prot.lockout.uvSevere = true → ∀ c ∈ r.cells, ∃ n, c = .num n ∧ 1500 ≤ n) →
      (s.prot.lockout.ocRepeat = true → s.prot.active.dsgOc = false ∧ ∃ n, r.packI = .num n ∧ -40000 ≤ n) →
      (s.prot.lockout.strap = true → s.ctl.cells ≠ 3) →
      ∃ u, exec .clearProtection s = .next (settle (Spec.reply kind 0x00 [] u)) ∧ u.prot.lockedOut = false ∧
        u.prot.lockout = ⟨false, false, false, false⟩ ∧ u.prot.ocEvents = [] ∧ u.prot.active = s.prot.active ∧
        Spec.standingFollows u))

/-! ### Debris sensor and attachment -/

/-- A window of the debris sensor. A pulse counts one while the window timer runs. At the expiry, with no calibration in
flight, the count starts again from 0 and its figures are recorded: the corrected count while the band has a floor, the
attenuation while clear_ref is at least 100, and the raw reading from the terms that are valid. A raw reading drives the
filter, the dirt index, the level and the bin load; with none the index is ABSENT. A D at or above the rising threshold of
any higher level raises the level to the highest level whose rising threshold D reaches; else a D at or above the level's
falling threshold keeps it, and a lower one lets it fall, past every level whose falling threshold D is below. A clear_ref
below 100, as the window leaves it (the model's choice, log 57), enters SENSOR_DIRTY once. A change of BIN_FULL or of the
reported level is reported as DIRT. A timer's command acts while that timer runs, due or not: the model's choice (log 4).
The timer runs on in RUN, and stops with a window that an end of a calibration left due (DEDUCED, log 51). -/
def Obligations.DebrisWindowEvaluates : Prop :=
  (∀ s : State, s.ctl.power ≠ .ship → s.debris.windowTimer.isSome = true →
    exec .piezoPulse s
      = .next (settle { s with debris := { s.debris with c := min 65535 (s.debris.c + 1) } })) ∧
  (∀ (s : State) (ledOff ledOn : Nat), s.ctl.power ≠ .ship → s.debris.windowTimer.isSome = true →
    s.debris.cal = none →
    let diff := min 1023 (ledOn - ledOff)
    let n := match s.drive.speed with
      | some v => (s.debris.floors.getD (min 7 (v / 15000)) none).map (fun f => s.debris.c - f)
      | none => none
    let a := if s.debris.clearRef < 100 then none else some (s.debris.clearRef - diff)
    let r := match n, a with
      | some n, some a => some (min 255 (n * s.debris.levels.ga / 16 + a * s.debris.levels.go / 64))
      | some n, none => some (min 255 (n * s.debris.levels.ga / 16))
      | none, some a => some (min 255 (a * s.debris.levels.go / 64))
      | none, none => none
    ∃ t, exec (.debrisWindow ledOff ledOn) s = .next t ∧ t.debris.c = 0 ∧
      t.debris.windowTimer = (if s.drive.state = .run then some (s.ctl.partTime + 50) else none) ∧
      t.debris.last = ⟨s.drive.speed, s.drive.speed.map (fun v => min 7 (v / 15000)), some s.debris.c, n, some diff, a, r⟩ ∧
      (∀ x, r = some x → let f := s.debris.s - s.debris.s / 4 + x
        t.debris.s = f ∧ t.debris.d = some (f / 4) ∧ t.debris.level = nextLevel s.debris.levels (f / 4) s.debris.level ∧
        t.debris.b = min 1000000 (s.debris.b + x) ∧
        t.debris.binFull = decide (s.debris.levels.binThreshold ≤ t.debris.b)) ∧
      (r = none → t.debris.d = none ∧ t.debris.s = s.debris.s ∧ t.debris.level = s.debris.level ∧
        t.debris.b = s.debris.b ∧ t.debris.binFull = s.debris.binFull) ∧
      t.debris.clearRef = (if t.debris.d.isSome ∧ t.debris.level = .clean ∧ s.debris.clearRef < diff then
        min 1023 (s.debris.clearRef + 1) else s.debris.clearRef) ∧
      t.debris.floors = s.debris.floors ∧ t.debris.levels = s.debris.levels ∧ t.drive = s.drive ∧ Spec.PackKept s t ∧
      (t.debris.clearRef < 100 → s.debris.dirtyLogged = false → t.debris.dirtyLogged = true ∧
        Spec.Logged s t .debrisSensor .sensorDirty (.num t.debris.clearRef) (some (.num diff))) ∧
      (100 ≤ t.debris.clearRef ∨ s.debris.dirtyLogged = true → t.debris.dirtyLogged = s.debris.dirtyLogged ∧
        t.ctl.ring = s.ctl.ring) ∧
      (s.host.tx.isSome = true → s.host.mask.getLsbD 2 = true → s.host.reports.length < 7 →
        (t.debris.binFull ≠ s.debris.binFull → t.host.reports.getLast? = some (.dirt
          (if t.debris.binFull then .binFull else .binEmptied) t.debris.d t.reportedLevel t.debris.b t.debris.binFull)) ∧
        (t.debris.binFull = s.debris.binFull → t.reportedLevel ≠ s.reportedLevel →
          t.host.reports.getLast? = some (.dirt .level t.debris.d t.reportedLevel t.debris.b t.debris.binFull)))) ∧
  (∀ (l : DirtLevels) (d : Nat) (level : DirtLevel),
    let reached := if l.heavy ≤ d then DirtLevel.heavy else if l.medium ≤ d then .medium
      else if l.light ≤ d then .light else .clean
    (l.light < l.medium → l.medium < l.heavy → l.heavy ≤ d → nextLevel l d level = .heavy) ∧
    (∀ m, (m = .light ∧ l.light ≤ d ∨ m = .medium ∧ l.medium ≤ d ∨ m = .heavy ∧ l.heavy ≤ d) →
      dirtLevelCode level < dirtLevelCode m →
      dirtLevelCode m ≤ dirtLevelCode (nextLevel l d level) ∧ nextLevel l d level = reached) ∧
    (dirtLevelCode level < dirtLevelCode (nextLevel l d level) → nextLevel l d level = reached) ∧
    fallingThreshold l .light = max (l.light - l.hysteresis) 1 ∧
    fallingThreshold l .medium = max (l.medium - l.hysteresis) (l.light + 1) ∧
    fallingThreshold l .heavy = max (l.heavy - l.hysteresis) (l.medium + 1) ∧
    (fallingThreshold l level ≤ d → dirtLevelCode reached ≤ dirtLevelCode level →
      nextLevel l d level = level) ∧
    (dirtLevelCode reached ≤ dirtLevelCode level →
      (nextLevel l d level ≠ .clean → fallingThreshold l (nextLevel l d level) ≤ d) ∧
      ∀ m, dirtLevelCode (nextLevel l d level) < dirtLevelCode m → dirtLevelCode m ≤ dirtLevelCode level →
        d < fallingThreshold l m))

/-- A floor calibration. CALIBRATE_FLOOR, in a detached stick at rest with the discharge permission and an idle store,
answers ACCEPTED and starts the drive with the calibration as owner; it is BUSY during another calibration or store
operation, and else DENIED. In SEEKING a window in the band sets the settle timer, and 200 ms later the band is settled
and counts; a window out of the band, or with the speed ABSENT, clears the timer, and in COUNTING leads back to SEEKING
with the counts discarded and the band timer set. A pulse counts one while the window timer runs, as without a
calibration. A window in the band during COUNTING is counted; the eighth stages the
band's floor, and in band 7 commits the staged table and stops the drive. With an idle store that success begins the write
of the FLOOR_TABLE record, into the active segment where it fits, and else as a compaction, into segment 1 where no
segment is active; with generation 65,534 or an operation in flight none is made, and DONE STORE_FAILED is reported. The
band timer ends a calibration that seeks NO_SPEED, with the drive in COAST, as R93 makes this end a stop, against R91's
sentence of a drive still in RUN; a window due at that instant stays due for the dirt reading (DEDUCED, log 51). A timer's
command acts while that timer runs, due or not: the model's choice (log 4). -/
def Obligations.CalibrationRuns : Prop :=
  (∀ (s : State) (kind : Byte) (rest : List HostFrame), Spec.Heads s 0x23 kind [] rest → s.ctl.role = .stick →
    let b := beginTaking rest s
    let denied := s.stick.state ≠ .detached ∨ s.drive.mode ≠ .off ∨ s.drive.state ≠ .off ∨ s.prot.dischargeOk = false
    (s.debris.cal.isSome = true ∨ s.store.op.isSome = true →
      exec .calibrateFloor s = .next (settle (Spec.reply kind 0x10 [] b))) ∧
    (s.debris.cal = none → s.store.op = none → denied →
      exec .calibrateFloor s = .next (settle (Spec.reply kind 0x16 [] b))) ∧
    (s.debris.cal = none → s.store.op = none → ¬ denied →
      ∃ u, exec .calibrateFloor s = .next (settle (Spec.reply kind 0x01 [] u)) ∧
        u.debris = { s.debris with cal := some ⟨.starting, 1, 22500, none, none, 0, 0, 0, [], none⟩ } ∧
        u.drive.state = .align ∧ u.drive.owner = .calibration ∧ u.drive.mode = .off ∧ u.drive.duty = 330 ∧
        u.drive.attempts = 0 ∧ u.drive.alignTimer = some (s.ctl.partTime + 40) ∧ u.pack.balance = [] ∧
        u.prot = s.prot ∧ u.stick = s.stick ∧ u.store = s.store)) ∧
  (∀ (s : State) (k : FloorCal), s.ctl.power ≠ .ship → s.debris.windowTimer.isSome = true → s.debris.cal = some k →
    exec .piezoPulse s = .next (settle { s with debris := { s.debris with c := min 65535 (s.debris.c + 1) } })) ∧
  (∀ (s : State) (k : FloorCal) (ledOff ledOn v : Nat), s.ctl.power ≠ .ship → s.debris.windowTimer.isSome = true →
    s.debris.cal = some k → s.drive.owner = .calibration → k.phase = .counting → s.drive.speed = some v →
    k.target ≤ v + 1000 → v ≤ k.target + 1000 →
    let diff := min 1023 (ledOn - ledOff)
    let count := k.countSum + s.debris.c
    let diffs := if k.band = 1 then k.diffSum + diff else k.diffSum
    let floor := min 1023 (count / 8 + count / 8 / 8 + 2)
    let candidate := if k.band = 1 then some (diffs / 8) else k.candidate
    let due := if s.drive.state = .run then some (s.ctl.partTime + 50) else none
    (k.windows < 7 → exec (.debrisWindow ledOff ledOn) s = .next (settle { s with debris := { s.debris with
      c := 0, windowTimer := due,
      cal := some { k with windows := k.windows + 1, countSum := count, diffSum := diffs } } })) ∧
    (k.windows = 7 → k.band ≠ 7 → exec (.debrisWindow ledOff ledOn) s = .next (settle { s with debris := { s.debris with
      c := 0, windowTimer := due,
      cal := some { k with phase := .seeking, band := k.band + 1, target := k.target + 15000, settle := none,
                           bandTimer := some (s.ctl.partTime + 3000), windows := 0, countSum := 0, diffSum := 0,
                           staged := k.staged ++ [floor], candidate := candidate } } })) ∧
    (k.windows = 7 → k.band = 7 → ∃ t, exec (.debrisWindow ledOff ledOn) s = .next t ∧ t.debris.cal = none ∧
      t.debris.floors = none :: (k.staged ++ [floor]).map some ∧ t.debris.clearRef = candidate.getD 0 ∧
      t.drive.state.drives = false ∧ t.gov.pHold = none ∧
      (let value := u16 (candidate.getD 0) ++ (k.staged ++ [floor]).flatMap u16
       let failed := s.host.tx.isSome = true → s.host.mask.getLsbD 6 = true → s.host.reports.length < 7 →
         Report.done 0x23 .storeFailed 7 ∈ t.host.reports
       (∀ seg, s.store.op = none → s.store.active = some seg → s.store.fits seg value.length = true →
        t.store = { s.store with op := some ⟨.write, seg, 0x04, 0x23, value, 0, 0⟩ }) ∧
       (∀ seg, s.store.op = none → s.store.active = some seg → s.store.fits seg value.length = false →
        (segHeader s.store.mem seg ≠ 65534 → t.store.op = some
            ⟨.compaction, seg % 3 + 1, 0x04, 0x23, value, 1, segHeader s.store.mem seg + 1⟩ ∧
          t.store.mem = writeHeader s.store.mem (seg % 3 + 1) 0) ∧
        (segHeader s.store.mem seg = 65534 → t.store = s.store ∧ failed)) ∧
       (s.store.op = none → s.store.active = none →
        t.store.op = some ⟨.compaction, 1, 0x04, 0x23, value, 1, 1⟩ ∧ t.store.mem = writeHeader s.store.mem 1 0) ∧
       (s.store.op.isSome = true → t.store = s.store ∧ failed)))) ∧
  (∀ (s : State) (k : FloorCal) (ledOff ledOn : Nat), s.ctl.power ≠ .ship → s.debris.windowTimer.isSome = true →
    s.debris.cal = some k → s.drive.owner = .calibration →
    let held : Prop := ∃ v, s.drive.speed = some v ∧ k.target ≤ v + 1000 ∧ v ≤ k.target + 1000
    let due := if s.drive.state = .run then some (s.ctl.partTime + 50) else none
    let leaves : FloorCal → Prop := fun after => exec (.debrisWindow ledOff ledOn) s
      = .next (settle { s with debris := { s.debris with c := 0, windowTimer := due, cal := some after } })
    (k.phase = .seeking →
      (¬ held → leaves { k with settle := none }) ∧
      (held → k.settle = none → leaves { k with settle := some s.ctl.partTime }) ∧
      (∀ t0, held → k.settle = some t0 → (s.ctl.partTime - t0).toNat < 200 → leaves k) ∧
      (∀ t0, held → k.settle = some t0 → 200 ≤ (s.ctl.partTime - t0).toNat → leaves
        { k with phase := .counting, bandTimer := none, settle := none, windows := 0, countSum := 0, diffSum := 0 })) ∧
    (k.phase = .counting → ¬ held → leaves
      { k with phase := .seeking, bandTimer := some (s.ctl.partTime + 3000), settle := none, windows := 0,
               countSum := 0, diffSum := 0 })) ∧
  (∀ (s : State) (k : FloorCal), s.ctl.power ≠ .ship → s.debris.cal = some k → k.phase = .seeking →
    k.bandTimer.isSome = true → ∃ t, exec .bandTimerExpiry s = .next t ∧ t.debris.cal = none ∧ t.gov.pHold = none ∧
      t.drive.state.drives = false ∧
      (s.drive.state.drives = true → t.drive.state = .coast ∧ t.drive.owner = .none ∧ t.drive.startPending = false ∧
        t.drive.retryPending = false) ∧
      (s.drive.state = .run → s.debris.windowTimer ≠ some s.ctl.partTime →
        t.debris = { s.debris with cal := none, windowTimer := none, c := 0 }) ∧
      (s.drive.state = .run → s.debris.windowTimer = some s.ctl.partTime →
        t.debris = { s.debris with cal := none, s := 0, d := none, dirtyLogged := false }) ∧
      t.debris.floors = s.debris.floors ∧ t.debris.clearRef = s.debris.clearRef)

/-- The ID line. A reading of 3,200 mV or more, or ABOVE, is the bare wand; a lower one resolves to the enabled entry
of lowest index whose window contains it, else to UNKNOWN. A sample that resolves to the result in force refreshes the
voltage; another result becomes the candidate; at the third sample in a row it takes effect: the match changes, the
jam count is cleared, and a latched roll drive is released. A timer's command acts while that timer runs, due or not:
the model's choice (log 4). That a sample confirming the UNKNOWN of a reset gives the match its voltage is DEDUCED (log
58). -/
def Obligations.IdSampleDebounces : Prop :=
  (∀ (entries : List AttEntry) (v : Int),
    (3200 ≤ v → resolveId entries (.num v) = .bare) ∧ resolveId entries .above = .bare ∧
    (v < 3200 → ∀ i e, entries[i]? = some e → e.enabled = true → (e.idLow : Int) ≤ v → v ≤ e.idHigh →
      ∃ j f, j ≤ i ∧ entries[j]? = some f ∧ resolveId entries (.num v) = .entry j ∧ f.enabled = true ∧
        (f.idLow : Int) ≤ v ∧ v ≤ f.idHigh) ∧
    (v < 3200 → (∀ e ∈ entries, e.enabled = true → v < e.idLow ∨ (e.idHigh : Int) < v) →
      resolveId entries (.num v) = .unknown)) ∧
  (∀ (s : State) (reading : Reading), s.ctl.power ≠ .ship → s.att.sampleTimer.isSome = true →
    let r := resolveId s.att.entries reading
    let att : Att := { s.att with latest := reading, sampleTimer := some (s.ctl.partTime + 50) }
    (r = s.att.result → exec (.idSample reading) s
      = .next (settle { s with att := { att with voltage := reading, candidate := none, count := 0 } })) ∧
    (r ≠ s.att.result → s.att.candidate ≠ some r → exec (.idSample reading) s
      = .next (settle { s with att := { att with candidate := some r, count := 1 } })) ∧
    (r ≠ s.att.result → s.att.candidate = some r → s.att.count = 1 → exec (.idSample reading) s
      = .next (settle { s with att := { att with count := 2 } })) ∧
    (r ≠ s.att.result → s.att.candidate = some r → s.att.count = 2 → ∃ t, exec (.idSample reading) s = .next t ∧
      t.att.result = r ∧ t.att.voltage = reading ∧ t.att.candidate = none ∧ t.att.count = 0 ∧
      t.att.entries = s.att.entries ∧ t.roll.jamCount = 0 ∧
      (s.roll.state = .jamLatched ∨ s.roll.state = .fault → t.roll.state = .off) ∧ t.drive = s.drive ∧
      Spec.PackKept s t ∧ t.prot = s.prot))

/-! ### Contact link -/

/-- The contact frames. What the dock sends as a HAIL or a POLL a stick reads back with every field, and what a stick
sends as an ANSWER or a NEED a dock reads back, for every content whose fields fit their widths. The contact receiver. A
start byte opens a frame, and each further byte is kept and starts the 5 ms gap anew, up to the byte that the length calls
for; a gap discards the frame, and a complete frame that is not valid is discarded while an open reply window stays open.
A stick that is sending hears nothing. A timer's command acts while that timer runs, due or not (log 4), a byte acts as
the invalid frame it completes (log 34), and a frame longer than 16 is collected to its end (log 35): the model's choices.
A frame with 0xFFFF, the code of ABSENT, in a field that is always a number (the dock budget, the bin load, the target or
the limit) is not valid: DEDUCED, the model's choice too (log 45). So are the choices to take a POLL whose I_out is ABSENT
or BELOW (log 78), and numbers beyond the range that their quantity has in the part that sends it (log 79). -/
def Obligations.ContactLinkAgrees : Prop :=
  (∀ s : State,
    (s.charger.budget ≤ 600000 →
      frameMessage .stick (contactWire 0x11 (hailPayload s)).tail
        = some (.hail ⟨1, s.charger.budget / 1000, s.dockFlags⟩)) ∧
    ((∀ v ∈ s.charger.vOut, v < 65535) →
      (∀ n, s.charger.iOut = .num n → -32767 < n ∧ n < 32767) →
      frameMessage .stick (contactWire 0x12 (pollPayload s)).tail
        = some (.poll ⟨s.charger.state, s.charger.vOut, s.charger.iOut, s.dock.report, s.dockFlags⟩)) ∧
    ((∀ n ∈ s.soc, n < 65535) → s.debris.b < 65535000 →
      frameMessage .dock (contactWire 0x91 (answerPayload s)).tail
        = some (.answer ⟨s.cellCount, s.soc, s.debris.b / 1000, s.prot.level, s.stick.evacRequest⟩)) ∧
    ((∀ n ∈ s.soc, n < 65535) → s.pack.need.target < 65535 → s.pack.need.limit < 65535 →
      frameMessage .dock (contactWire 0x92 (needPayload s)).tail
        = some (.need ⟨s.pack.need, s.stick.evacRequest, s.prot.level, s.soc⟩))) ∧
  (∀ p : List Byte,
    (p.length = 4 → u16At p 1 = 65535 → frameMessage .stick (contactWire 0x11 p).tail = none) ∧
    (p.length = 7 → u16At p 3 = 65535 → frameMessage .dock (contactWire 0x91 p).tail = none) ∧
    (p.length = 11 → u16At p 0 = 65535 ∨ u16At p 2 = 65535 → frameMessage .dock (contactWire 0x92 p).tail = none)) ∧
  (∀ (s : State) (byte : Byte), s.ctl.power ≠ .ship →
    let gap := some (s.ctl.partTime + 5)
    let quiet : State := { s with contact := { s.contact with rx := none, rxGap := none } }
    (s.ctl.role = .stick → s.contact.tx.isSome = true → exec (.contactByteArrival byte) s = .next (settle s)) ∧
    (s.ctl.role = .dock ∨ s.contact.tx = none →
      (s.contact.rx = none → byte = 0x5A → exec (.contactByteArrival byte) s
        = .next (settle { s with contact := { s.contact with rx := some [], rxGap := gap } })) ∧
      (s.contact.rx = none → byte ≠ 0x5A → exec (.contactByteArrival byte) s = .next (settle s)) ∧
      (∀ bytes, s.contact.rx = some bytes →
        (bytes.length = 0 ∨ bytes.length + 1 ≠ byteAt (bytes ++ [byte]) 1 + 3 → exec (.contactByteArrival byte) s
          = .next (settle { s with contact := { s.contact with rx := some (bytes ++ [byte]), rxGap := gap } })) ∧
        (bytes.length ≠ 0 → bytes.length + 1 = byteAt (bytes ++ [byte]) 1 + 3 →
          frameMessage s.ctl.role (bytes ++ [byte]) = none →
          exec (.contactFrameInvalid byte) s = .next (settle quiet) ∧
          exec (.contactByteArrival byte) s = .next (settle quiet)))) ∧
    (s.contact.rx.isSome = true → exec .contactRxGapTimeout s = .next (settle quiet)))

/-- The stick session. A sample above 9,000 mV sets the present timer in DETACHED; high for 50 ms, the session is
DOCKED, the mode OFF and neither drive running. On the dock a sample below 3,000 mV sets the absent timer; low for 200
ms, the session is DETACHED with no binding and no request, and CHG_OC is released, also from the charge need record.
The silence timer takes CHARGING back to DOCKED. So each sample and each expiry of the silence timer ends in a next state.
The premise on the roll drive, which runs only while the suction drive is in RUN, is part of the invariant that
MotorStaysPermitted states. A timer's command acts while that timer runs, due or not: the model's choice (log 4). -/
def Obligations.StickPresenceFollows : Prop :=
  (∀ (s : State) (mV : Nat), s.ctl.power ≠ .ship → s.ctl.role = .stick →
    (s.stick.state = .detached →
      (mV ≤ 9000 → exec (.contactVoltageSample mV) s
        = .next (settle { s with stick := { s.stick with contactV := some mV, presentTimer := none } })) ∧
      (9000 < mV → s.stick.presentTimer = none → exec (.contactVoltageSample mV) s
        = .next (settle { s with stick := { s.stick with contactV := some mV,
                                                         presentTimer := some s.ctl.partTime } })) ∧
      (∀ t0, 9000 < mV → s.stick.presentTimer = some t0 → (s.ctl.partTime - t0).toNat < 50 →
        exec (.contactVoltageSample mV) s
          = .next (settle { s with stick := { s.stick with contactV := some mV } })) ∧
      (∀ t0, 9000 < mV → s.stick.presentTimer = some t0 → 50 ≤ (s.ctl.partTime - t0).toNat →
        ∃ t, exec (.contactVoltageSample mV) s = .next t ∧ t.stick.state = .docked ∧ t.stick.presentTimer = none ∧
          t.stick.enteredAt = s.ctl.partTime ∧ t.stick.binding = s.stick.binding ∧ t.drive.mode = .off ∧
          t.drive.state.drives = false ∧ t.roll.state.held = false ∧
          ((s.roll.state.runs = true → s.drive.state = .run) → t.roll.state = .off ∧
            (s.roll.state ≠ .off → t.roll.appliedDuty = 0)) ∧ t.debris.cal = none ∧ t.pack.q = s.pack.q ∧
          t.prot = s.prot ∧ t.store = s.store)) ∧
    (s.stick.state ≠ .detached →
      (3000 ≤ mV → exec (.contactVoltageSample mV) s
        = .next (settle { s with stick := { s.stick with contactV := some mV, absentTimer := none } })) ∧
      (mV < 3000 → s.stick.absentTimer = none → exec (.contactVoltageSample mV) s
        = .next (settle { s with stick := { s.stick with contactV := some mV, absentTimer := some s.ctl.partTime } })) ∧
      (∀ t0, mV < 3000 → s.stick.absentTimer = some t0 → (s.ctl.partTime - t0).toNat < 200 →
        exec (.contactVoltageSample mV) s
          = .next (settle { s with stick := { s.stick with contactV := some mV } })) ∧
      (∀ t0, mV < 3000 → s.stick.absentTimer = some t0 → 200 ≤ (s.ctl.partTime - t0).toNat →
        ∃ t, exec (.contactVoltageSample mV) s = .next t ∧ t.stick.state = .detached ∧ t.stick.binding = none ∧
          t.stick.evacRequest = false ∧ t.stick.silence = none ∧ t.stick.absentTimer = none ∧
          t.prot.active = { s.prot.active with chgOc := false } ∧ t.pack.q = s.pack.q ∧ t.debris.b = s.debris.b ∧
          (s.prot.active.chgOc = true → t.pack.need.reason ≠ .cutoffChg) ∧ t.store = s.store))) ∧
  (∀ s : State, s.ctl.power ≠ .ship → s.stick.state = .charging → s.stick.silence.isSome = true →
    ∃ t, exec .silenceTimerExpiry s = .next t ∧ Spec.LeavesAs
      { s with stick := { s.stick with state := .docked, silence := none, enteredAt := s.ctl.partTime } } t)

/-- The stick's replies. A HAIL of version 1 taken on the dock binds the stick, takes CHARGING back to DOCKED and
forms an ANSWER; one of another version changes nothing. A POLL updates the binding, empties the bin at the first
DONE, moves between DOCKED and CHARGING with the charger's state, and forms a NEED. The reply starts 2 ms later, and
with its last byte sent the stick listens again. That a reply formed before the first has started replaces it (log 46),
that a byte acts as the taking it completes (log 34), and that a reply starts on its command, due or not (log 4), are the
model's choices. The premise on the SHIP decision is part of the invariant of the host link. -/
def Obligations.StickReplies : Prop :=
  (∀ (s : State) (check : Byte) (m : HailMsg), s.ctl.power ≠ .ship → Spec.Sends s → s.stick.state ≠ .detached →
    s.completesMessage check = some (.hail m) →
    (m.version ≠ 1 → exec (.hailTaken check) s
      = .next (settle { s with contact := { s.contact with rx := none, rxGap := none } })) ∧
    (m.version = 1 → ∃ t k, exec (.hailTaken check) s = .next t ∧ t.stick.binding = some k ∧ k.version = some 1 ∧
      k.budget = some m.budget ∧ k.flags = m.flags ∧
      k.seenDone = (s.stick.binding.map StickBinding.seenDone).getD false ∧
      k.lastPoll = s.stick.binding.bind StickBinding.lastPoll ∧ t.stick.state = .docked ∧
      t.stick.evacRequest = Spec.wantsEvacuation s.evacSet s.debris.b t.stick.binding ∧
      t.contact.waiting = some (contactWire 0x91 (answerPayload t)) ∧
      t.contact.replyDue = some (s.ctl.partTime + 2) ∧ t.contact.rx = none ∧ t.debris = s.debris ∧ t.drive = s.drive ∧
      t.prot = s.prot) ∧
    exec (.contactByteArrival check) s = exec (.hailTaken check) s) ∧
  (∀ (s : State) (check : Byte) (m : PollMsg), s.ctl.power ≠ .ship → Spec.Sends s → s.stick.state ≠ .detached →
    s.completesMessage check = some (.poll m) →
    let seen := (s.stick.binding.map StickBinding.seenDone).getD false
    let regulates := m.charger = .cc ∨ m.charger = .cv
    ∃ t k, exec (.pollTaken check) s = .next t ∧ t.stick.binding = some k ∧ k.lastPoll = some m ∧ k.flags = m.flags ∧
      k.seenDone = (seen || decide (m.evac = .done)) ∧
      (m.evac = .done → seen = false → t.debris.b = 0) ∧ (¬ (m.evac = .done ∧ seen = false) → t.debris = s.debris) ∧
      (s.stick.state = .charging → (regulates → t.stick.state = .charging ∧
          t.stick.silence = some (s.ctl.partTime + 2000)) ∧
        (¬ regulates → t.stick.state = .docked ∧ t.stick.silence = none)) ∧
      (s.stick.state = .docked → (regulates ∧ s.chargeFlows = true → t.stick.state = .charging ∧
          t.stick.silence = some (s.ctl.partTime + 2000)) ∧
        (¬ (regulates ∧ s.chargeFlows = true) → t.stick.state = .docked)) ∧
      t.stick.evacRequest = Spec.wantsEvacuation s.evacSet t.debris.b t.stick.binding ∧
      t.contact.waiting = some (contactWire 0x92 (needPayload t)) ∧
      t.contact.replyDue = some (s.ctl.partTime + 2) ∧ t.drive = s.drive ∧ t.prot = s.prot ∧ t.pack.q = s.pack.q) ∧
  (∀ s : State, s.ctl.power ≠ .ship → s.ctl.role = .stick →
    (s.contact.waiting.isSome = true → exec .stickReplyStart s = .next (settle { s with contact :=
      { s.contact with tx := s.contact.waiting, waiting := none, replyDue := none } })) ∧
    (s.contact.tx.isSome = true → exec .stickReplySent s
      = .next (settle { s with contact := { s.contact with tx := none } })))

/-- The dock's presence and timers. A present sample in VACANT sets the present timer where it is absent, and before 100
ms changes nothing else; present for 100 ms, the session is HAILING with the charger off and a HAIL sent. In every other
state an absent sample sets the absent timer where it is absent, a present one clears it, and absent for 100 ms, the
session is VACANT: no binding, no run, no window, the latch released and the charger OFF. That the present timer is absent
after the entry to HAILING, and the absent timer after the entry to VACANT, is the model's choice (DEDUCED, log 48). An
expiry of the hail or poll timer sends its frame and starts the timer again; an open window holds the frame back. A
timer's command acts while that timer runs, due or not: the model's choice (log 4). How a held frame waits, and that its
timer restarts meanwhile, are the model's choices (logs 26 and 68). The premise on the SHIP decision is part of the
invariant of the host link. -/
def Obligations.DockPresenceFollows : Prop :=
  (∀ (s : State) (mA : Nat), s.ctl.power ≠ .ship → Spec.Sends s → s.ctl.role = .dock →
    (s.dock.state = .vacant →
      (mA = 0 → exec (.contactCurrentSample mA) s
        = .next (settle { s with dock := { s.dock with contactI := some mA, presentTimer := none } })) ∧
      (0 < mA → s.dock.presentTimer = none → exec (.contactCurrentSample mA) s
        = .next (settle { s with dock := { s.dock with contactI := some mA, presentTimer := some s.ctl.partTime } })) ∧
      (∀ t0, 0 < mA → s.dock.presentTimer = some t0 → (s.ctl.partTime - t0).toNat < 100 →
        exec (.contactCurrentSample mA) s
          = .next (settle { s with dock := { s.dock with contactI := some mA } })) ∧
      (∀ t0, 0 < mA → s.dock.presentTimer = some t0 → 100 ≤ (s.ctl.partTime - t0).toNat →
        ∃ t, exec (.contactCurrentSample mA) s = .next t ∧ t.dock.state = .hailing ∧ t.dock.hailCount = 0 ∧
          t.dock.hailPeriod = 250 ∧ t.dock.hailTimer = some (s.ctl.partTime + 250) ∧ t.dock.presentTimer = none ∧
          t.dock.enteredAt = s.ctl.partTime ∧
          (t.charger.state = .off ∨ t.charger.state = .fault ∧ s.charger.latched = true) ∧
          (s.dock.window = none → s.contact.tx = none →
            t.contact.tx = some (contactWire 0x11 (hailPayload t)) ∧ t.contact.txKind = some .hail) ∧
          t.drive = s.drive ∧ t.evac = s.evac)) ∧
    (s.dock.state ≠ .vacant →
      (0 < mA → exec (.contactCurrentSample mA) s
        = .next (settle { s with dock := { s.dock with contactI := some mA, absentTimer := none } })) ∧
      (mA = 0 → s.dock.absentTimer = none → exec (.contactCurrentSample mA) s
        = .next (settle { s with dock := { s.dock with contactI := some mA, absentTimer := some s.ctl.partTime } })) ∧
      (∀ t0, mA = 0 → s.dock.absentTimer = some t0 → (s.ctl.partTime - t0).toNat < 100 →
        exec (.contactCurrentSample mA) s
          = .next (settle { s with dock := { s.dock with contactI := some mA } }))) ∧
    (s.dock.state ≠ .vacant → ∀ t0, mA = 0 → s.dock.absentTimer = some t0 → 100 ≤ (s.ctl.partTime - t0).toNat →
      ∃ t, exec (.contactCurrentSample mA) s = .next t ∧ t.dock.state = .vacant ∧ t.dock.binding = none ∧
        t.dock.report = .idle ∧ t.dock.hailTimer = none ∧ t.dock.pollTimer = none ∧ t.dock.window = none ∧
        t.dock.hailCount = 0 ∧ t.dock.absentTimer = none ∧ t.dock.contactI = some 0 ∧ t.charger.state = .off ∧
        t.charger.latched = false ∧ t.charger.faultCount = 0 ∧ t.evac.phase = .none)) ∧
  (∀ s : State, s.ctl.power ≠ .ship → Spec.Sends s →
    (s.dock.hailTimer.isSome = true → ∃ t, exec .hailTimerExpiry s = .next t ∧
      t.dock = { s.dock with hailTimer := some (s.ctl.partTime + BitVec.ofNat 32 s.dock.hailPeriod) } ∧
      (s.dock.window = none ∧ s.contact.tx = none → t.contact = { s.contact with
        tx := some (contactWire 0x11 (hailPayload s)), txKind := some .hail }) ∧
      (s.dock.window.isSome = true ∨ s.contact.tx.isSome = true → t.contact = { s.contact with held := some .hail })) ∧
    (s.dock.pollTimer.isSome = true → ∃ t, exec .pollTimerExpiry s = .next t ∧
      t.dock = { s.dock with pollTimer := some (s.ctl.partTime + 500) } ∧
      (s.dock.window = none ∧ s.contact.tx = none → t.contact = { s.contact with
        tx := some (contactWire 0x12 (pollPayload s)), txKind := some .poll }) ∧
      (s.dock.window.isSome = true ∨ s.contact.tx.isSome = true → t.contact = { s.contact with held := some .poll })))

/-- The dock's reply windows. The last byte of a frame opens its window for 50 ms, in whatever state the session is. A
window that expires counts an unanswered HAIL or a missed POLL; the third missed POLL enters HOLD with the charger off,
any run ended, and NEED_LOST logged; in HOLD the misses up to the nineteenth are counted and the session stays; the
twentieth drops the binding and hails again. An ANSWER accepted in HAILING binds the stick and polls it, with the session
BOUND, or EVACUATING and the report state RUNNING while a run is in flight; a NEED accepted clears the misses, and starts
or stops the charge; in EVACUATING the session stays, and from HOLD it goes back to BOUND or CHARGING, or to EVACUATING
while a run is in flight. A report state of DONE returns to IDLE at a NEED whose evacuate_request is false, and stands at
one that asks and starts no run. A timer's command acts while that timer runs, due or not: the model's choice (log 4). How
a held frame waits is the model's choice (log 26), and so is that a limit above 4,000 is taken as it stands (log 79). The
premise on the SHIP decision is part of the invariant of the host link. -/
def Obligations.DockWindowsJudge : Prop :=
  (∀ s : State, s.ctl.power ≠ .ship → s.ctl.role = .dock → s.contact.tx.isSome = true →
    exec .contactFrameSent s = .next (settle
      { s with contact := { s.contact with tx := none, txKind := none },
               dock := { s.dock with window := s.contact.txKind, windowDue := some (s.ctl.partTime + 50) } })) ∧
  (∀ s : State, s.ctl.power ≠ .ship → s.contact.held = none →
    (s.dock.window = some .hail → s.dock.hailCount < 19 →
      exec .replyWindowExpiry s = .next (settle { s with dock := { s.dock with
        window := none, windowDue := none, hailCount := s.dock.hailCount + 1 } })) ∧
    (s.dock.window = some .hail → s.dock.hailCount = 19 → s.dock.noAnswerLogged = false →
      ∃ t, exec .replyWindowExpiry s = .next t ∧ t.dock = { s.dock with
        window := none, windowDue := none, hailCount := 20, noAnswerLogged := true, hailPeriod := 1000 } ∧
        Spec.Logged s t .dockLink .noAnswer (.num 20) none) ∧
    (s.dock.window = some .poll → s.dock.binding = none → s.dock.state = .vacant → exec .replyWindowExpiry s
      = .next (settle { s with dock := { s.dock with window := none, windowDue := none } })) ∧
    (∀ k, s.dock.window = some .poll → s.dock.binding = some k → s.dock.state ≠ .vacant → s.dock.state ≠ .hailing →
      (k.missCount < 2 → exec .replyWindowExpiry s = .next (settle { s with dock := { s.dock with
        window := none, windowDue := none, binding := some { k with missCount := k.missCount + 1 } } })) ∧
      (k.missCount = 2 → s.dock.state ≠ .hold → ∃ t, exec .replyWindowExpiry s = .next t ∧ t.dock.state = .hold ∧
        t.dock.window = none ∧ t.evac.phase = .none ∧ (t.dock.binding.map DockBinding.missCount) = some 3 ∧
        t.dock.pollTimer = s.dock.pollTimer ∧
        (t.charger.state = .off ∨ t.charger.state = .fault ∧ s.charger.latched = true) ∧
        Spec.Logged s t .dockLink .needLost (.num 3) (some (.num (dockStateCode s.dock.state)))) ∧
      (2 ≤ k.missCount → k.missCount < 19 → s.dock.state = .hold → exec .replyWindowExpiry s
        = .next (settle { s with dock := { s.dock with
            state := .hold, window := none, windowDue := none,
            binding := some { k with missCount := k.missCount + 1 } } })) ∧
      (19 ≤ k.missCount → s.dock.state = .hold → ∃ t, exec .replyWindowExpiry s = .next t ∧ t.dock.state = .hailing ∧
        t.dock.binding = none ∧ t.dock.report = .idle ∧ t.dock.pollTimer = none ∧ t.dock.hailCount = 0))) ∧
  (∀ (s : State) (check : Byte) (m : AnswerMsg), s.ctl.power ≠ .ship → Spec.Sends s →
    s.completesMessage check = some (.answer m) → s.dock.window = some .hail → s.dock.state = .hailing →
    s.contact.held = none → s.contact.tx = none → s.evac.phase = .none →
    ∃ t, exec (.answerAccepted check) s = .next t ∧ t.dock.state = .bound ∧ t.dock.window = none ∧
      t.dock.hailTimer = none ∧ t.dock.pollTimer = some (s.ctl.partTime + 500) ∧ t.dock.report = .idle ∧
      t.dock.binding = some ⟨m.cells, m.soc, m.binLoad, m.level, none, 0, 0, 0, none, s.ctl.partTime⟩ ∧
      t.charger.faultCount = 0 ∧ t.contact.tx = some (contactWire 0x12 (pollPayload t)) ∧ t.contact.rx = none) ∧
  (∀ (s : State) (check : Byte) (m : AnswerMsg), s.ctl.power ≠ .ship → Spec.Sends s →
    s.completesMessage check = some (.answer m) → s.dock.window = some .hail → s.dock.state = .hailing →
    s.contact.held = none → s.contact.tx = none → s.evac.phase ≠ .none →
    ∃ t, exec (.answerAccepted check) s = .next t ∧ t.dock.state = .evacuating ∧ t.dock.window = none ∧
      t.dock.enteredAt = s.ctl.partTime ∧ t.dock.hailTimer = none ∧
      t.dock.pollTimer = some (s.ctl.partTime + 500) ∧ t.dock.report = .running ∧
      t.dock.binding = some ⟨m.cells, m.soc, m.binLoad, m.level, none, 0, 0, 0, none, s.ctl.partTime⟩ ∧
      t.charger = { s.charger with faultCount := 0 } ∧ t.evac = s.evac ∧ t.drive = s.drive ∧
      t.contact.tx = some (contactWire 0x12 (pollPayload t)) ∧ t.contact.rx = none) ∧
  (∀ (s : State) (check : Byte) (m : NeedMsg) (k : DockBinding), s.ctl.power ≠ .ship →
    s.completesMessage check = some (.need m) → s.dock.window = some .poll → s.dock.binding = some k →
    s.contact.held = none →
    s.dock.state = .bound ∨ s.dock.state = .charging ∨ s.dock.state = .evacuating ∨ s.dock.state = .hold →
    ∃ t, exec (.needAccepted check) s = .next t ∧
      (m.evacRequest = false → s.dock.report = .done → t.dock.report = .idle) ∧
      (m.evacRequest = false → s.dock.report ≠ .done → t.dock.report = s.dock.report) ∧
      (m.evacRequest = true → k.evacsDone ≠ 0 ∨ s.drive.state ≠ .off ∨ s.evac.phase ≠ .none →
        t.dock.report = s.dock.report ∧ t.evac = s.evac)) ∧
  (∀ (s : State) (check : Byte) (m : NeedMsg) (k : DockBinding), s.ctl.power ≠ .ship →
    s.completesMessage check = some (.need m) → s.dock.window = some .poll → s.dock.binding = some k →
    s.contact.held = none → s.evac.phase = .none → m.evacRequest = false →
    s.dock.state = .bound ∨ s.dock.state = .charging →
    ∃ t, exec (.needAccepted check) s = .next t ∧ t.dock.window = none ∧
      t.dock.binding = some { k with need := some m, needTime := s.ctl.partTime, missCount := 0 } ∧
      (m.need.permitted = true ∧ 0 < m.need.limit → t.dock.state = .charging ∧ t.charger.target = m.need.target ∧
        t.charger.needLimit = m.need.limit ∧ t.charger.setpoint ≤ m.need.limit ∧
        (s.charger.state = .off → t.charger.state = .softstart ∧ t.charger.setpoint = 0) ∧
        (s.charger.state ≠ .off → t.charger.state = s.charger.state)) ∧
      (¬ (m.need.permitted = true ∧ 0 < m.need.limit) → t.dock.state = .bound ∧
        (s.dock.state = .charging → t.charger.state = .off ∨ t.charger.state = .fault ∧ s.charger.latched = true)) ∧
      t.drive = s.drive ∧ t.evac = s.evac) ∧
  (∀ (s : State) (check : Byte) (m : NeedMsg) (k : DockBinding), s.ctl.power ≠ .ship →
    s.completesMessage check = some (.need m) → s.dock.window = some .poll → s.dock.binding = some k →
    s.contact.held = none → (s.dock.state = .hold → s.evac.phase = .none → m.evacRequest = false) →
    s.dock.state = .evacuating ∨ s.dock.state = .hold →
    let asks : Prop := m.need.permitted = true ∧ 0 < m.need.limit
    ∃ t, exec (.needAccepted check) s = .next t ∧ t.dock.window = none ∧
      t.dock.binding = some { k with need := some m, needTime := s.ctl.partTime, missCount := 0 } ∧
      (s.dock.state = .evacuating ∨ s.evac.phase ≠ .none → t.dock.state = .evacuating) ∧
      (s.dock.state = .hold → s.evac.phase = .none → asks → t.dock.state = .charging) ∧
      (s.dock.state = .hold → s.evac.phase = .none → ¬ asks → t.dock.state = .bound) ∧
      (asks → t.charger.target = m.need.target ∧ t.charger.needLimit = m.need.limit ∧
        t.charger.setpoint ≤ m.need.limit ∧
        (s.charger.state = .off → t.charger.state = .softstart ∧ t.charger.setpoint = 0)) ∧
      (¬ asks → t.charger.state = .off ∨ t.charger.state = .fault ∧ s.charger.latched = true) ∧
      t.drive = s.drive ∧ t.evac = s.evac)

/-! ### Charger and evacuation -/

/-- The charger stage. A reading outside governor periods enters the record, I_out as 0 while the stage does not switch.
At a governor period in DOCK role a stage that switches is judged by the means of the period's readings: OVP, V_out above
the target + 300 mV, and OCP, I_out above the setpoint + 1,000 mA or ABOVE, for 10 ms from the period that set their
timers, and SUPPLY_UV, the supply below 30,000 mV or ABSENT, at once. The first found in that order takes it to FAULT with
setpoint 0, its count raised, its entry logged, and at the third latched, else with the restart timer of 5 s. With none, S
is the least of the need limit and the cap: the setpoint ramps as S × t / 200 in SOFTSTART and is S from 200 ms on, in CC;
in CC and CV it is S, and the stage goes to CV at a V_out of the target − 20 mV and back at an I_out of the setpoint or
ABOVE. The restart timer leads to SOFTSTART while the session charges on a NEED that asks for it, and else to OFF. A
timer's command acts while that timer runs, due or not (log 4), the means are truncated and stand without a reading (log
71), and restart pending stands at the entry to SOFTSTART, cleared at OFF and FAULT alone (DEDUCED, log 64): the model's
choices. -/
def Obligations.ChargerActs : Prop :=
  (∀ (s : State) (r : ChargerReadings), s.ctl.power ≠ .ship → s.ctl.role = .dock → s.gov.timer = none →
    exec (.chargerReading r) s = .next (settle { s with charger := { s.charger with
      vOut := r.vOut, supply := r.supply,
      iOut := if s.charger.state = .off ∨ s.charger.state = .fault then .num 0 else r.iOut } })) ∧
  (∀ (s : State) (readings : List ChargerReadings), s.ctl.power ≠ .ship → s.ctl.role = .dock → s.gov.timer.isSome = true →
    s.charger.state.switches = true →
    let c := s.charger
    let now := s.ctl.partTime
    let vOut := Spec.meanVoltage (readings.map ChargerReadings.vOut) c.vOut
    let supply := Spec.meanVoltage (readings.map ChargerReadings.supply) c.supply
    let iOut := Spec.meanCurrent readings c.iOut
    let overVoltage : Prop := ∃ w, vOut = some w ∧ c.target + 300 < w
    let overCurrent : Prop := iOut = .above ∨ ∃ n : Int, iOut = .num n ∧ (c.setpoint : Int) + 1000 < n
    let weak : Prop := supply = none ∨ ∃ v, supply = some v ∧ v < 30000
    let held (timer : Option Ms) : Prop := ∃ t0, timer = some t0 ∧ 10 ≤ (now - t0).toNat
    let ovp : Prop := overVoltage ∧ held c.ovpTimer
    let ocp : Prop := overCurrent ∧ held c.ocpTimer
    ∃ t, exec (.governorPeriod readings) s = .next t ∧
      (ovp ∨ ocp ∨ weak → t.charger.state = .fault ∧ t.charger.setpoint = 0 ∧ t.charger.iOut = .num 0 ∧
        t.charger.ovpTimer = none ∧ t.charger.ocpTimer = none ∧ t.charger.enteredAt = now ∧
        t.charger.faultCount = c.faultCount + 1 ∧ (3 ≤ c.faultCount + 1 → t.charger.latched = true) ∧
        (c.faultCount + 1 < 3 → t.charger.latched = c.latched ∧ t.charger.restartTimer = some (now + 5000) ∧
          t.charger.restartPending = false) ∧
        (∀ w, ovp → vOut = some w → t.charger.faultCause = some .ovp ∧
          Spec.Logged s t .charger .ovp (Reading.num w).fit16 (some (Reading.num c.target).fit16)) ∧
        (¬ ovp → ocp → t.charger.faultCause = some .ocp ∧
          Spec.Logged s t .charger .ocp iOut.fit16 (some (Reading.num c.setpoint).fit16)) ∧
        (¬ ovp → ¬ ocp → t.charger.faultCause = some .supplyUv ∧ Spec.Logged s t .charger .supplyUv
          (match supply with | some v => (Reading.num v).fit16 | none => .absent)
          (some (Reading.num (c.faultCount + 1 : Nat)).fit16))) ∧
      (¬ (ovp ∨ ocp ∨ weak) → ∃ sp, t.charger.split = some sp ∧
        let full := min c.needLimit sp.cap
        let age := (now - c.enteredAt).toNat
        let reached : Prop := ∃ w, vOut = some w ∧ c.target ≤ w + 20
        let takesOver : Prop := iOut = .above ∨ ∃ n : Int, iOut = .num n ∧ (full : Int) ≤ n
        (overVoltage → t.charger.ovpTimer = some (c.ovpTimer.getD now)) ∧ (¬ overVoltage → t.charger.ovpTimer = none) ∧
        (overCurrent → t.charger.ocpTimer = some (c.ocpTimer.getD now)) ∧ (¬ overCurrent → t.charger.ocpTimer = none) ∧
        t.charger.faultCount = c.faultCount ∧ t.charger.latched = c.latched ∧ t.charger.target = c.target ∧
        t.charger.needLimit = c.needLimit ∧
        (c.state = .softstart → age < 200 → t.charger.state = .softstart ∧ t.charger.enteredAt = c.enteredAt ∧
          t.charger.setpoint = full * age / 200) ∧
        (c.state = .softstart → 200 ≤ age → t.charger.state = .cc ∧ t.charger.enteredAt = now ∧
          t.charger.setpoint = full) ∧
        (c.state = .cc → t.charger.setpoint = full ∧
          (reached → t.charger.state = .cv ∧ t.charger.enteredAt = now) ∧
          (¬ reached → t.charger.state = .cc ∧ t.charger.enteredAt = c.enteredAt)) ∧
        (c.state = .cv → t.charger.setpoint = full ∧
          (takesOver → t.charger.state = .cc ∧ t.charger.enteredAt = now) ∧
          (¬ takesOver → t.charger.state = .cv ∧ t.charger.enteredAt = c.enteredAt)))) ∧
  (∀ s : State, s.ctl.power ≠ .ship → s.charger.state = .fault → s.charger.restartTimer.isSome = true →
    let fresh : Charger := { s.charger with
      setpoint := 0, ovpTimer := none, ocpTimer := none, faultCause := none, restartTimer := none,
      enteredAt := s.ctl.partTime }
    let asked : Prop := (s.dock.state = .charging ∨ s.dock.state = .evacuating) ∧
      ∃ k m, s.dock.binding = some k ∧ k.need = some m ∧ m.need.permitted = true ∧ 0 < m.need.limit
    (asked → exec .restartTimerExpiry s = .next (settle { s with charger := { fresh with state := .softstart } })) ∧
    (¬ asked → exec .restartTimerExpiry s = .next (settle { s with charger :=
      { fresh with state := .off, iOut := .num 0, restartPending := false } })))

/-- An evacuation run. START_EVACUATION is BUSY during a run and DENIED with the fan in FAULT; else it answers ACCEPTED:
from OFF the fan starts for it, in COAST a catch begins or goes on or the start waits, and a fan that drives changes its
owner alone; a bound or charging session is EVACUATING. The duration timer ends the run DONE: the fan stops, the session
goes back, and a counted run's result enters the binding. A NEED with evacuate_request true, accepted in BOUND, CHARGING
or HOLD with no run in flight, by a binding that has had none, starts a counted run once the fan is in OFF, after the
session step for its charge; with a run had, or the fan not in OFF, it starts none. A timer's command acts while that
timer runs, due or not: the model's choice (log 4). The misses that missesAtEnd keeps past the entry to COAST are a field
of the model (DEDUCED, log 59). That a limit above 4,000 is taken as it stands is the model's choice (log 79). -/
def Obligations.EvacuationRuns : Prop :=
  (∀ (s : State) (kind : Byte) (rest : List HostFrame), Spec.Heads s 0x2E kind [] rest → s.ctl.role = .dock →
    let b := beginTaking rest s
    (s.evac.phase ≠ .none → exec .startEvacuation s = .next (settle (Spec.reply kind 0x10 [] b))) ∧
    (s.evac.phase = .none → s.drive.state = .fault →
      exec .startEvacuation s = .next (settle (Spec.reply kind 0x16 [] b))) ∧
    (s.evac.phase = .none → s.drive.state ≠ .fault →
      ∃ u, exec .startEvacuation s = .next (settle (Spec.reply kind 0x01 [] u)) ∧ u.evac.phase = .spinning ∧
        u.evac.kind = some .manual ∧ u.evac.startTime = some s.ctl.partTime ∧ u.drive.owner = .evacuation ∧
        (s.drive.state = .off →
          u.drive.state = .align ∧ u.drive.duty = 330 ∧ u.drive.alignTimer = some (s.ctl.partTime + 40)) ∧
        (s.drive.state = .coast → u.drive.state = .coast ∧
          (∀ n, s.drive.catchCount = some n → u.drive.catchCount = some n) ∧
          (∀ v, s.drive.catchCount = none → s.drive.speed = some v → 20000 ≤ v → s.drive.speedAtStop.isSome = true →
            u.drive.catchCount = some 0 ∧ u.drive.ring = []) ∧
          (s.drive.catchCount = none → s.drive.speed = none ∨ (∃ v, s.drive.speed = some v ∧ v < 20000) ∨
            s.drive.speedAtStop = none → u.drive.startPending = true)) ∧
        (s.drive.state = .align ∨ s.drive.state = .ramp ∨ s.drive.state = .run →
          u.drive = { s.drive with owner := .evacuation, attempts := 0, retryPending := false }) ∧
        u.dock.report = .running ∧ u.dock.binding = s.dock.binding ∧
        (s.dock.state = .bound ∨ s.dock.state = .charging → u.dock.state = .evacuating) ∧
        (s.dock.state ≠ .bound → s.dock.state ≠ .charging → u.dock.state = s.dock.state) ∧
        u.charger = s.charger ∧ u.store = s.store)) ∧
  (∀ s : State, s.ctl.power ≠ .ship → s.evac.phase = .timing → s.evac.durationTimer.isSome = true →
    ∃ t, exec .durationTimerExpiry s = .next t ∧ t.evac.phase = .none ∧ t.evac.kind = none ∧
      t.evac.durationTimer = none ∧ t.evac.lastResult = some .done ∧ t.evac.lastKind = s.evac.kind ∧
      t.evac.lastEnd = some s.ctl.partTime ∧ t.dock.report = .done ∧
      (s.drive.owner = .evacuation → t.drive.state.drives = false) ∧
      (s.drive.state = .run → t.drive.state = .coast ∧ t.drive.owner = .none ∧
        t.drive.stallTimer = s.drive.stallTimer ∧ t.drive.overTimer = s.drive.overTimer ∧
        (s.drive.catchCount = none → t.missesAtEnd = some s.drive.missCount)) ∧
      (s.dock.state = .evacuating → t.dock.state = (if s.charger.state = .off then .bound else .charging)) ∧
      (s.dock.state ≠ .evacuating → t.dock.state = s.dock.state) ∧
      (∀ k, s.evac.kind = some .counted → s.dock.binding = some k →
        t.dock.binding = some { k with evacResult := some .done }) ∧ t.charger = s.charger) ∧
  (∀ (s : State) (check : Byte) (m : NeedMsg) (k : DockBinding), s.ctl.power ≠ .ship →
    s.completesMessage check = some (.need m) → s.dock.window = some .poll → s.dock.binding = some k →
    s.contact.held = none → s.evac.phase = .none → m.evacRequest = true →
    s.dock.state = .bound ∨ s.dock.state = .charging ∨ s.dock.state = .hold →
    let asks : Prop := m.need.permitted = true ∧ 0 < m.need.limit
    let heard : DockBinding := { k with need := some m, needTime := s.ctl.partTime, missCount := 0 }
    ∃ t, exec (.needAccepted check) s = .next t ∧ t.dock.window = none ∧
      (asks → t.charger.target = m.need.target ∧ t.charger.needLimit = m.need.limit ∧
        (s.charger.state = .off → t.charger.state = .softstart ∧ t.charger.setpoint = 0)) ∧
      (k.evacsDone = 0 → s.drive.state = .off → t.dock.state = .evacuating ∧ t.dock.report = .running ∧
        t.dock.binding = some { heard with evacsDone := 1 } ∧ t.evac.phase = .spinning ∧
        t.evac.kind = some .counted ∧ t.evac.startTime = some s.ctl.partTime ∧ t.drive.state = .align ∧
        t.drive.owner = .evacuation ∧ t.drive.duty = 330 ∧ t.drive.alignTimer = some (s.ctl.partTime + 40)) ∧
      (k.evacsDone ≠ 0 ∨ s.drive.state ≠ .off → t.dock.state = (if asks then .charging else .bound) ∧
        t.dock.binding = some heard ∧ t.evac = s.evac ∧ t.drive = s.drive))

/-! ### Calibration store -/

/-- The store requests. STORE_READ answers what the lookup of its tag finds. STORE_WRITE of a listed tag and length,
with an idle store, answers ACCEPTED and begins the write where the record fits the active segment, or a compaction
into segment 1 where no segment is active. STORE_ERASE begins with the header of its segment written to 0. A segment
or selector beyond its range is OUT_OF_RANGE, the locked factory segment LOCKED, and an operation in flight BUSY. The
header byte that an erase clears first is visible at its start (log 23). -/
def Obligations.StoreRequestsAct : Prop :=
  ∀ (s : State) (kind : Byte) (rest : List HostFrame) (p : List Byte),
    let b := beginTaking rest s
    (Spec.Heads s 0x30 kind p rest → p.length = 1 →
      (tagListed (byteAt p 0) = false → exec .storeRead s = .next (settle (Spec.reply kind 0x14 [] b))) ∧
      (tagListed (byteAt p 0) = true → lookup s.store.mem (byteAt p 0) = none →
        exec .storeRead s = .next (settle (Spec.reply kind 0x00 [0x00, 0xFF, 0x00] b))) ∧
      (∀ seg v, tagListed (byteAt p 0) = true → lookup s.store.mem (byteAt p 0) = some (seg, v) →
        exec .storeRead s = .next (settle (Spec.reply kind 0x00
          ([0x01, BitVec.ofNat 8 seg, BitVec.ofNat 8 v.length] ++ v) b)))) ∧
    (Spec.Heads s 0x31 kind p rest → 4 ≤ p.length → p.length ≤ 63 → byteAt p 2 + 3 = p.length →
      tagLength (byteAt p 1) (byteAt p 2) = true → byteAt p 1 ≠ 0xFE →
      let write : Nat → StoreOp := fun seg => ⟨.write, seg, byteAt p 1, 0x31, p.drop 3, 0, 0⟩
      (∀ seg, byteAt p 0 = 0 → s.store.op = none → s.store.active = some seg →
        s.store.fits seg (byteAt p 2) = true → exec .storeWrite s
          = .next (settle (Spec.reply kind 0x01 [] { b with store := { s.store with op := some (write seg) } }))) ∧
      (byteAt p 0 = 0 → s.store.op = none → s.store.active = none →
        ∃ u, exec .storeWrite s = .next (settle (Spec.reply kind 0x01 [] u)) ∧
          u.store.op = some ⟨.compaction, 1, byteAt p 1, 0x31, p.drop 3, 1, 1⟩ ∧
          u.store.mem = writeHeader s.store.mem 1 0 ∧ u.store.append = s.store.append ∧ Spec.LeavesAs
          { b with store := u.store } u) ∧
      (byteAt p 0 = 1 → s.store.factoryLock = false → s.store.op = none → s.store.fits 0 (byteAt p 2) = true →
        exec .storeWrite s
          = .next (settle (Spec.reply kind 0x01 [] { b with store := { s.store with op := some (write 0) } }))) ∧
      (byteAt p 0 = 1 → s.store.factoryLock = true →
        exec .storeWrite s = .next (settle (Spec.reply kind 0x17 [] b))) ∧
      (byteAt p 0 = 0 → s.store.op.isSome = true →
        exec .storeWrite s = .next (settle (Spec.reply kind 0x10 [] b))) ∧
      (1 < byteAt p 0 → exec .storeWrite s = .next (settle (Spec.reply kind 0x14 [] b)))) ∧
    (Spec.Heads s 0x32 kind p rest → p.length = 1 →
      (3 < byteAt p 0 → exec .storeErase s = .next (settle (Spec.reply kind 0x14 [] b))) ∧
      (byteAt p 0 = 0 → s.store.factoryLock = true →
        exec .storeErase s = .next (settle (Spec.reply kind 0x17 [] b))) ∧
      (byteAt p 0 ≤ 3 → (byteAt p 0 ≠ 0 ∨ s.store.factoryLock = false) → s.store.op.isSome = true →
        exec .storeErase s = .next (settle (Spec.reply kind 0x10 [] b))) ∧
      (byteAt p 0 ≤ 3 → (byteAt p 0 ≠ 0 ∨ s.store.factoryLock = false) → s.store.op = none →
        ∃ u, exec .storeErase s = .next (settle (Spec.reply kind 0x01 [] u)) ∧
          u.store.op = some ⟨.erase, byteAt p 0, 0, 0x32, [], 0, 0⟩ ∧
          u.store.mem = writeHeader s.store.mem (byteAt p 0) 0 ∧ u.store.append = s.store.append ∧ Spec.LeavesAs
          { b with store := u.store } u))

/-- The completions of the store's operations. A write whose read-back matches has appended its record, and moves the
append position past it; an erase leaves 0xFF throughout its segment and every other byte as it was; both end with no
operation in flight. A compaction goes through its five steps: clear the target, copy the records of the active segment,
append, write the header of the new generation, and erase the two others. A read-back that differs ends the operation
with a VERIFY entry. The bytes land at the completion (log 23), step 4 of a compaction is one step (log 24), and a
read-back that fails leaves free bytes (log 9): the model's choices. -/
def Obligations.StoreOperationsEnd : Prop :=
  ∀ (s : State) (op : StoreOp), s.ctl.power ≠ .ship → s.store.op = some op →
    (∀ pos, op.kind = .write → s.store.append[op.segment]? = some (some pos) →
      ∃ t, exec (.storeWriteComplete true) s = .next t ∧ t.store.op = none ∧
        t.store.mem = segWrite s.store.mem op.segment pos (recordBytes op.tag op.value) ∧
        t.store.append = s.store.append.set op.segment (some (pos + op.value.length + 3)) ∧
        t.store.active = activeOf t.store.mem ∧ t.drive = s.drive ∧ Spec.PackKept s t ∧ t.ctl.ring = s.ctl.ring) ∧
    (op.kind = .write → ∃ t, exec (.storeWriteComplete false) s = .next t ∧ t.store.op = none ∧
      t.freeCount = s.freeCount + 1 ∧ (op.tag < 32767 → op.segment < 32767 →
        Spec.Logged s t .store .verify (.num op.tag) (some (.num op.segment)))) ∧
    (op.kind = .erase → op.segment < 4 → memWf s.store.mem = true →
      ∃ t, exec (.storeEraseComplete true) s = .next t ∧ t.store.op = none ∧
        t.store.append = s.store.append.set op.segment (some 2) ∧
        (∀ i, i < 512 → segByte t.store.mem op.segment i = 0xFF) ∧
        (∀ a, a < op.segment * 512 ∨ op.segment * 512 + 512 ≤ a → memRead t.store.mem a = memRead s.store.mem a)) ∧
    (op.kind = .erase → ∃ t, exec (.storeEraseComplete false) s = .next t ∧ t.store.op = none ∧
      t.freeCount = s.freeCount + 1 ∧ t.ctl.nextSeq = s.ctl.nextSeq + 1 ∧ (op.tag < 32767 → op.segment < 32767 →
        Spec.Logged s t .store .verify (.num op.tag) (some (.num op.segment)))) ∧
    (op.kind = .compaction →
      (∀ n, op.step = n → n < 5 → 1 ≤ n → ∃ t, exec (.compactionStepComplete none) s = .next t ∧
        t.store.op = some { op with step := n + 1 } ∧
        (n = 1 → t.store.mem = segClear s.store.mem op.segment ∧
          t.store.append = s.store.append.set op.segment (some 2)) ∧
        (∀ pos active, n = 2 → s.store.append[op.segment]? = some (some pos) → s.store.active = some active →
          let copies := (compactionCopies s.store.mem active).flatten
          t.store.mem = segWrite s.store.mem op.segment pos copies ∧
          t.store.append = s.store.append.set op.segment (some (pos + copies.length))) ∧
        (n = 2 → s.store.active = none → t.store.mem = s.store.mem) ∧
        (n = 4 → t.store.mem = writeHeader s.store.mem op.segment op.generation ∧
          t.store.active = activeOf t.store.mem) ∧
        (∀ pos, n = 3 → s.store.append[op.segment]? = some (some pos) →
          t.store.mem = segWrite s.store.mem op.segment pos (recordBytes op.tag op.value))) ∧
      (op.step = 5 → 1 ≤ op.segment → op.segment ≤ 3 → let a := if op.segment = 1 then 2 else 1
        let b := if op.segment = 3 then 2 else 3
        ∃ t, exec (.compactionStepComplete none) s = .next t ∧ t.store.op = none ∧
          t.store.mem = segClear (segClear s.store.mem a) b ∧
          t.store.append = (s.store.append.set a (some 2)).set b (some 2)) ∧
      (∀ x, ∃ t, exec (.compactionStepComplete (some x)) s = .next t ∧ t.store.op = none ∧
        t.ctl.nextSeq = s.ctl.nextSeq + 1 ∧ t.freeCount = s.freeCount + 1 ∧ (op.tag < 32767 → op.segment < 32767 →
          (op.step < 5 → Spec.Logged s t .store .verify (.num op.tag) (some (.num op.segment))) ∧
          (5 ≤ op.step → x.val ∈ [1, 2, 3] → x.val ≠ op.segment →
            Spec.Logged s t .store .verify (.num op.tag) (some (.num x.val))))))

/-- A record appended at the append position of a segment, with nothing but erased bytes from there on, is what the scan
then finds last for its tag; the records of the other tags stay what they were, the next append position lies right after
it, and no byte outside the record changes. In the user segment of the highest generation it is what a lookup returns. -/
def Obligations.AppendedRecordIsFound : Prop :=
  ∀ (mem : List Host.Cell) (seg tag pos : Nat) (value : List Byte), memWf mem = true → seg < 4 →
    (scanSegment mem seg).2 = some pos → (∀ i, pos ≤ i → i < 512 → segByte mem seg i = 0xFF) →
    tagLength tag value.length = true → (tag = 0xFE → seg = 0) → pos + value.length + 3 ≤ 512 →
    let after := segWrite mem seg pos (recordBytes tag value)
    memWf after = true ∧ lastRecord after seg tag = some value ∧
    (scanSegment after seg).2 = some (pos + value.length + 3) ∧
    (∀ other, other ≠ tag → lastRecord after seg other = lastRecord mem seg other) ∧
    (∀ a, a < seg * 512 + pos ∨ seg * 512 + pos + value.length + 3 ≤ a → memRead after a = memRead mem a) ∧
    (∀ g, seg ≠ 0 → generation mem seg = some g →
      (∀ other, other ∈ [1, 2, 3] → other ≠ seg → (generation mem other).getD 0 < g) →
      lookup after tag = some (seg, value))
end

