-- ==== Sys2Proof/Laws/State.lean ====
section
/-! SUPPORT. What each small update of the state leaves and changes, one lemma per field, true by unfolding. -/

namespace Sys2Proof.Machine

open Sys2Proof

/-! ### The queue of waiting commands -/

@[simp] theorem State.withPending_ctl (s : State) (q : List Instr) : (s.withPending q).ctl = s.ctl := rfl
@[simp] theorem State.withPending_host (s : State) (q : List Instr) : (s.withPending q).host = s.host := rfl
@[simp] theorem State.withPending_drive (s : State) (q : List Instr) : (s.withPending q).drive = s.drive := rfl
@[simp] theorem State.withPending_gov (s : State) (q : List Instr) : (s.withPending q).gov = s.gov := rfl
@[simp] theorem State.withPending_pack (s : State) (q : List Instr) : (s.withPending q).pack = s.pack := rfl
@[simp] theorem State.withPending_prot (s : State) (q : List Instr) : (s.withPending q).prot = s.prot := rfl
@[simp] theorem State.withPending_debris (s : State) (q : List Instr) : (s.withPending q).debris = s.debris := rfl
@[simp] theorem State.withPending_att (s : State) (q : List Instr) : (s.withPending q).att = s.att := rfl
@[simp] theorem State.withPending_roll (s : State) (q : List Instr) : (s.withPending q).roll = s.roll := rfl
@[simp] theorem State.withPending_contact (s : State) (q : List Instr) : (s.withPending q).contact = s.contact := rfl
@[simp] theorem State.withPending_stick (s : State) (q : List Instr) : (s.withPending q).stick = s.stick := rfl
@[simp] theorem State.withPending_dock (s : State) (q : List Instr) : (s.withPending q).dock = s.dock := rfl
@[simp] theorem State.withPending_evacSet (s : State) (q : List Instr) : (s.withPending q).evacSet = s.evacSet := rfl
@[simp] theorem State.withPending_charger (s : State) (q : List Instr) : (s.withPending q).charger = s.charger := rfl
@[simp] theorem State.withPending_evac (s : State) (q : List Instr) : (s.withPending q).evac = s.evac := rfl
@[simp] theorem State.withPending_store (s : State) (q : List Instr) : (s.withPending q).store = s.store := rfl
@[simp] theorem State.withPending_freeCount (s : State) (q : List Instr) : (s.withPending q).freeCount = s.freeCount := rfl
@[simp] theorem State.withPending_pending (s : State) (q : List Instr) : (s.withPending q).pending = q := rfl

@[simp] theorem State.withPending_self (s : State) : s.withPending s.pending = s := rfl

@[simp] theorem State.withPending_withPending (s : State) (p q : List Instr) :
    (s.withPending p).withPending q = s.withPending q := rfl

@[simp] theorem State.push_pending (s : State) (c : Instr) : (s.push c).pending = c :: s.pending := rfl

@[simp] theorem State.push_withPending (s : State) (c : Instr) (q : List Instr) :
    (s.push c).withPending q = s.withPending q := rfl

/-! ### The counter of free values -/

@[simp] theorem nextFree_ctl (s : State) : (nextFree s).ctl = s.ctl := rfl
@[simp] theorem nextFree_host (s : State) : (nextFree s).host = s.host := rfl
@[simp] theorem nextFree_drive (s : State) : (nextFree s).drive = s.drive := rfl
@[simp] theorem nextFree_gov (s : State) : (nextFree s).gov = s.gov := rfl
@[simp] theorem nextFree_pack (s : State) : (nextFree s).pack = s.pack := rfl
@[simp] theorem nextFree_prot (s : State) : (nextFree s).prot = s.prot := rfl
@[simp] theorem nextFree_debris (s : State) : (nextFree s).debris = s.debris := rfl
@[simp] theorem nextFree_att (s : State) : (nextFree s).att = s.att := rfl
@[simp] theorem nextFree_roll (s : State) : (nextFree s).roll = s.roll := rfl
@[simp] theorem nextFree_contact (s : State) : (nextFree s).contact = s.contact := rfl
@[simp] theorem nextFree_stick (s : State) : (nextFree s).stick = s.stick := rfl
@[simp] theorem nextFree_dock (s : State) : (nextFree s).dock = s.dock := rfl
@[simp] theorem nextFree_evacSet (s : State) : (nextFree s).evacSet = s.evacSet := rfl
@[simp] theorem nextFree_charger (s : State) : (nextFree s).charger = s.charger := rfl
@[simp] theorem nextFree_evac (s : State) : (nextFree s).evac = s.evac := rfl
@[simp] theorem nextFree_store (s : State) : (nextFree s).store = s.store := rfl
@[simp] theorem nextFree_pending (s : State) : (nextFree s).pending = s.pending := rfl
@[simp] theorem nextFree_freeCount (s : State) : (nextFree s).freeCount = s.freeCount + 1 := rfl

/-! ### A reply appended to the reply queue -/

@[simp] theorem pushReply_ctl (r : Reply) (s : State) : (pushReply r s).ctl = s.ctl := rfl
@[simp] theorem pushReply_drive (r : Reply) (s : State) : (pushReply r s).drive = s.drive := rfl
@[simp] theorem pushReply_gov (r : Reply) (s : State) : (pushReply r s).gov = s.gov := rfl
@[simp] theorem pushReply_pack (r : Reply) (s : State) : (pushReply r s).pack = s.pack := rfl
@[simp] theorem pushReply_prot (r : Reply) (s : State) : (pushReply r s).prot = s.prot := rfl
@[simp] theorem pushReply_debris (r : Reply) (s : State) : (pushReply r s).debris = s.debris := rfl
@[simp] theorem pushReply_att (r : Reply) (s : State) : (pushReply r s).att = s.att := rfl
@[simp] theorem pushReply_roll (r : Reply) (s : State) : (pushReply r s).roll = s.roll := rfl
@[simp] theorem pushReply_contact (r : Reply) (s : State) : (pushReply r s).contact = s.contact := rfl
@[simp] theorem pushReply_stick (r : Reply) (s : State) : (pushReply r s).stick = s.stick := rfl
@[simp] theorem pushReply_dock (r : Reply) (s : State) : (pushReply r s).dock = s.dock := rfl
@[simp] theorem pushReply_evacSet (r : Reply) (s : State) : (pushReply r s).evacSet = s.evacSet := rfl
@[simp] theorem pushReply_charger (r : Reply) (s : State) : (pushReply r s).charger = s.charger := rfl
@[simp] theorem pushReply_evac (r : Reply) (s : State) : (pushReply r s).evac = s.evac := rfl
@[simp] theorem pushReply_store (r : Reply) (s : State) : (pushReply r s).store = s.store := rfl
@[simp] theorem pushReply_freeCount (r : Reply) (s : State) : (pushReply r s).freeCount = s.freeCount := rfl
@[simp] theorem pushReply_pending (r : Reply) (s : State) : (pushReply r s).pending = s.pending := rfl
@[simp] theorem pushReply_replies (r : Reply) (s : State) : (pushReply r s).host.replies = s.host.replies ++ [r] := rfl

/-! ### The sticky flags cleared by a summary (R163) -/

@[simp] theorem clearSticky_ctl (s : State) : (clearSticky s).ctl = s.ctl := rfl
@[simp] theorem clearSticky_drive (s : State) : (clearSticky s).drive = s.drive := rfl
@[simp] theorem clearSticky_gov (s : State) : (clearSticky s).gov = s.gov := rfl
@[simp] theorem clearSticky_pack (s : State) : (clearSticky s).pack = s.pack := rfl
@[simp] theorem clearSticky_prot (s : State) : (clearSticky s).prot = s.prot := rfl
@[simp] theorem clearSticky_debris (s : State) : (clearSticky s).debris = s.debris := rfl
@[simp] theorem clearSticky_att (s : State) : (clearSticky s).att = s.att := rfl
@[simp] theorem clearSticky_roll (s : State) : (clearSticky s).roll = s.roll := rfl
@[simp] theorem clearSticky_contact (s : State) : (clearSticky s).contact = s.contact := rfl
@[simp] theorem clearSticky_stick (s : State) : (clearSticky s).stick = s.stick := rfl
@[simp] theorem clearSticky_dock (s : State) : (clearSticky s).dock = s.dock := rfl
@[simp] theorem clearSticky_evacSet (s : State) : (clearSticky s).evacSet = s.evacSet := rfl
@[simp] theorem clearSticky_charger (s : State) : (clearSticky s).charger = s.charger := rfl
@[simp] theorem clearSticky_evac (s : State) : (clearSticky s).evac = s.evac := rfl
@[simp] theorem clearSticky_store (s : State) : (clearSticky s).store = s.store := rfl
@[simp] theorem clearSticky_freeCount (s : State) : (clearSticky s).freeCount = s.freeCount := rfl
@[simp] theorem clearSticky_pending (s : State) : (clearSticky s).pending = s.pending := rfl

end Sys2Proof.Machine
end

