-- ==== Sys2Proof/Laws/Ops.lean ====
section
/-! SUPPORT. What the shared operations of every block can do: the hand-over of a report, a fault entry, the power mode's
entries, what follows an event, and the event itself. Later proofs cite these and unfold none of the operations. -/

namespace Sys2Proof.Machine

open Sys2Proof

/-! ### The hand-over of a report (R162) -/

/-- A hand-over discards the report, queues it, or sets REPORT_OVERRUN. -/
theorem handReport_cases (r : Report) (s : State) :
    handReport r s = s ∨
    (s.host.reports.length < 8 ∧ handReport r s = { s with host := { s.host with reports := s.host.reports ++ [r] } }) ∨
    (8 ≤ s.host.reports.length ∧ handReport r s = { s with host := { s.host with overrun := true } }) := by
  unfold handReport
  split
  · split
    · exact .inr (.inl ⟨‹_›, rfl⟩)
    · exact .inr (.inr ⟨Nat.le_of_not_lt ‹_›, rfl⟩)
  · exact .inl rfl

/-- A report whose type is subscribed enters the queue while fewer than 8 are queued. -/
theorem handReport_queued (r : Report) (s : State) (hm : s.host.mask.getLsbD (reportType r - 1) = true)
    (hl : s.host.reports.length < 8) :
    handReport r s = { s with host := { s.host with reports := s.host.reports ++ [r] } } := by
  simp [handReport, hm, hl]

/-- A report whose type is not subscribed changes nothing. -/
theorem handReport_discarded (r : Report) (s : State) (hm : s.host.mask.getLsbD (reportType r - 1) = false) :
    handReport r s = s := by
  simp [handReport, hm]

@[simp] theorem handReport_ctl (r : Report) (s : State) : (handReport r s).ctl = s.ctl := by
  rcases handReport_cases r s with h | ⟨-, h⟩ | ⟨-, h⟩ <;> simp [h]
@[simp] theorem handReport_drive (r : Report) (s : State) : (handReport r s).drive = s.drive := by
  rcases handReport_cases r s with h | ⟨-, h⟩ | ⟨-, h⟩ <;> simp [h]
@[simp] theorem handReport_gov (r : Report) (s : State) : (handReport r s).gov = s.gov := by
  rcases handReport_cases r s with h | ⟨-, h⟩ | ⟨-, h⟩ <;> simp [h]
@[simp] theorem handReport_pack (r : Report) (s : State) : (handReport r s).pack = s.pack := by
  rcases handReport_cases r s with h | ⟨-, h⟩ | ⟨-, h⟩ <;> simp [h]
@[simp] theorem handReport_prot (r : Report) (s : State) : (handReport r s).prot = s.prot := by
  rcases handReport_cases r s with h | ⟨-, h⟩ | ⟨-, h⟩ <;> simp [h]
@[simp] theorem handReport_debris (r : Report) (s : State) : (handReport r s).debris = s.debris := by
  rcases handReport_cases r s with h | ⟨-, h⟩ | ⟨-, h⟩ <;> simp [h]
@[simp] theorem handReport_att (r : Report) (s : State) : (handReport r s).att = s.att := by
  rcases handReport_cases r s with h | ⟨-, h⟩ | ⟨-, h⟩ <;> simp [h]
@[simp] theorem handReport_roll (r : Report) (s : State) : (handReport r s).roll = s.roll := by
  rcases handReport_cases r s with h | ⟨-, h⟩ | ⟨-, h⟩ <;> simp [h]
@[simp] theorem handReport_contact (r : Report) (s : State) : (handReport r s).contact = s.contact := by
  rcases handReport_cases r s with h | ⟨-, h⟩ | ⟨-, h⟩ <;> simp [h]
@[simp] theorem handReport_stick (r : Report) (s : State) : (handReport r s).stick = s.stick := by
  rcases handReport_cases r s with h | ⟨-, h⟩ | ⟨-, h⟩ <;> simp [h]
@[simp] theorem handReport_dock (r : Report) (s : State) : (handReport r s).dock = s.dock := by
  rcases handReport_cases r s with h | ⟨-, h⟩ | ⟨-, h⟩ <;> simp [h]
@[simp] theorem handReport_evacSet (r : Report) (s : State) : (handReport r s).evacSet = s.evacSet := by
  rcases handReport_cases r s with h | ⟨-, h⟩ | ⟨-, h⟩ <;> simp [h]
@[simp] theorem handReport_charger (r : Report) (s : State) : (handReport r s).charger = s.charger := by
  rcases handReport_cases r s with h | ⟨-, h⟩ | ⟨-, h⟩ <;> simp [h]
@[simp] theorem handReport_evac (r : Report) (s : State) : (handReport r s).evac = s.evac := by
  rcases handReport_cases r s with h | ⟨-, h⟩ | ⟨-, h⟩ <;> simp [h]
@[simp] theorem handReport_store (r : Report) (s : State) : (handReport r s).store = s.store := by
  rcases handReport_cases r s with h | ⟨-, h⟩ | ⟨-, h⟩ <;> simp [h]
@[simp] theorem handReport_freeCount (r : Report) (s : State) : (handReport r s).freeCount = s.freeCount := by
  rcases handReport_cases r s with h | ⟨-, h⟩ | ⟨-, h⟩ <;> simp [h]
@[simp] theorem handReport_pending (r : Report) (s : State) : (handReport r s).pending = s.pending := by
  rcases handReport_cases r s with h | ⟨-, h⟩ | ⟨-, h⟩ <;> simp [h]
@[simp] theorem handReport_host_rxq (r : Report) (s : State) : (handReport r s).host.rxq = s.host.rxq := by
  rcases handReport_cases r s with h | ⟨-, h⟩ | ⟨-, h⟩ <;> simp [h]
@[simp] theorem handReport_host_replies (r : Report) (s : State) : (handReport r s).host.replies = s.host.replies := by
  rcases handReport_cases r s with h | ⟨-, h⟩ | ⟨-, h⟩ <;> simp [h]
@[simp] theorem handReport_host_mask (r : Report) (s : State) : (handReport r s).host.mask = s.host.mask := by
  rcases handReport_cases r s with h | ⟨-, h⟩ | ⟨-, h⟩ <;> simp [h]
@[simp] theorem handReport_host_govSat (r : Report) (s : State) : (handReport r s).host.govSat = s.host.govSat := by
  rcases handReport_cases r s with h | ⟨-, h⟩ | ⟨-, h⟩ <;> simp [h]
@[simp] theorem handReport_host_linkError (r : Report) (s : State) : (handReport r s).host.linkError = s.host.linkError := by
  rcases handReport_cases r s with h | ⟨-, h⟩ | ⟨-, h⟩ <;> simp [h]
@[simp] theorem handReport_host_faultNew (r : Report) (s : State) : (handReport r s).host.faultNew = s.host.faultNew := by
  rcases handReport_cases r s with h | ⟨-, h⟩ | ⟨-, h⟩ <;> simp [h]
@[simp] theorem handReport_host_errors (r : Report) (s : State) : (handReport r s).host.errors = s.host.errors := by
  rcases handReport_cases r s with h | ⟨-, h⟩ | ⟨-, h⟩ <;> simp [h]
@[simp] theorem handReport_host_rx (r : Report) (s : State) : (handReport r s).host.rx = s.host.rx := by
  rcases handReport_cases r s with h | ⟨-, h⟩ | ⟨-, h⟩ <;> simp [h]
@[simp] theorem handReport_host_rxGap (r : Report) (s : State) : (handReport r s).host.rxGap = s.host.rxGap := by
  rcases handReport_cases r s with h | ⟨-, h⟩ | ⟨-, h⟩ <;> simp [h]
@[simp] theorem handReport_host_supPeriod (r : Report) (s : State) : (handReport r s).host.supPeriod = s.host.supPeriod := by
  rcases handReport_cases r s with h | ⟨-, h⟩ | ⟨-, h⟩ <;> simp [h]
@[simp] theorem handReport_host_supTimer (r : Report) (s : State) : (handReport r s).host.supTimer = s.host.supTimer := by
  rcases handReport_cases r s with h | ⟨-, h⟩ | ⟨-, h⟩ <;> simp [h]
@[simp] theorem handReport_host_tx (r : Report) (s : State) : (handReport r s).host.tx = s.host.tx := by
  rcases handReport_cases r s with h | ⟨-, h⟩ | ⟨-, h⟩ <;> simp [h]

/-- A hand-over keeps the bound of the report queue. -/
theorem handReport_reports_le (r : Report) (s : State) (h : s.host.reports.length ≤ 8) :
    (handReport r s).host.reports.length ≤ 8 := by
  rcases handReport_cases r s with e | ⟨hl, e⟩ | ⟨-, e⟩
  · rw [e]; exact h
  · rw [e]; simp; omega
  · rw [e]; exact h

/-! ### A fault entry (R169) -/

@[simp] theorem appendFault_drive (src : FaultSource) (code : FaultCode) (v : Reading) (w : Option Reading) (s : State) : (appendFault src code v w s).drive = s.drive := by
  simp [appendFault]
@[simp] theorem appendFault_gov (src : FaultSource) (code : FaultCode) (v : Reading) (w : Option Reading) (s : State) : (appendFault src code v w s).gov = s.gov := by
  simp [appendFault]
@[simp] theorem appendFault_pack (src : FaultSource) (code : FaultCode) (v : Reading) (w : Option Reading) (s : State) : (appendFault src code v w s).pack = s.pack := by
  simp [appendFault]
@[simp] theorem appendFault_prot (src : FaultSource) (code : FaultCode) (v : Reading) (w : Option Reading) (s : State) : (appendFault src code v w s).prot = s.prot := by
  simp [appendFault]
@[simp] theorem appendFault_debris (src : FaultSource) (code : FaultCode) (v : Reading) (w : Option Reading) (s : State) : (appendFault src code v w s).debris = s.debris := by
  simp [appendFault]
@[simp] theorem appendFault_att (src : FaultSource) (code : FaultCode) (v : Reading) (w : Option Reading) (s : State) : (appendFault src code v w s).att = s.att := by
  simp [appendFault]
@[simp] theorem appendFault_roll (src : FaultSource) (code : FaultCode) (v : Reading) (w : Option Reading) (s : State) : (appendFault src code v w s).roll = s.roll := by
  simp [appendFault]
@[simp] theorem appendFault_contact (src : FaultSource) (code : FaultCode) (v : Reading) (w : Option Reading) (s : State) : (appendFault src code v w s).contact = s.contact := by
  simp [appendFault]
@[simp] theorem appendFault_stick (src : FaultSource) (code : FaultCode) (v : Reading) (w : Option Reading) (s : State) : (appendFault src code v w s).stick = s.stick := by
  simp [appendFault]
@[simp] theorem appendFault_dock (src : FaultSource) (code : FaultCode) (v : Reading) (w : Option Reading) (s : State) : (appendFault src code v w s).dock = s.dock := by
  simp [appendFault]
@[simp] theorem appendFault_evacSet (src : FaultSource) (code : FaultCode) (v : Reading) (w : Option Reading) (s : State) : (appendFault src code v w s).evacSet = s.evacSet := by
  simp [appendFault]
@[simp] theorem appendFault_charger (src : FaultSource) (code : FaultCode) (v : Reading) (w : Option Reading) (s : State) : (appendFault src code v w s).charger = s.charger := by
  simp [appendFault]
@[simp] theorem appendFault_evac (src : FaultSource) (code : FaultCode) (v : Reading) (w : Option Reading) (s : State) : (appendFault src code v w s).evac = s.evac := by
  simp [appendFault]
@[simp] theorem appendFault_store (src : FaultSource) (code : FaultCode) (v : Reading) (w : Option Reading) (s : State) : (appendFault src code v w s).store = s.store := by
  simp [appendFault]
@[simp] theorem appendFault_freeCount (src : FaultSource) (code : FaultCode) (v : Reading) (w : Option Reading) (s : State) : (appendFault src code v w s).freeCount = s.freeCount := by
  simp [appendFault]
@[simp] theorem appendFault_pending (src : FaultSource) (code : FaultCode) (v : Reading) (w : Option Reading) (s : State) : (appendFault src code v w s).pending = s.pending := by
  simp [appendFault]
@[simp] theorem appendFault_ctl_role (src : FaultSource) (code : FaultCode) (v : Reading) (w : Option Reading) (s : State) :
    (appendFault src code v w s).ctl.role = s.ctl.role := by
  simp [appendFault]
@[simp] theorem appendFault_ctl_cells (src : FaultSource) (code : FaultCode) (v : Reading) (w : Option Reading) (s : State) :
    (appendFault src code v w s).ctl.cells = s.ctl.cells := by
  simp [appendFault]
@[simp] theorem appendFault_ctl_partTime (src : FaultSource) (code : FaultCode) (v : Reading) (w : Option Reading) (s : State) :
    (appendFault src code v w s).ctl.partTime = s.ctl.partTime := by
  simp [appendFault]
@[simp] theorem appendFault_ctl_cause (src : FaultSource) (code : FaultCode) (v : Reading) (w : Option Reading) (s : State) :
    (appendFault src code v w s).ctl.cause = s.ctl.cause := by
  simp [appendFault]
@[simp] theorem appendFault_ctl_power (src : FaultSource) (code : FaultCode) (v : Reading) (w : Option Reading) (s : State) :
    (appendFault src code v w s).ctl.power = s.ctl.power := by
  simp [appendFault]
@[simp] theorem appendFault_ctl_shipDecided (src : FaultSource) (code : FaultCode) (v : Reading) (w : Option Reading) (s : State) :
    (appendFault src code v w s).ctl.shipDecided = s.ctl.shipDecided := by
  simp [appendFault]
@[simp] theorem appendFault_ctl_standbyTimer (src : FaultSource) (code : FaultCode) (v : Reading) (w : Option Reading) (s : State) :
    (appendFault src code v w s).ctl.standbyTimer = s.ctl.standbyTimer := by
  simp [appendFault]
@[simp] theorem appendFault_ctl_lowCells (src : FaultSource) (code : FaultCode) (v : Reading) (w : Option Reading) (s : State) :
    (appendFault src code v w s).ctl.lowCells = s.ctl.lowCells := by
  simp [appendFault]
@[simp] theorem appendFault_ctl_lock (src : FaultSource) (code : FaultCode) (v : Reading) (w : Option Reading) (s : State) :
    (appendFault src code v w s).ctl.lock = s.ctl.lock := by
  simp [appendFault]
@[simp] theorem appendFault_host_rxq (src : FaultSource) (code : FaultCode) (v : Reading) (w : Option Reading) (s : State) :
    (appendFault src code v w s).host.rxq = s.host.rxq := by
  simp [appendFault]
@[simp] theorem appendFault_host_replies (src : FaultSource) (code : FaultCode) (v : Reading) (w : Option Reading) (s : State) :
    (appendFault src code v w s).host.replies = s.host.replies := by
  simp [appendFault]
@[simp] theorem appendFault_host_mask (src : FaultSource) (code : FaultCode) (v : Reading) (w : Option Reading) (s : State) :
    (appendFault src code v w s).host.mask = s.host.mask := by
  simp [appendFault]
@[simp] theorem appendFault_host_govSat (src : FaultSource) (code : FaultCode) (v : Reading) (w : Option Reading) (s : State) :
    (appendFault src code v w s).host.govSat = s.host.govSat := by
  simp [appendFault]
@[simp] theorem appendFault_host_linkError (src : FaultSource) (code : FaultCode) (v : Reading) (w : Option Reading) (s : State) :
    (appendFault src code v w s).host.linkError = s.host.linkError := by
  simp [appendFault]
@[simp] theorem appendFault_host_errors (src : FaultSource) (code : FaultCode) (v : Reading) (w : Option Reading) (s : State) :
    (appendFault src code v w s).host.errors = s.host.errors := by
  simp [appendFault]
@[simp] theorem appendFault_host_rx (src : FaultSource) (code : FaultCode) (v : Reading) (w : Option Reading) (s : State) :
    (appendFault src code v w s).host.rx = s.host.rx := by
  simp [appendFault]
@[simp] theorem appendFault_host_rxGap (src : FaultSource) (code : FaultCode) (v : Reading) (w : Option Reading) (s : State) :
    (appendFault src code v w s).host.rxGap = s.host.rxGap := by
  simp [appendFault]
@[simp] theorem appendFault_host_supPeriod (src : FaultSource) (code : FaultCode) (v : Reading) (w : Option Reading) (s : State) :
    (appendFault src code v w s).host.supPeriod = s.host.supPeriod := by
  simp [appendFault]
@[simp] theorem appendFault_host_supTimer (src : FaultSource) (code : FaultCode) (v : Reading) (w : Option Reading) (s : State) :
    (appendFault src code v w s).host.supTimer = s.host.supTimer := by
  simp [appendFault]
@[simp] theorem appendFault_host_tx (src : FaultSource) (code : FaultCode) (v : Reading) (w : Option Reading) (s : State) :
    (appendFault src code v w s).host.tx = s.host.tx := by
  simp [appendFault]
@[simp] theorem appendFault_nextSeq (src : FaultSource) (code : FaultCode) (v : Reading) (w : Option Reading) (s : State) :
    (appendFault src code v w s).ctl.nextSeq = s.ctl.nextSeq + 1 := by
  simp [appendFault]
@[simp] theorem appendFault_ring (src : FaultSource) (code : FaultCode) (v : Reading) (w : Option Reading) (s : State) :
    (appendFault src code v w s).ctl.ring
      = ringAppend s.ctl.ring ⟨s.ctl.nextSeq, s.now, src, code, v.fit16, w.map Reading.fit16⟩ := by
  simp [appendFault]
@[simp] theorem appendFault_faultNew (src : FaultSource) (code : FaultCode) (v : Reading) (w : Option Reading) (s : State) :
    (appendFault src code v w s).host.faultNew = true := by
  simp [appendFault]

/-- The ring never grows beyond 16 entries. -/
theorem ringAppend_length_le (ring : List FaultEntry) (e : FaultEntry) : (ringAppend ring e).length ≤ 16 := by
  unfold ringAppend
  split
  · simp; omega
  · simp; omega

/-- The entry appended is the last of the ring. -/
theorem ringAppend_getLast (ring : List FaultEntry) (e : FaultEntry) : (ringAppend ring e).getLast? = some e := by
  unfold ringAppend
  split <;> simp

/-! ### The power mode (R173, R175) -/

@[simp] theorem enterActive_drive (c : ModeCause) (s : State) : (enterActive c s).drive = s.drive := by
  unfold enterActive
  split <;> simp
@[simp] theorem enterActive_gov (c : ModeCause) (s : State) : (enterActive c s).gov = s.gov := by
  unfold enterActive
  split <;> simp
@[simp] theorem enterActive_prot (c : ModeCause) (s : State) : (enterActive c s).prot = s.prot := by
  unfold enterActive
  split <;> simp
@[simp] theorem enterActive_debris (c : ModeCause) (s : State) : (enterActive c s).debris = s.debris := by
  unfold enterActive
  split <;> simp
@[simp] theorem enterActive_att (c : ModeCause) (s : State) : (enterActive c s).att = s.att := by
  unfold enterActive
  split <;> simp
@[simp] theorem enterActive_roll (c : ModeCause) (s : State) : (enterActive c s).roll = s.roll := by
  unfold enterActive
  split <;> simp
@[simp] theorem enterActive_contact (c : ModeCause) (s : State) : (enterActive c s).contact = s.contact := by
  unfold enterActive
  split <;> simp
@[simp] theorem enterActive_stick (c : ModeCause) (s : State) : (enterActive c s).stick = s.stick := by
  unfold enterActive
  split <;> simp
@[simp] theorem enterActive_dock (c : ModeCause) (s : State) : (enterActive c s).dock = s.dock := by
  unfold enterActive
  split <;> simp
@[simp] theorem enterActive_evacSet (c : ModeCause) (s : State) : (enterActive c s).evacSet = s.evacSet := by
  unfold enterActive
  split <;> simp
@[simp] theorem enterActive_charger (c : ModeCause) (s : State) : (enterActive c s).charger = s.charger := by
  unfold enterActive
  split <;> simp
@[simp] theorem enterActive_evac (c : ModeCause) (s : State) : (enterActive c s).evac = s.evac := by
  unfold enterActive
  split <;> simp
@[simp] theorem enterActive_store (c : ModeCause) (s : State) : (enterActive c s).store = s.store := by
  unfold enterActive
  split <;> simp
@[simp] theorem enterActive_freeCount (c : ModeCause) (s : State) : (enterActive c s).freeCount = s.freeCount := by
  unfold enterActive
  split <;> simp
@[simp] theorem enterActive_pending (c : ModeCause) (s : State) : (enterActive c s).pending = s.pending := by
  unfold enterActive
  split <;> simp
@[simp] theorem enterActive_cells' (c : ModeCause) (s : State) : (enterActive c s).ctl.cells = s.ctl.cells := by
  unfold enterActive
  split <;> simp
@[simp] theorem enterActive_ctl_role (c : ModeCause) (s : State) : (enterActive c s).ctl.role = s.ctl.role := by
  unfold enterActive
  split <;> simp
@[simp] theorem enterActive_ctl_ring (c : ModeCause) (s : State) : (enterActive c s).ctl.ring = s.ctl.ring := by
  unfold enterActive
  split <;> simp
@[simp] theorem enterActive_ctl_nextSeq (c : ModeCause) (s : State) : (enterActive c s).ctl.nextSeq = s.ctl.nextSeq := by
  unfold enterActive
  split <;> simp
@[simp] theorem enterActive_ctl_partTime (c : ModeCause) (s : State) : (enterActive c s).ctl.partTime = s.ctl.partTime := by
  unfold enterActive
  split <;> simp
@[simp] theorem enterActive_ctl_cause (c : ModeCause) (s : State) : (enterActive c s).ctl.cause = s.ctl.cause := by
  unfold enterActive
  split <;> simp
@[simp] theorem enterActive_ctl_shipDecided (c : ModeCause) (s : State) : (enterActive c s).ctl.shipDecided = s.ctl.shipDecided := by
  unfold enterActive
  split <;> simp
@[simp] theorem enterActive_ctl_standbyTimer (c : ModeCause) (s : State) : (enterActive c s).ctl.standbyTimer = s.ctl.standbyTimer := by
  unfold enterActive
  split <;> simp
@[simp] theorem enterActive_ctl_lock (c : ModeCause) (s : State) : (enterActive c s).ctl.lock = s.ctl.lock := by
  unfold enterActive
  split <;> simp
@[simp] theorem enterActive_host_rxq (c : ModeCause) (s : State) : (enterActive c s).host.rxq = s.host.rxq := by
  unfold enterActive
  split <;> simp
@[simp] theorem enterActive_host_replies (c : ModeCause) (s : State) : (enterActive c s).host.replies = s.host.replies := by
  unfold enterActive
  split <;> simp
@[simp] theorem enterActive_host_mask (c : ModeCause) (s : State) : (enterActive c s).host.mask = s.host.mask := by
  unfold enterActive
  split <;> simp
@[simp] theorem enterActive_host_errors (c : ModeCause) (s : State) : (enterActive c s).host.errors = s.host.errors := by
  unfold enterActive
  split <;> simp
@[simp] theorem enterActive_host_supPeriod (c : ModeCause) (s : State) : (enterActive c s).host.supPeriod = s.host.supPeriod := by
  unfold enterActive
  split <;> simp
@[simp] theorem enterActive_host_supTimer (c : ModeCause) (s : State) : (enterActive c s).host.supTimer = s.host.supTimer := by
  unfold enterActive
  split <;> simp
@[simp] theorem enterActive_host_tx (c : ModeCause) (s : State) : (enterActive c s).host.tx = s.host.tx := by
  unfold enterActive
  split <;> simp
@[simp] theorem enterActive_pack_record (c : ModeCause) (s : State) : (enterActive c s).pack.record = s.pack.record := by
  unfold enterActive
  split <;> simp
@[simp] theorem enterActive_pack_q (c : ModeCause) (s : State) : (enterActive c s).pack.q = s.pack.q := by
  unfold enterActive
  split <;> simp
@[simp] theorem enterActive_pack_valid (c : ModeCause) (s : State) : (enterActive c s).pack.valid = s.pack.valid := by
  unfold enterActive
  split <;> simp
@[simp] theorem enterActive_pack_acc (c : ModeCause) (s : State) : (enterActive c s).pack.acc = s.pack.acc := by
  unfold enterActive
  split <;> simp
@[simp] theorem enterActive_pack_capacity (c : ModeCause) (s : State) : (enterActive c s).pack.capacity = s.pack.capacity := by
  unfold enterActive
  split <;> simp
@[simp] theorem enterActive_pack_balance (c : ModeCause) (s : State) : (enterActive c s).pack.balance = s.pack.balance := by
  unfold enterActive
  split <;> simp
@[simp] theorem enterActive_pack_full (c : ModeCause) (s : State) : (enterActive c s).pack.full = s.pack.full := by
  unfold enterActive
  split <;> simp
@[simp] theorem enterActive_pack_need (c : ModeCause) (s : State) : (enterActive c s).pack.need = s.pack.need := by
  unfold enterActive
  split <;> simp
@[simp] theorem enterActive_pack_ocv (c : ModeCause) (s : State) : (enterActive c s).pack.ocv = s.pack.ocv := by
  unfold enterActive
  split <;> simp
@[simp] theorem enterActive_pack_offsets (c : ModeCause) (s : State) : (enterActive c s).pack.offsets = s.pack.offsets := by
  unfold enterActive
  split <;> simp

/-- In ACTIVE an ACTIVE cause changes nothing. -/
theorem enterActive_of_active (c : ModeCause) (s : State) (h : s.ctl.power = .active) : enterActive c s = s := by
  simp [enterActive, h]

/-! ### What follows an event -/

@[simp] theorem Gov.stopped_allowance (g : Gov) : g.stopped.allowance = g.allowance := rfl
@[simp] theorem Gov.stopped_fTp (g : Gov) : g.stopped.fTp = g.fTp := rfl
@[simp] theorem Gov.stopped_fV (g : Gov) : g.stopped.fV = g.fV := rfl
@[simp] theorem Gov.stopped_fTb (g : Gov) : g.stopped.fTb = g.fTb := rfl
@[simp] theorem Gov.stopped_row1 (g : Gov) : g.stopped.row1 = g.row1 := rfl
@[simp] theorem Gov.stopped_row2 (g : Gov) : g.stopped.row2 = g.row2 := rfl
@[simp] theorem Gov.stopped_row3 (g : Gov) : g.stopped.row3 = g.row3 := rfl
@[simp] theorem Gov.stopped_rollDuty (g : Gov) : g.stopped.rollDuty = g.rollDuty := rfl
@[simp] theorem Gov.stopped_pDem (g : Gov) : g.stopped.pDem = g.pDem := rfl
@[simp] theorem Gov.stopped_pAv (g : Gov) : g.stopped.pAv = g.pAv := rfl
@[simp] theorem Gov.stopped_pCmd (g : Gov) : g.stopped.pCmd = g.pCmd := rfl
@[simp] theorem Gov.stopped_pMeas (g : Gov) : g.stopped.pMeas = g.pMeas := rfl
@[simp] theorem Gov.stopped_e (g : Gov) : g.stopped.e = g.e := rfl
@[simp] theorem Gov.stopped_a (g : Gov) : g.stopped.a = g.a := rfl
@[simp] theorem Gov.stopped_residue (g : Gov) : g.stopped.residue = g.residue := rfl
@[simp] theorem Gov.stopped_prev (g : Gov) : g.stopped.prev = g.prev := rfl
@[simp] theorem Gov.stopped_saturated (g : Gov) : g.stopped.saturated = g.saturated := rfl
@[simp] theorem Gov.stopped_pHold (g : Gov) : g.stopped.pHold = g.pHold := rfl
@[simp] theorem Gov.stopped_handedDuty (g : Gov) : g.stopped.handedDuty = g.handedDuty := rfl
@[simp] theorem Gov.stopped_powers (g : Gov) : g.stopped.powers = g.powers := rfl
@[simp] theorem Gov.stopped_kp (g : Gov) : g.stopped.kp = g.kp := rfl
@[simp] theorem Gov.stopped_ki (g : Gov) : g.stopped.ki = g.ki := rfl
@[simp] theorem Gov.stopped_limits (g : Gov) : g.stopped.limits = g.limits := rfl
@[simp] theorem Gov.follow_allowance (runs : Bool) (start : Ms) (g : Gov) : (g.follow runs start).allowance = g.allowance := by
  unfold Gov.follow
  split <;> rfl
@[simp] theorem Gov.follow_fTp (runs : Bool) (start : Ms) (g : Gov) : (g.follow runs start).fTp = g.fTp := by
  unfold Gov.follow
  split <;> rfl
@[simp] theorem Gov.follow_fV (runs : Bool) (start : Ms) (g : Gov) : (g.follow runs start).fV = g.fV := by
  unfold Gov.follow
  split <;> rfl
@[simp] theorem Gov.follow_fTb (runs : Bool) (start : Ms) (g : Gov) : (g.follow runs start).fTb = g.fTb := by
  unfold Gov.follow
  split <;> rfl
@[simp] theorem Gov.follow_row1 (runs : Bool) (start : Ms) (g : Gov) : (g.follow runs start).row1 = g.row1 := by
  unfold Gov.follow
  split <;> rfl
@[simp] theorem Gov.follow_row2 (runs : Bool) (start : Ms) (g : Gov) : (g.follow runs start).row2 = g.row2 := by
  unfold Gov.follow
  split <;> rfl
@[simp] theorem Gov.follow_row3 (runs : Bool) (start : Ms) (g : Gov) : (g.follow runs start).row3 = g.row3 := by
  unfold Gov.follow
  split <;> rfl
@[simp] theorem Gov.follow_rollDuty (runs : Bool) (start : Ms) (g : Gov) : (g.follow runs start).rollDuty = g.rollDuty := by
  unfold Gov.follow
  split <;> rfl
@[simp] theorem Gov.follow_pDem (runs : Bool) (start : Ms) (g : Gov) : (g.follow runs start).pDem = g.pDem := by
  unfold Gov.follow
  split <;> rfl
@[simp] theorem Gov.follow_pAv (runs : Bool) (start : Ms) (g : Gov) : (g.follow runs start).pAv = g.pAv := by
  unfold Gov.follow
  split <;> rfl
@[simp] theorem Gov.follow_pCmd (runs : Bool) (start : Ms) (g : Gov) : (g.follow runs start).pCmd = g.pCmd := by
  unfold Gov.follow
  split <;> rfl
@[simp] theorem Gov.follow_pMeas (runs : Bool) (start : Ms) (g : Gov) : (g.follow runs start).pMeas = g.pMeas := by
  unfold Gov.follow
  split <;> rfl
@[simp] theorem Gov.follow_e (runs : Bool) (start : Ms) (g : Gov) : (g.follow runs start).e = g.e := by
  unfold Gov.follow
  split <;> rfl
@[simp] theorem Gov.follow_a (runs : Bool) (start : Ms) (g : Gov) : (g.follow runs start).a = g.a := by
  unfold Gov.follow
  split <;> rfl
@[simp] theorem Gov.follow_residue (runs : Bool) (start : Ms) (g : Gov) : (g.follow runs start).residue = g.residue := by
  unfold Gov.follow
  split <;> rfl
@[simp] theorem Gov.follow_prev (runs : Bool) (start : Ms) (g : Gov) : (g.follow runs start).prev = g.prev := by
  unfold Gov.follow
  split <;> rfl
@[simp] theorem Gov.follow_saturated (runs : Bool) (start : Ms) (g : Gov) : (g.follow runs start).saturated = g.saturated := by
  unfold Gov.follow
  split <;> rfl
@[simp] theorem Gov.follow_pHold (runs : Bool) (start : Ms) (g : Gov) : (g.follow runs start).pHold = g.pHold := by
  unfold Gov.follow
  split <;> rfl
@[simp] theorem Gov.follow_handedDuty (runs : Bool) (start : Ms) (g : Gov) : (g.follow runs start).handedDuty = g.handedDuty := by
  unfold Gov.follow
  split <;> rfl
@[simp] theorem Gov.follow_powers (runs : Bool) (start : Ms) (g : Gov) : (g.follow runs start).powers = g.powers := by
  unfold Gov.follow
  split <;> rfl
@[simp] theorem Gov.follow_kp (runs : Bool) (start : Ms) (g : Gov) : (g.follow runs start).kp = g.kp := by
  unfold Gov.follow
  split <;> rfl
@[simp] theorem Gov.follow_ki (runs : Bool) (start : Ms) (g : Gov) : (g.follow runs start).ki = g.ki := by
  unfold Gov.follow
  split <;> rfl
@[simp] theorem Gov.follow_limits (runs : Bool) (start : Ms) (g : Gov) : (g.follow runs start).limits = g.limits := by
  unfold Gov.follow
  split <;> rfl

/-- A period timer that runs leaves the readings of the period in progress, and a stopped one leaves none. -/
theorem Gov.follow_samples (runs : Bool) (start : Ms) (g : Gov) :
    (runs = true ∧ (g.follow runs start).busSamples = g.busSamples ∧ (g.follow runs start).rollSamples = g.rollSamples) ∨
    (runs = false ∧ (g.follow runs start).timer = none ∧ (g.follow runs start).busSamples = CurrentSum.empty ∧
      (g.follow runs start).rollSamples = CurrentSum.empty) := by
  cases runs
  · exact .inr ⟨rfl, rfl, rfl, rfl⟩
  · exact .inl ⟨rfl, rfl, rfl⟩

@[simp] theorem followTimers_drive (s : State) : (followTimers s).drive = s.drive := rfl
@[simp] theorem followTimers_pack (s : State) : (followTimers s).pack = s.pack := rfl
@[simp] theorem followTimers_prot (s : State) : (followTimers s).prot = s.prot := rfl
@[simp] theorem followTimers_debris (s : State) : (followTimers s).debris = s.debris := rfl
@[simp] theorem followTimers_roll (s : State) : (followTimers s).roll = s.roll := rfl
@[simp] theorem followTimers_contact (s : State) : (followTimers s).contact = s.contact := rfl
@[simp] theorem followTimers_stick (s : State) : (followTimers s).stick = s.stick := rfl
@[simp] theorem followTimers_dock (s : State) : (followTimers s).dock = s.dock := rfl
@[simp] theorem followTimers_evacSet (s : State) : (followTimers s).evacSet = s.evacSet := rfl
@[simp] theorem followTimers_charger (s : State) : (followTimers s).charger = s.charger := rfl
@[simp] theorem followTimers_evac (s : State) : (followTimers s).evac = s.evac := rfl
@[simp] theorem followTimers_store (s : State) : (followTimers s).store = s.store := rfl
@[simp] theorem followTimers_freeCount (s : State) : (followTimers s).freeCount = s.freeCount := rfl
@[simp] theorem followTimers_pending (s : State) : (followTimers s).pending = s.pending := rfl
@[simp] theorem startFrame_ctl (s : State) : (startFrame s).ctl = s.ctl := by
  unfold startFrame
  split <;> rfl
@[simp] theorem startFrame_drive (s : State) : (startFrame s).drive = s.drive := by
  unfold startFrame
  split <;> rfl
@[simp] theorem startFrame_gov (s : State) : (startFrame s).gov = s.gov := by
  unfold startFrame
  split <;> rfl
@[simp] theorem startFrame_pack (s : State) : (startFrame s).pack = s.pack := by
  unfold startFrame
  split <;> rfl
@[simp] theorem startFrame_prot (s : State) : (startFrame s).prot = s.prot := by
  unfold startFrame
  split <;> rfl
@[simp] theorem startFrame_debris (s : State) : (startFrame s).debris = s.debris := by
  unfold startFrame
  split <;> rfl
@[simp] theorem startFrame_att (s : State) : (startFrame s).att = s.att := by
  unfold startFrame
  split <;> rfl
@[simp] theorem startFrame_roll (s : State) : (startFrame s).roll = s.roll := by
  unfold startFrame
  split <;> rfl
@[simp] theorem startFrame_contact (s : State) : (startFrame s).contact = s.contact := by
  unfold startFrame
  split <;> rfl
@[simp] theorem startFrame_stick (s : State) : (startFrame s).stick = s.stick := by
  unfold startFrame
  split <;> rfl
@[simp] theorem startFrame_dock (s : State) : (startFrame s).dock = s.dock := by
  unfold startFrame
  split <;> rfl
@[simp] theorem startFrame_evacSet (s : State) : (startFrame s).evacSet = s.evacSet := by
  unfold startFrame
  split <;> rfl
@[simp] theorem startFrame_charger (s : State) : (startFrame s).charger = s.charger := by
  unfold startFrame
  split <;> rfl
@[simp] theorem startFrame_evac (s : State) : (startFrame s).evac = s.evac := by
  unfold startFrame
  split <;> rfl
@[simp] theorem startFrame_store (s : State) : (startFrame s).store = s.store := by
  unfold startFrame
  split <;> rfl
@[simp] theorem startFrame_freeCount (s : State) : (startFrame s).freeCount = s.freeCount := by
  unfold startFrame
  split <;> rfl
@[simp] theorem startFrame_pending (s : State) : (startFrame s).pending = s.pending := by
  unfold startFrame
  split <;> rfl
@[simp] theorem enterShipIfDrained_pack_record (s : State) : (enterShipIfDrained s).pack.record = s.pack.record := by
  unfold enterShipIfDrained
  split <;> rfl
@[simp] theorem enterShipIfDrained_pack_q (s : State) : (enterShipIfDrained s).pack.q = s.pack.q := by
  unfold enterShipIfDrained
  split <;> rfl
@[simp] theorem enterShipIfDrained_pack_valid (s : State) : (enterShipIfDrained s).pack.valid = s.pack.valid := by
  unfold enterShipIfDrained
  split <;> rfl
@[simp] theorem enterShipIfDrained_pack_acc (s : State) : (enterShipIfDrained s).pack.acc = s.pack.acc := by
  unfold enterShipIfDrained
  split <;> rfl
@[simp] theorem enterShipIfDrained_pack_capacity (s : State) : (enterShipIfDrained s).pack.capacity = s.pack.capacity := by
  unfold enterShipIfDrained
  split <;> rfl
@[simp] theorem enterShipIfDrained_pack_restTimer (s : State) : (enterShipIfDrained s).pack.restTimer = s.pack.restTimer := by
  unfold enterShipIfDrained
  split <;> rfl
@[simp] theorem enterShipIfDrained_pack_full (s : State) : (enterShipIfDrained s).pack.full = s.pack.full := by
  unfold enterShipIfDrained
  split <;> rfl
@[simp] theorem enterShipIfDrained_pack_fullTimer (s : State) : (enterShipIfDrained s).pack.fullTimer = s.pack.fullTimer := by
  unfold enterShipIfDrained
  split <;> rfl
@[simp] theorem enterShipIfDrained_pack_need (s : State) : (enterShipIfDrained s).pack.need = s.pack.need := by
  unfold enterShipIfDrained
  split <;> rfl
@[simp] theorem enterShipIfDrained_pack_ocv (s : State) : (enterShipIfDrained s).pack.ocv = s.pack.ocv := by
  unfold enterShipIfDrained
  split <;> rfl
@[simp] theorem enterShipIfDrained_pack_offsets (s : State) : (enterShipIfDrained s).pack.offsets = s.pack.offsets := by
  unfold enterShipIfDrained
  split <;> rfl
@[simp] theorem enterShipIfDrained_pack_scanTimer (s : State) : (enterShipIfDrained s).pack.scanTimer = s.pack.scanTimer := by
  unfold enterShipIfDrained
  split <;> rfl
@[simp] theorem enterShipIfDrained_pack_scanning (s : State) : (enterShipIfDrained s).pack.scanning = s.pack.scanning := by
  unfold enterShipIfDrained
  split <;> rfl
@[simp] theorem enterShipIfDrained_pack_lastScan (s : State) : (enterShipIfDrained s).pack.lastScan = s.pack.lastScan := by
  unfold enterShipIfDrained
  split <;> rfl
@[simp] theorem enterShipIfDrained_drive (s : State) : (enterShipIfDrained s).drive = s.drive := by
  unfold enterShipIfDrained
  split <;> rfl
@[simp] theorem enterShipIfDrained_prot (s : State) : (enterShipIfDrained s).prot = s.prot := by
  unfold enterShipIfDrained
  split <;> rfl
@[simp] theorem enterShipIfDrained_debris (s : State) : (enterShipIfDrained s).debris = s.debris := by
  unfold enterShipIfDrained
  split <;> rfl
@[simp] theorem enterShipIfDrained_roll (s : State) : (enterShipIfDrained s).roll = s.roll := by
  unfold enterShipIfDrained
  split <;> rfl
@[simp] theorem enterShipIfDrained_stick (s : State) : (enterShipIfDrained s).stick = s.stick := by
  unfold enterShipIfDrained
  split <;> rfl
@[simp] theorem enterShipIfDrained_dock (s : State) : (enterShipIfDrained s).dock = s.dock := by
  unfold enterShipIfDrained
  split <;> rfl
@[simp] theorem enterShipIfDrained_evacSet (s : State) : (enterShipIfDrained s).evacSet = s.evacSet := by
  unfold enterShipIfDrained
  split <;> rfl
@[simp] theorem enterShipIfDrained_charger (s : State) : (enterShipIfDrained s).charger = s.charger := by
  unfold enterShipIfDrained
  split <;> rfl
@[simp] theorem enterShipIfDrained_evac (s : State) : (enterShipIfDrained s).evac = s.evac := by
  unfold enterShipIfDrained
  split <;> rfl
@[simp] theorem enterShipIfDrained_store (s : State) : (enterShipIfDrained s).store = s.store := by
  unfold enterShipIfDrained
  split <;> rfl
@[simp] theorem enterShipIfDrained_freeCount (s : State) : (enterShipIfDrained s).freeCount = s.freeCount := by
  unfold enterShipIfDrained
  split <;> rfl
@[simp] theorem enterShipIfDrained_pending (s : State) : (enterShipIfDrained s).pending = s.pending := by
  unfold enterShipIfDrained
  split <;> rfl
@[simp] theorem settle_pack_record (s : State) : (settle s).pack.record = s.pack.record := by
  simp [settle]
@[simp] theorem settle_pack_q (s : State) : (settle s).pack.q = s.pack.q := by
  simp [settle]
@[simp] theorem settle_pack_valid (s : State) : (settle s).pack.valid = s.pack.valid := by
  simp [settle]
@[simp] theorem settle_pack_acc (s : State) : (settle s).pack.acc = s.pack.acc := by
  simp [settle]
@[simp] theorem settle_pack_capacity (s : State) : (settle s).pack.capacity = s.pack.capacity := by
  simp [settle]
@[simp] theorem settle_pack_restTimer (s : State) : (settle s).pack.restTimer = s.pack.restTimer := by
  simp [settle]
@[simp] theorem settle_pack_full (s : State) : (settle s).pack.full = s.pack.full := by
  simp [settle]
@[simp] theorem settle_pack_fullTimer (s : State) : (settle s).pack.fullTimer = s.pack.fullTimer := by
  simp [settle]
@[simp] theorem settle_pack_need (s : State) : (settle s).pack.need = s.pack.need := by
  simp [settle]
@[simp] theorem settle_pack_ocv (s : State) : (settle s).pack.ocv = s.pack.ocv := by
  simp [settle]
@[simp] theorem settle_pack_offsets (s : State) : (settle s).pack.offsets = s.pack.offsets := by
  simp [settle]
@[simp] theorem settle_pack_scanTimer (s : State) : (settle s).pack.scanTimer = s.pack.scanTimer := by
  simp [settle]
@[simp] theorem settle_pack_scanning (s : State) : (settle s).pack.scanning = s.pack.scanning := by
  simp [settle]
@[simp] theorem settle_pack_lastScan (s : State) : (settle s).pack.lastScan = s.pack.lastScan := by
  simp [settle]
@[simp] theorem settle_drive (s : State) : (settle s).drive = s.drive := by
  simp [settle]
@[simp] theorem settle_prot (s : State) : (settle s).prot = s.prot := by
  simp [settle]
@[simp] theorem settle_debris (s : State) : (settle s).debris = s.debris := by
  simp [settle]
@[simp] theorem settle_roll (s : State) : (settle s).roll = s.roll := by
  simp [settle]
@[simp] theorem settle_stick (s : State) : (settle s).stick = s.stick := by
  simp [settle]
@[simp] theorem settle_dock (s : State) : (settle s).dock = s.dock := by
  simp [settle]
@[simp] theorem settle_evacSet (s : State) : (settle s).evacSet = s.evacSet := by
  simp [settle]
@[simp] theorem settle_charger (s : State) : (settle s).charger = s.charger := by
  simp [settle]
@[simp] theorem settle_evac (s : State) : (settle s).evac = s.evac := by
  simp [settle]
@[simp] theorem settle_store (s : State) : (settle s).store = s.store := by
  simp [settle]
@[simp] theorem settle_freeCount (s : State) : (settle s).freeCount = s.freeCount := by
  simp [settle]
@[simp] theorem settle_pending (s : State) : (settle s).pending = s.pending := by
  simp [settle]
@[simp] theorem settle_ctl_role (s : State) : (settle s).ctl.role = s.ctl.role := by
  unfold settle enterShipIfDrained
  split <;> simp [followTimers]
@[simp] theorem settle_ctl_cells (s : State) : (settle s).ctl.cells = s.ctl.cells := by
  unfold settle enterShipIfDrained
  split <;> simp [followTimers]
@[simp] theorem settle_ctl_ring (s : State) : (settle s).ctl.ring = s.ctl.ring := by
  unfold settle enterShipIfDrained
  split <;> simp [followTimers]
@[simp] theorem settle_ctl_nextSeq (s : State) : (settle s).ctl.nextSeq = s.ctl.nextSeq := by
  unfold settle enterShipIfDrained
  split <;> simp [followTimers]
@[simp] theorem settle_ctl_partTime (s : State) : (settle s).ctl.partTime = s.ctl.partTime := by
  unfold settle enterShipIfDrained
  split <;> simp [followTimers]
@[simp] theorem settle_ctl_cause (s : State) : (settle s).ctl.cause = s.ctl.cause := by
  unfold settle enterShipIfDrained
  split <;> simp [followTimers]
@[simp] theorem settle_ctl_lowCells (s : State) : (settle s).ctl.lowCells = s.ctl.lowCells := by
  unfold settle enterShipIfDrained
  split <;> simp [followTimers]
@[simp] theorem settle_ctl_lock (s : State) : (settle s).ctl.lock = s.ctl.lock := by
  unfold settle enterShipIfDrained
  split <;> simp [followTimers]
@[simp] theorem settle_gov_allowance (s : State) : (settle s).gov.allowance = s.gov.allowance := by
  unfold settle enterShipIfDrained
  split <;> simp [followTimers]
@[simp] theorem settle_gov_fTp (s : State) : (settle s).gov.fTp = s.gov.fTp := by
  unfold settle enterShipIfDrained
  split <;> simp [followTimers]
@[simp] theorem settle_gov_fV (s : State) : (settle s).gov.fV = s.gov.fV := by
  unfold settle enterShipIfDrained
  split <;> simp [followTimers]
@[simp] theorem settle_gov_fTb (s : State) : (settle s).gov.fTb = s.gov.fTb := by
  unfold settle enterShipIfDrained
  split <;> simp [followTimers]
@[simp] theorem settle_gov_row1 (s : State) : (settle s).gov.row1 = s.gov.row1 := by
  unfold settle enterShipIfDrained
  split <;> simp [followTimers]
@[simp] theorem settle_gov_row2 (s : State) : (settle s).gov.row2 = s.gov.row2 := by
  unfold settle enterShipIfDrained
  split <;> simp [followTimers]
@[simp] theorem settle_gov_row3 (s : State) : (settle s).gov.row3 = s.gov.row3 := by
  unfold settle enterShipIfDrained
  split <;> simp [followTimers]
@[simp] theorem settle_gov_rollDuty (s : State) : (settle s).gov.rollDuty = s.gov.rollDuty := by
  unfold settle enterShipIfDrained
  split <;> simp [followTimers]
@[simp] theorem settle_gov_pDem (s : State) : (settle s).gov.pDem = s.gov.pDem := by
  unfold settle enterShipIfDrained
  split <;> simp [followTimers]
@[simp] theorem settle_gov_pAv (s : State) : (settle s).gov.pAv = s.gov.pAv := by
  unfold settle enterShipIfDrained
  split <;> simp [followTimers]
@[simp] theorem settle_gov_pCmd (s : State) : (settle s).gov.pCmd = s.gov.pCmd := by
  unfold settle enterShipIfDrained
  split <;> simp [followTimers]
@[simp] theorem settle_gov_pMeas (s : State) : (settle s).gov.pMeas = s.gov.pMeas := by
  unfold settle enterShipIfDrained
  split <;> simp [followTimers]
@[simp] theorem settle_gov_e (s : State) : (settle s).gov.e = s.gov.e := by
  unfold settle enterShipIfDrained
  split <;> simp [followTimers]
@[simp] theorem settle_gov_a (s : State) : (settle s).gov.a = s.gov.a := by
  unfold settle enterShipIfDrained
  split <;> simp [followTimers]
@[simp] theorem settle_gov_residue (s : State) : (settle s).gov.residue = s.gov.residue := by
  unfold settle enterShipIfDrained
  split <;> simp [followTimers]
@[simp] theorem settle_gov_prev (s : State) : (settle s).gov.prev = s.gov.prev := by
  unfold settle enterShipIfDrained
  split <;> simp [followTimers]
@[simp] theorem settle_gov_saturated (s : State) : (settle s).gov.saturated = s.gov.saturated := by
  unfold settle enterShipIfDrained
  split <;> simp [followTimers]
@[simp] theorem settle_gov_pHold (s : State) : (settle s).gov.pHold = s.gov.pHold := by
  unfold settle enterShipIfDrained
  split <;> simp [followTimers]
@[simp] theorem settle_gov_handedDuty (s : State) : (settle s).gov.handedDuty = s.gov.handedDuty := by
  unfold settle enterShipIfDrained
  split <;> simp [followTimers]
@[simp] theorem settle_gov_powers (s : State) : (settle s).gov.powers = s.gov.powers := by
  unfold settle enterShipIfDrained
  split <;> simp [followTimers]
@[simp] theorem settle_gov_kp (s : State) : (settle s).gov.kp = s.gov.kp := by
  unfold settle enterShipIfDrained
  split <;> simp [followTimers]
@[simp] theorem settle_gov_ki (s : State) : (settle s).gov.ki = s.gov.ki := by
  unfold settle enterShipIfDrained
  split <;> simp [followTimers]
@[simp] theorem settle_gov_limits (s : State) : (settle s).gov.limits = s.gov.limits := by
  unfold settle enterShipIfDrained
  split <;> simp [followTimers]
@[simp] theorem settle_att_entries (s : State) : (settle s).att.entries = s.att.entries := by
  unfold settle enterShipIfDrained
  split <;> simp [followTimers]
@[simp] theorem settle_att_result (s : State) : (settle s).att.result = s.att.result := by
  unfold settle enterShipIfDrained
  split <;> simp [followTimers]
@[simp] theorem settle_att_voltage (s : State) : (settle s).att.voltage = s.att.voltage := by
  unfold settle enterShipIfDrained
  split <;> simp [followTimers]
@[simp] theorem settle_att_candidate (s : State) : (settle s).att.candidate = s.att.candidate := by
  unfold settle enterShipIfDrained
  split <;> simp [followTimers]
@[simp] theorem settle_att_count (s : State) : (settle s).att.count = s.att.count := by
  unfold settle enterShipIfDrained
  split <;> simp [followTimers]
@[simp] theorem settle_att_latest (s : State) : (settle s).att.latest = s.att.latest := by
  unfold settle enterShipIfDrained
  split <;> simp [followTimers]
@[simp] theorem settle_host_rxq (s : State) : (settle s).host.rxq = s.host.rxq := by
  unfold settle enterShipIfDrained startFrame
  split <;> split <;> rfl
@[simp] theorem settle_host_mask (s : State) : (settle s).host.mask = s.host.mask := by
  unfold settle enterShipIfDrained startFrame
  split <;> split <;> rfl
@[simp] theorem settle_host_govSat (s : State) : (settle s).host.govSat = s.host.govSat := by
  unfold settle enterShipIfDrained startFrame
  split <;> split <;> rfl
@[simp] theorem settle_host_overrun (s : State) : (settle s).host.overrun = s.host.overrun := by
  unfold settle enterShipIfDrained startFrame
  split <;> split <;> rfl
@[simp] theorem settle_host_linkError (s : State) : (settle s).host.linkError = s.host.linkError := by
  unfold settle enterShipIfDrained startFrame
  split <;> split <;> rfl
@[simp] theorem settle_host_faultNew (s : State) : (settle s).host.faultNew = s.host.faultNew := by
  unfold settle enterShipIfDrained startFrame
  split <;> split <;> rfl
@[simp] theorem settle_host_errors (s : State) : (settle s).host.errors = s.host.errors := by
  unfold settle enterShipIfDrained startFrame
  split <;> split <;> rfl
@[simp] theorem settle_host_supPeriod (s : State) : (settle s).host.supPeriod = s.host.supPeriod := by
  unfold settle enterShipIfDrained startFrame
  split <;> split <;> rfl

/-- The entry to SHIP makes the outputs inactive, and nothing else of what follows an event touches them (R69, R175). -/
theorem settle_outputs (s : State) :
    ((settle s).pack = s.pack ∧ (settle s).contact = s.contact) ∨
    ((settle s).ctl.power = .ship ∧ (settle s).pack = { s.pack with balance := [] } ∧
      (settle s).contact = Contact.atReset) := by
  unfold settle enterShipIfDrained
  split
  · exact .inr ⟨rfl, by simp, rfl⟩
  · exact .inl ⟨by simp, by simp⟩

/-- Without a SHIP decision, the balance set and the contact link stay as they are. -/
theorem settle_outputs_of_link {s : State} (h : s.ctl.shipDecided = false) :
    (settle s).pack = s.pack ∧ (settle s).contact = s.contact := by
  unfold settle enterShipIfDrained
  split
  · next c => simp [followTimers, h] at c
  · exact ⟨by simp, by simp⟩

/-- The readings of the governor period in progress after an event: kept while its timer runs, else none (R13, R106). -/
theorem settle_samples (s : State) :
    ((settle s).gov.busSamples = s.gov.busSamples ∧ (settle s).gov.rollSamples = s.gov.rollSamples) ∨
    ((settle s).gov.timer = none ∧ (settle s).gov.busSamples = CurrentSum.empty ∧
      (settle s).gov.rollSamples = CurrentSum.empty) := by
  unfold settle enterShipIfDrained
  split
  · exact .inr ⟨rfl, rfl, rfl⟩
  · rcases Gov.follow_samples s.govRuns (s.after 1) s.gov with h | h
    · exact .inl (by simpa [followTimers] using h.2)
    · exact .inr (by simpa [followTimers] using h.2)

/-- What follows an event only takes frames out of the queues. -/
theorem settle_replies_le (s : State) : (settle s).host.replies.length ≤ s.host.replies.length := by
  unfold settle enterShipIfDrained startFrame
  split <;> split <;> simp_all [followTimers]

theorem settle_reports_le (s : State) : (settle s).host.reports.length ≤ s.host.reports.length := by
  unfold settle enterShipIfDrained startFrame
  split <;> split <;> simp_all [followTimers]

/-! ### An event -/

/-- An event changes nothing, or it occurs outside SHIP and is followed by `settle`. -/
theorem event_cases {b : Bool} {f : State → State} {s : State} {o : Host.Outcome State Fault Refusal}
    (h : event b f s = o) :
    o = .next s ∨ (b = true ∧ s.ctl.power ≠ .ship ∧ o = .next (settle (f s))) := by
  unfold event at h
  split at h
  · next c =>
    simp at c
    exact .inr ⟨c.1, c.2, h.symm⟩
  · exact .inl h.symm

/-- An event that occurs outside SHIP. -/
theorem event_occurs {b : Bool} {f : State → State} {s : State} (hb : b = true) (hp : s.ctl.power ≠ .ship) :
    event b f s = .next (settle (f s)) := by
  simp [event, hb, hp]

/-- An event whose condition does not hold changes nothing. -/
theorem event_absent {f : State → State} {s : State} : event false f s = .next s := by
  simp [event]

/-- In SHIP an event changes nothing. -/
theorem event_ship {b : Bool} {f : State → State} {s : State} (hp : s.ctl.power = .ship) : event b f s = .next s := by
  simp [event, hp]

/-- A property that every effect and `settle` keep is kept by an event. -/
theorem event_keeps {P : State → Prop} {b : Bool} {f : State → State} {s t : State} (h : event b f s = .next t)
    (hs : P s) (hf : b = true → P (f s)) (hsettle : ∀ u, P u → P (settle u)) : P t := by
  rcases event_cases h with e | ⟨hb, -, e⟩
  · cases e; exact hs
  · cases e; exact hsettle _ (hf hb)

/-! ### Qualifying times -/

/-- A condition timer runs exactly while its condition holds, and keeps the part time it was set at; the condition has
qualified when the time has passed since. -/
theorem holdTimer_spec (now : Ms) (timer : Option Ms) (holds : Bool) (time : Nat) :
    (holds = false ∧ holdTimer now timer holds time = (none, false)) ∨
    (holds = true ∧ timer = none ∧ holdTimer now timer holds time = (some now, false)) ∨
    (∃ t, holds = true ∧ timer = some t ∧
      holdTimer now timer holds time = (some t, decide (time ≤ (now - t).toNat))) := by
  cases holds <;> cases timer <;> simp [holdTimer]

@[simp] theorem holdTimer_timer_isSome (now : Ms) (timer : Option Ms) (holds : Bool) (time : Nat) :
    (holdTimer now timer holds time).1.isSome = holds := by
  cases holds <;> cases timer <;> rfl

@[simp] theorem qualify_qualified (now : Ms) (timer : Option Ms) (holds : Bool) (time : Nat) :
    (qualify now timer holds time).2 = (holdTimer now timer holds time).2 := rfl

/-- A condition that has qualified holds, and its timer was running for the time. -/
theorem holdTimer_qualified {now : Ms} {timer : Option Ms} {holds : Bool} {time : Nat}
    (h : (holdTimer now timer holds time).2 = true) :
    holds = true ∧ ∃ t, timer = some t ∧ time ≤ (now - t).toNat := by
  cases holds <;> cases timer <;> simp_all [holdTimer]

/-- The timer of R59 runs while its condition holds and has not qualified. -/
theorem qualify_timer (now : Ms) (timer : Option Ms) (holds : Bool) (time : Nat) :
    (qualify now timer holds time).1
      = if (holdTimer now timer holds time).2 then none else (holdTimer now timer holds time).1 := rfl

end Sys2Proof.Machine
end

