-- ==== Sys2Proof/Laws/DriveOps.lean ====
section
/-! SUPPORT. What the shared operations of the two drives leave unchanged, one lemma per field. -/

namespace Sys2Proof.Machine

open Sys2Proof

/-! ### rollStop -/

@[simp] theorem rollStop_ctl (st : RollState) (s : State) : (rollStop st s).ctl = s.ctl := rfl
@[simp] theorem rollStop_host (st : RollState) (s : State) : (rollStop st s).host = s.host := rfl
@[simp] theorem rollStop_drive (st : RollState) (s : State) : (rollStop st s).drive = s.drive := rfl
@[simp] theorem rollStop_gov (st : RollState) (s : State) : (rollStop st s).gov = s.gov := rfl
@[simp] theorem rollStop_pack (st : RollState) (s : State) : (rollStop st s).pack = s.pack := rfl
@[simp] theorem rollStop_prot (st : RollState) (s : State) : (rollStop st s).prot = s.prot := rfl
@[simp] theorem rollStop_debris (st : RollState) (s : State) : (rollStop st s).debris = s.debris := rfl
@[simp] theorem rollStop_att (st : RollState) (s : State) : (rollStop st s).att = s.att := rfl
@[simp] theorem rollStop_contact (st : RollState) (s : State) : (rollStop st s).contact = s.contact := rfl
@[simp] theorem rollStop_stick (st : RollState) (s : State) : (rollStop st s).stick = s.stick := rfl
@[simp] theorem rollStop_dock (st : RollState) (s : State) : (rollStop st s).dock = s.dock := rfl
@[simp] theorem rollStop_evacSet (st : RollState) (s : State) : (rollStop st s).evacSet = s.evacSet := rfl
@[simp] theorem rollStop_charger (st : RollState) (s : State) : (rollStop st s).charger = s.charger := rfl
@[simp] theorem rollStop_evac (st : RollState) (s : State) : (rollStop st s).evac = s.evac := rfl
@[simp] theorem rollStop_store (st : RollState) (s : State) : (rollStop st s).store = s.store := rfl
@[simp] theorem rollStop_freeCount (st : RollState) (s : State) : (rollStop st s).freeCount = s.freeCount := rfl
@[simp] theorem rollStop_pending (st : RollState) (s : State) : (rollStop st s).pending = s.pending := rfl
/-! ### rollEnterOff -/

@[simp] theorem rollEnterOff_ctl (c : Bool) (s : State) : (rollEnterOff c s).ctl = s.ctl := rfl
@[simp] theorem rollEnterOff_host (c : Bool) (s : State) : (rollEnterOff c s).host = s.host := rfl
@[simp] theorem rollEnterOff_drive (c : Bool) (s : State) : (rollEnterOff c s).drive = s.drive := rfl
@[simp] theorem rollEnterOff_gov (c : Bool) (s : State) : (rollEnterOff c s).gov = s.gov := rfl
@[simp] theorem rollEnterOff_pack (c : Bool) (s : State) : (rollEnterOff c s).pack = s.pack := rfl
@[simp] theorem rollEnterOff_prot (c : Bool) (s : State) : (rollEnterOff c s).prot = s.prot := rfl
@[simp] theorem rollEnterOff_debris (c : Bool) (s : State) : (rollEnterOff c s).debris = s.debris := rfl
@[simp] theorem rollEnterOff_att (c : Bool) (s : State) : (rollEnterOff c s).att = s.att := rfl
@[simp] theorem rollEnterOff_contact (c : Bool) (s : State) : (rollEnterOff c s).contact = s.contact := rfl
@[simp] theorem rollEnterOff_stick (c : Bool) (s : State) : (rollEnterOff c s).stick = s.stick := rfl
@[simp] theorem rollEnterOff_dock (c : Bool) (s : State) : (rollEnterOff c s).dock = s.dock := rfl
@[simp] theorem rollEnterOff_evacSet (c : Bool) (s : State) : (rollEnterOff c s).evacSet = s.evacSet := rfl
@[simp] theorem rollEnterOff_charger (c : Bool) (s : State) : (rollEnterOff c s).charger = s.charger := rfl
@[simp] theorem rollEnterOff_evac (c : Bool) (s : State) : (rollEnterOff c s).evac = s.evac := rfl
@[simp] theorem rollEnterOff_store (c : Bool) (s : State) : (rollEnterOff c s).store = s.store := rfl
@[simp] theorem rollEnterOff_freeCount (c : Bool) (s : State) : (rollEnterOff c s).freeCount = s.freeCount := rfl
@[simp] theorem rollEnterOff_pending (c : Bool) (s : State) : (rollEnterOff c s).pending = s.pending := rfl
/-! ### rollEnterSpinup -/

@[simp] theorem rollEnterSpinup_ctl (s : State) : (rollEnterSpinup s).ctl = s.ctl := rfl
@[simp] theorem rollEnterSpinup_host (s : State) : (rollEnterSpinup s).host = s.host := rfl
@[simp] theorem rollEnterSpinup_drive (s : State) : (rollEnterSpinup s).drive = s.drive := rfl
@[simp] theorem rollEnterSpinup_gov (s : State) : (rollEnterSpinup s).gov = s.gov := rfl
@[simp] theorem rollEnterSpinup_pack (s : State) : (rollEnterSpinup s).pack = s.pack := rfl
@[simp] theorem rollEnterSpinup_prot (s : State) : (rollEnterSpinup s).prot = s.prot := rfl
@[simp] theorem rollEnterSpinup_debris (s : State) : (rollEnterSpinup s).debris = s.debris := rfl
@[simp] theorem rollEnterSpinup_att (s : State) : (rollEnterSpinup s).att = s.att := rfl
@[simp] theorem rollEnterSpinup_contact (s : State) : (rollEnterSpinup s).contact = s.contact := rfl
@[simp] theorem rollEnterSpinup_stick (s : State) : (rollEnterSpinup s).stick = s.stick := rfl
@[simp] theorem rollEnterSpinup_dock (s : State) : (rollEnterSpinup s).dock = s.dock := rfl
@[simp] theorem rollEnterSpinup_evacSet (s : State) : (rollEnterSpinup s).evacSet = s.evacSet := rfl
@[simp] theorem rollEnterSpinup_charger (s : State) : (rollEnterSpinup s).charger = s.charger := rfl
@[simp] theorem rollEnterSpinup_evac (s : State) : (rollEnterSpinup s).evac = s.evac := rfl
@[simp] theorem rollEnterSpinup_store (s : State) : (rollEnterSpinup s).store = s.store := rfl
@[simp] theorem rollEnterSpinup_freeCount (s : State) : (rollEnterSpinup s).freeCount = s.freeCount := rfl
@[simp] theorem rollEnterSpinup_pending (s : State) : (rollEnterSpinup s).pending = s.pending := rfl
/-! ### reportRoll -/

@[simp] theorem reportRoll_ctl (c : DriveCause) (s : State) : (reportRoll c s).ctl = s.ctl := by
  unfold reportRoll; simp
@[simp] theorem reportRoll_drive (c : DriveCause) (s : State) : (reportRoll c s).drive = s.drive := by
  unfold reportRoll; simp
@[simp] theorem reportRoll_gov (c : DriveCause) (s : State) : (reportRoll c s).gov = s.gov := by
  unfold reportRoll; simp
@[simp] theorem reportRoll_pack (c : DriveCause) (s : State) : (reportRoll c s).pack = s.pack := by
  unfold reportRoll; simp
@[simp] theorem reportRoll_prot (c : DriveCause) (s : State) : (reportRoll c s).prot = s.prot := by
  unfold reportRoll; simp
@[simp] theorem reportRoll_debris (c : DriveCause) (s : State) : (reportRoll c s).debris = s.debris := by
  unfold reportRoll; simp
@[simp] theorem reportRoll_att (c : DriveCause) (s : State) : (reportRoll c s).att = s.att := by
  unfold reportRoll; simp
@[simp] theorem reportRoll_roll (c : DriveCause) (s : State) : (reportRoll c s).roll = s.roll := by
  unfold reportRoll; simp
@[simp] theorem reportRoll_contact (c : DriveCause) (s : State) : (reportRoll c s).contact = s.contact := by
  unfold reportRoll; simp
@[simp] theorem reportRoll_stick (c : DriveCause) (s : State) : (reportRoll c s).stick = s.stick := by
  unfold reportRoll; simp
@[simp] theorem reportRoll_dock (c : DriveCause) (s : State) : (reportRoll c s).dock = s.dock := by
  unfold reportRoll; simp
@[simp] theorem reportRoll_evacSet (c : DriveCause) (s : State) : (reportRoll c s).evacSet = s.evacSet := by
  unfold reportRoll; simp
@[simp] theorem reportRoll_charger (c : DriveCause) (s : State) : (reportRoll c s).charger = s.charger := by
  unfold reportRoll; simp
@[simp] theorem reportRoll_evac (c : DriveCause) (s : State) : (reportRoll c s).evac = s.evac := by
  unfold reportRoll; simp
@[simp] theorem reportRoll_store (c : DriveCause) (s : State) : (reportRoll c s).store = s.store := by
  unfold reportRoll; simp
@[simp] theorem reportRoll_freeCount (c : DriveCause) (s : State) : (reportRoll c s).freeCount = s.freeCount := by
  unfold reportRoll; simp
@[simp] theorem reportRoll_pending (c : DriveCause) (s : State) : (reportRoll c s).pending = s.pending := by
  unfold reportRoll; simp
@[simp] theorem reportRoll_host_rxq (c : DriveCause) (s : State) : (reportRoll c s).host.rxq = s.host.rxq := by
  unfold reportRoll; simp
@[simp] theorem reportRoll_host_replies (c : DriveCause) (s : State) : (reportRoll c s).host.replies = s.host.replies := by
  unfold reportRoll; simp
@[simp] theorem reportRoll_host_errors (c : DriveCause) (s : State) : (reportRoll c s).host.errors = s.host.errors := by
  unfold reportRoll; simp
@[simp] theorem reportRoll_host_supPeriod (c : DriveCause) (s : State) : (reportRoll c s).host.supPeriod = s.host.supPeriod := by
  unfold reportRoll; simp
@[simp] theorem reportRoll_host_tx (c : DriveCause) (s : State) : (reportRoll c s).host.tx = s.host.tx := by
  unfold reportRoll; simp
/-! ### rollEvaluate -/

@[simp] theorem rollEvaluate_ctl (s : State) : (rollEvaluate s).ctl = s.ctl := by
  unfold rollEvaluate; (repeat' split) <;> simp
@[simp] theorem rollEvaluate_host (s : State) : (rollEvaluate s).host = s.host := by
  unfold rollEvaluate; (repeat' split) <;> simp
@[simp] theorem rollEvaluate_drive (s : State) : (rollEvaluate s).drive = s.drive := by
  unfold rollEvaluate; (repeat' split) <;> simp
@[simp] theorem rollEvaluate_gov (s : State) : (rollEvaluate s).gov = s.gov := by
  unfold rollEvaluate; (repeat' split) <;> simp
@[simp] theorem rollEvaluate_pack (s : State) : (rollEvaluate s).pack = s.pack := by
  unfold rollEvaluate; (repeat' split) <;> simp
@[simp] theorem rollEvaluate_prot (s : State) : (rollEvaluate s).prot = s.prot := by
  unfold rollEvaluate; (repeat' split) <;> simp
@[simp] theorem rollEvaluate_debris (s : State) : (rollEvaluate s).debris = s.debris := by
  unfold rollEvaluate; (repeat' split) <;> simp
@[simp] theorem rollEvaluate_att (s : State) : (rollEvaluate s).att = s.att := by
  unfold rollEvaluate; (repeat' split) <;> simp
@[simp] theorem rollEvaluate_contact (s : State) : (rollEvaluate s).contact = s.contact := by
  unfold rollEvaluate; (repeat' split) <;> simp
@[simp] theorem rollEvaluate_stick (s : State) : (rollEvaluate s).stick = s.stick := by
  unfold rollEvaluate; (repeat' split) <;> simp
@[simp] theorem rollEvaluate_dock (s : State) : (rollEvaluate s).dock = s.dock := by
  unfold rollEvaluate; (repeat' split) <;> simp
@[simp] theorem rollEvaluate_evacSet (s : State) : (rollEvaluate s).evacSet = s.evacSet := by
  unfold rollEvaluate; (repeat' split) <;> simp
@[simp] theorem rollEvaluate_charger (s : State) : (rollEvaluate s).charger = s.charger := by
  unfold rollEvaluate; (repeat' split) <;> simp
@[simp] theorem rollEvaluate_evac (s : State) : (rollEvaluate s).evac = s.evac := by
  unfold rollEvaluate; (repeat' split) <;> simp
@[simp] theorem rollEvaluate_store (s : State) : (rollEvaluate s).store = s.store := by
  unfold rollEvaluate; (repeat' split) <;> simp
@[simp] theorem rollEvaluate_freeCount (s : State) : (rollEvaluate s).freeCount = s.freeCount := by
  unfold rollEvaluate; (repeat' split) <;> simp
@[simp] theorem rollEvaluate_pending (s : State) : (rollEvaluate s).pending = s.pending := by
  unfold rollEvaluate; (repeat' split) <;> simp
/-! ### rollRelease -/

@[simp] theorem rollRelease_ctl (c : DriveCause) (s : State) : (rollRelease c s).ctl = s.ctl := by
  unfold rollRelease; (repeat' split) <;> simp
@[simp] theorem rollRelease_drive (c : DriveCause) (s : State) : (rollRelease c s).drive = s.drive := by
  unfold rollRelease; (repeat' split) <;> simp
@[simp] theorem rollRelease_gov (c : DriveCause) (s : State) : (rollRelease c s).gov = s.gov := by
  unfold rollRelease; (repeat' split) <;> simp
@[simp] theorem rollRelease_pack (c : DriveCause) (s : State) : (rollRelease c s).pack = s.pack := by
  unfold rollRelease; (repeat' split) <;> simp
@[simp] theorem rollRelease_prot (c : DriveCause) (s : State) : (rollRelease c s).prot = s.prot := by
  unfold rollRelease; (repeat' split) <;> simp
@[simp] theorem rollRelease_debris (c : DriveCause) (s : State) : (rollRelease c s).debris = s.debris := by
  unfold rollRelease; (repeat' split) <;> simp
@[simp] theorem rollRelease_att (c : DriveCause) (s : State) : (rollRelease c s).att = s.att := by
  unfold rollRelease; (repeat' split) <;> simp
@[simp] theorem rollRelease_contact (c : DriveCause) (s : State) : (rollRelease c s).contact = s.contact := by
  unfold rollRelease; (repeat' split) <;> simp
@[simp] theorem rollRelease_stick (c : DriveCause) (s : State) : (rollRelease c s).stick = s.stick := by
  unfold rollRelease; (repeat' split) <;> simp
@[simp] theorem rollRelease_dock (c : DriveCause) (s : State) : (rollRelease c s).dock = s.dock := by
  unfold rollRelease; (repeat' split) <;> simp
@[simp] theorem rollRelease_evacSet (c : DriveCause) (s : State) : (rollRelease c s).evacSet = s.evacSet := by
  unfold rollRelease; (repeat' split) <;> simp
@[simp] theorem rollRelease_charger (c : DriveCause) (s : State) : (rollRelease c s).charger = s.charger := by
  unfold rollRelease; (repeat' split) <;> simp
@[simp] theorem rollRelease_evac (c : DriveCause) (s : State) : (rollRelease c s).evac = s.evac := by
  unfold rollRelease; (repeat' split) <;> simp
@[simp] theorem rollRelease_store (c : DriveCause) (s : State) : (rollRelease c s).store = s.store := by
  unfold rollRelease; (repeat' split) <;> simp
@[simp] theorem rollRelease_freeCount (c : DriveCause) (s : State) : (rollRelease c s).freeCount = s.freeCount := by
  unfold rollRelease; (repeat' split) <;> simp
@[simp] theorem rollRelease_pending (c : DriveCause) (s : State) : (rollRelease c s).pending = s.pending := by
  unfold rollRelease; (repeat' split) <;> simp
@[simp] theorem rollRelease_host_rxq (c : DriveCause) (s : State) : (rollRelease c s).host.rxq = s.host.rxq := by
  unfold rollRelease; (repeat' split) <;> simp
@[simp] theorem rollRelease_host_replies (c : DriveCause) (s : State) : (rollRelease c s).host.replies = s.host.replies := by
  unfold rollRelease; (repeat' split) <;> simp
@[simp] theorem rollRelease_host_errors (c : DriveCause) (s : State) : (rollRelease c s).host.errors = s.host.errors := by
  unfold rollRelease; (repeat' split) <;> simp
@[simp] theorem rollRelease_host_supPeriod (c : DriveCause) (s : State) : (rollRelease c s).host.supPeriod = s.host.supPeriod := by
  unfold rollRelease; (repeat' split) <;> simp
@[simp] theorem rollRelease_host_tx (c : DriveCause) (s : State) : (rollRelease c s).host.tx = s.host.tx := by
  unfold rollRelease; (repeat' split) <;> simp
/-! ### rollSilence -/

@[simp] theorem rollSilence_ctl (s : State) : (rollSilence s).ctl = s.ctl := by
  unfold rollSilence; (repeat' split) <;> simp
@[simp] theorem rollSilence_drive (s : State) : (rollSilence s).drive = s.drive := by
  unfold rollSilence; (repeat' split) <;> simp
@[simp] theorem rollSilence_gov (s : State) : (rollSilence s).gov = s.gov := by
  unfold rollSilence; (repeat' split) <;> simp
@[simp] theorem rollSilence_pack (s : State) : (rollSilence s).pack = s.pack := by
  unfold rollSilence; (repeat' split) <;> simp
@[simp] theorem rollSilence_prot (s : State) : (rollSilence s).prot = s.prot := by
  unfold rollSilence; (repeat' split) <;> simp
@[simp] theorem rollSilence_debris (s : State) : (rollSilence s).debris = s.debris := by
  unfold rollSilence; (repeat' split) <;> simp
@[simp] theorem rollSilence_att (s : State) : (rollSilence s).att = s.att := by
  unfold rollSilence; (repeat' split) <;> simp
@[simp] theorem rollSilence_contact (s : State) : (rollSilence s).contact = s.contact := by
  unfold rollSilence; (repeat' split) <;> simp
@[simp] theorem rollSilence_stick (s : State) : (rollSilence s).stick = s.stick := by
  unfold rollSilence; (repeat' split) <;> simp
@[simp] theorem rollSilence_dock (s : State) : (rollSilence s).dock = s.dock := by
  unfold rollSilence; (repeat' split) <;> simp
@[simp] theorem rollSilence_evacSet (s : State) : (rollSilence s).evacSet = s.evacSet := by
  unfold rollSilence; (repeat' split) <;> simp
@[simp] theorem rollSilence_charger (s : State) : (rollSilence s).charger = s.charger := by
  unfold rollSilence; (repeat' split) <;> simp
@[simp] theorem rollSilence_evac (s : State) : (rollSilence s).evac = s.evac := by
  unfold rollSilence; (repeat' split) <;> simp
@[simp] theorem rollSilence_store (s : State) : (rollSilence s).store = s.store := by
  unfold rollSilence; (repeat' split) <;> simp
@[simp] theorem rollSilence_freeCount (s : State) : (rollSilence s).freeCount = s.freeCount := by
  unfold rollSilence; (repeat' split) <;> simp
@[simp] theorem rollSilence_pending (s : State) : (rollSilence s).pending = s.pending := by
  unfold rollSilence; (repeat' split) <;> simp
@[simp] theorem rollSilence_host_rxq (s : State) : (rollSilence s).host.rxq = s.host.rxq := by
  unfold rollSilence; (repeat' split) <;> simp
@[simp] theorem rollSilence_host_replies (s : State) : (rollSilence s).host.replies = s.host.replies := by
  unfold rollSilence; (repeat' split) <;> simp
@[simp] theorem rollSilence_host_errors (s : State) : (rollSilence s).host.errors = s.host.errors := by
  unfold rollSilence; (repeat' split) <;> simp
@[simp] theorem rollSilence_host_supPeriod (s : State) : (rollSilence s).host.supPeriod = s.host.supPeriod := by
  unfold rollSilence; (repeat' split) <;> simp
@[simp] theorem rollSilence_host_tx (s : State) : (rollSilence s).host.tx = s.host.tx := by
  unfold rollSilence; (repeat' split) <;> simp
/-! ### reportDrive -/

@[simp] theorem reportDrive_ctl (c : DriveCause) (s : State) : (reportDrive c s).ctl = s.ctl := by
  unfold reportDrive; simp
@[simp] theorem reportDrive_drive (c : DriveCause) (s : State) : (reportDrive c s).drive = s.drive := by
  unfold reportDrive; simp
@[simp] theorem reportDrive_gov (c : DriveCause) (s : State) : (reportDrive c s).gov = s.gov := by
  unfold reportDrive; simp
@[simp] theorem reportDrive_pack (c : DriveCause) (s : State) : (reportDrive c s).pack = s.pack := by
  unfold reportDrive; simp
@[simp] theorem reportDrive_prot (c : DriveCause) (s : State) : (reportDrive c s).prot = s.prot := by
  unfold reportDrive; simp
@[simp] theorem reportDrive_debris (c : DriveCause) (s : State) : (reportDrive c s).debris = s.debris := by
  unfold reportDrive; simp
@[simp] theorem reportDrive_att (c : DriveCause) (s : State) : (reportDrive c s).att = s.att := by
  unfold reportDrive; simp
@[simp] theorem reportDrive_roll (c : DriveCause) (s : State) : (reportDrive c s).roll = s.roll := by
  unfold reportDrive; simp
@[simp] theorem reportDrive_contact (c : DriveCause) (s : State) : (reportDrive c s).contact = s.contact := by
  unfold reportDrive; simp
@[simp] theorem reportDrive_stick (c : DriveCause) (s : State) : (reportDrive c s).stick = s.stick := by
  unfold reportDrive; simp
@[simp] theorem reportDrive_dock (c : DriveCause) (s : State) : (reportDrive c s).dock = s.dock := by
  unfold reportDrive; simp
@[simp] theorem reportDrive_evacSet (c : DriveCause) (s : State) : (reportDrive c s).evacSet = s.evacSet := by
  unfold reportDrive; simp
@[simp] theorem reportDrive_charger (c : DriveCause) (s : State) : (reportDrive c s).charger = s.charger := by
  unfold reportDrive; simp
@[simp] theorem reportDrive_evac (c : DriveCause) (s : State) : (reportDrive c s).evac = s.evac := by
  unfold reportDrive; simp
@[simp] theorem reportDrive_store (c : DriveCause) (s : State) : (reportDrive c s).store = s.store := by
  unfold reportDrive; simp
@[simp] theorem reportDrive_freeCount (c : DriveCause) (s : State) : (reportDrive c s).freeCount = s.freeCount := by
  unfold reportDrive; simp
@[simp] theorem reportDrive_pending (c : DriveCause) (s : State) : (reportDrive c s).pending = s.pending := by
  unfold reportDrive; simp
@[simp] theorem reportDrive_host_rxq (c : DriveCause) (s : State) : (reportDrive c s).host.rxq = s.host.rxq := by
  unfold reportDrive; simp
@[simp] theorem reportDrive_host_replies (c : DriveCause) (s : State) : (reportDrive c s).host.replies = s.host.replies := by
  unfold reportDrive; simp
@[simp] theorem reportDrive_host_errors (c : DriveCause) (s : State) : (reportDrive c s).host.errors = s.host.errors := by
  unfold reportDrive; simp
@[simp] theorem reportDrive_host_supPeriod (c : DriveCause) (s : State) : (reportDrive c s).host.supPeriod = s.host.supPeriod := by
  unfold reportDrive; simp
@[simp] theorem reportDrive_host_tx (c : DriveCause) (s : State) : (reportDrive c s).host.tx = s.host.tx := by
  unfold reportDrive; simp
/-! ### enterAlign -/

@[simp] theorem enterAlign_ctl (s : State) : (enterAlign s).ctl = s.ctl := rfl
@[simp] theorem enterAlign_host (s : State) : (enterAlign s).host = s.host := rfl
@[simp] theorem enterAlign_gov (s : State) : (enterAlign s).gov = s.gov := rfl
@[simp] theorem enterAlign_prot (s : State) : (enterAlign s).prot = s.prot := rfl
@[simp] theorem enterAlign_debris (s : State) : (enterAlign s).debris = s.debris := rfl
@[simp] theorem enterAlign_att (s : State) : (enterAlign s).att = s.att := rfl
@[simp] theorem enterAlign_roll (s : State) : (enterAlign s).roll = s.roll := rfl
@[simp] theorem enterAlign_contact (s : State) : (enterAlign s).contact = s.contact := rfl
@[simp] theorem enterAlign_stick (s : State) : (enterAlign s).stick = s.stick := rfl
@[simp] theorem enterAlign_dock (s : State) : (enterAlign s).dock = s.dock := rfl
@[simp] theorem enterAlign_evacSet (s : State) : (enterAlign s).evacSet = s.evacSet := rfl
@[simp] theorem enterAlign_charger (s : State) : (enterAlign s).charger = s.charger := rfl
@[simp] theorem enterAlign_evac (s : State) : (enterAlign s).evac = s.evac := rfl
@[simp] theorem enterAlign_store (s : State) : (enterAlign s).store = s.store := rfl
@[simp] theorem enterAlign_freeCount (s : State) : (enterAlign s).freeCount = s.freeCount := rfl
@[simp] theorem enterAlign_pending (s : State) : (enterAlign s).pending = s.pending := rfl
@[simp] theorem enterAlign_pack_record (s : State) : (enterAlign s).pack.record = s.pack.record := rfl
@[simp] theorem enterAlign_pack_q (s : State) : (enterAlign s).pack.q = s.pack.q := rfl
@[simp] theorem enterAlign_pack_capacity (s : State) : (enterAlign s).pack.capacity = s.pack.capacity := rfl
@[simp] theorem enterAlign_pack_need (s : State) : (enterAlign s).pack.need = s.pack.need := rfl
/-! ### serveWaiting -/

@[simp] theorem serveWaiting_ctl (s : State) : (serveWaiting s).ctl = s.ctl := by
  unfold serveWaiting; (repeat' split) <;> simp
@[simp] theorem serveWaiting_host (s : State) : (serveWaiting s).host = s.host := by
  unfold serveWaiting; (repeat' split) <;> simp
@[simp] theorem serveWaiting_gov (s : State) : (serveWaiting s).gov = s.gov := by
  unfold serveWaiting; (repeat' split) <;> simp
@[simp] theorem serveWaiting_prot (s : State) : (serveWaiting s).prot = s.prot := by
  unfold serveWaiting; (repeat' split) <;> simp
@[simp] theorem serveWaiting_debris (s : State) : (serveWaiting s).debris = s.debris := by
  unfold serveWaiting; (repeat' split) <;> simp
@[simp] theorem serveWaiting_att (s : State) : (serveWaiting s).att = s.att := by
  unfold serveWaiting; (repeat' split) <;> simp
@[simp] theorem serveWaiting_roll (s : State) : (serveWaiting s).roll = s.roll := by
  unfold serveWaiting; (repeat' split) <;> simp
@[simp] theorem serveWaiting_contact (s : State) : (serveWaiting s).contact = s.contact := by
  unfold serveWaiting; (repeat' split) <;> simp
@[simp] theorem serveWaiting_stick (s : State) : (serveWaiting s).stick = s.stick := by
  unfold serveWaiting; (repeat' split) <;> simp
@[simp] theorem serveWaiting_dock (s : State) : (serveWaiting s).dock = s.dock := by
  unfold serveWaiting; (repeat' split) <;> simp
@[simp] theorem serveWaiting_evacSet (s : State) : (serveWaiting s).evacSet = s.evacSet := by
  unfold serveWaiting; (repeat' split) <;> simp
@[simp] theorem serveWaiting_charger (s : State) : (serveWaiting s).charger = s.charger := by
  unfold serveWaiting; (repeat' split) <;> simp
@[simp] theorem serveWaiting_evac (s : State) : (serveWaiting s).evac = s.evac := by
  unfold serveWaiting; (repeat' split) <;> simp
@[simp] theorem serveWaiting_store (s : State) : (serveWaiting s).store = s.store := by
  unfold serveWaiting; (repeat' split) <;> simp
@[simp] theorem serveWaiting_freeCount (s : State) : (serveWaiting s).freeCount = s.freeCount := by
  unfold serveWaiting; (repeat' split) <;> simp
@[simp] theorem serveWaiting_pending (s : State) : (serveWaiting s).pending = s.pending := by
  unfold serveWaiting; (repeat' split) <;> simp
@[simp] theorem serveWaiting_pack_record (s : State) : (serveWaiting s).pack.record = s.pack.record := by
  unfold serveWaiting; (repeat' split) <;> simp
@[simp] theorem serveWaiting_pack_q (s : State) : (serveWaiting s).pack.q = s.pack.q := by
  unfold serveWaiting; (repeat' split) <;> simp
@[simp] theorem serveWaiting_pack_capacity (s : State) : (serveWaiting s).pack.capacity = s.pack.capacity := by
  unfold serveWaiting; (repeat' split) <;> simp
@[simp] theorem serveWaiting_pack_need (s : State) : (serveWaiting s).pack.need = s.pack.need := by
  unfold serveWaiting; (repeat' split) <;> simp
/-! ### enterOff -/

@[simp] theorem enterOff_ctl (s : State) : (enterOff s).ctl = s.ctl := by
  unfold enterOff; simp
@[simp] theorem enterOff_host (s : State) : (enterOff s).host = s.host := by
  unfold enterOff; simp
@[simp] theorem enterOff_gov (s : State) : (enterOff s).gov = s.gov := by
  unfold enterOff; simp
@[simp] theorem enterOff_prot (s : State) : (enterOff s).prot = s.prot := by
  unfold enterOff; simp
@[simp] theorem enterOff_debris (s : State) : (enterOff s).debris = s.debris := by
  unfold enterOff; simp
@[simp] theorem enterOff_att (s : State) : (enterOff s).att = s.att := by
  unfold enterOff; simp
@[simp] theorem enterOff_roll (s : State) : (enterOff s).roll = s.roll := by
  unfold enterOff; simp
@[simp] theorem enterOff_contact (s : State) : (enterOff s).contact = s.contact := by
  unfold enterOff; simp
@[simp] theorem enterOff_stick (s : State) : (enterOff s).stick = s.stick := by
  unfold enterOff; simp
@[simp] theorem enterOff_dock (s : State) : (enterOff s).dock = s.dock := by
  unfold enterOff; simp
@[simp] theorem enterOff_evacSet (s : State) : (enterOff s).evacSet = s.evacSet := by
  unfold enterOff; simp
@[simp] theorem enterOff_charger (s : State) : (enterOff s).charger = s.charger := by
  unfold enterOff; simp
@[simp] theorem enterOff_evac (s : State) : (enterOff s).evac = s.evac := by
  unfold enterOff; simp
@[simp] theorem enterOff_store (s : State) : (enterOff s).store = s.store := by
  unfold enterOff; simp
@[simp] theorem enterOff_freeCount (s : State) : (enterOff s).freeCount = s.freeCount := by
  unfold enterOff; simp
@[simp] theorem enterOff_pending (s : State) : (enterOff s).pending = s.pending := by
  unfold enterOff; simp
@[simp] theorem enterOff_pack_record (s : State) : (enterOff s).pack.record = s.pack.record := by
  unfold enterOff; simp
@[simp] theorem enterOff_pack_q (s : State) : (enterOff s).pack.q = s.pack.q := by
  unfold enterOff; simp
@[simp] theorem enterOff_pack_capacity (s : State) : (enterOff s).pack.capacity = s.pack.capacity := by
  unfold enterOff; simp
@[simp] theorem enterOff_pack_need (s : State) : (enterOff s).pack.need = s.pack.need := by
  unfold enterOff; simp
/-! ### enterCoast -/

@[simp] theorem enterCoast_ctl (s : State) : (enterCoast s).ctl = s.ctl := rfl
@[simp] theorem enterCoast_host (s : State) : (enterCoast s).host = s.host := rfl
@[simp] theorem enterCoast_gov (s : State) : (enterCoast s).gov = s.gov := rfl
@[simp] theorem enterCoast_pack (s : State) : (enterCoast s).pack = s.pack := rfl
@[simp] theorem enterCoast_prot (s : State) : (enterCoast s).prot = s.prot := rfl
@[simp] theorem enterCoast_debris (s : State) : (enterCoast s).debris = s.debris := rfl
@[simp] theorem enterCoast_att (s : State) : (enterCoast s).att = s.att := rfl
@[simp] theorem enterCoast_roll (s : State) : (enterCoast s).roll = s.roll := rfl
@[simp] theorem enterCoast_contact (s : State) : (enterCoast s).contact = s.contact := rfl
@[simp] theorem enterCoast_stick (s : State) : (enterCoast s).stick = s.stick := rfl
@[simp] theorem enterCoast_dock (s : State) : (enterCoast s).dock = s.dock := rfl
@[simp] theorem enterCoast_evacSet (s : State) : (enterCoast s).evacSet = s.evacSet := rfl
@[simp] theorem enterCoast_charger (s : State) : (enterCoast s).charger = s.charger := rfl
@[simp] theorem enterCoast_evac (s : State) : (enterCoast s).evac = s.evac := rfl
@[simp] theorem enterCoast_store (s : State) : (enterCoast s).store = s.store := rfl
@[simp] theorem enterCoast_freeCount (s : State) : (enterCoast s).freeCount = s.freeCount := rfl
@[simp] theorem enterCoast_pending (s : State) : (enterCoast s).pending = s.pending := rfl
/-! ### leaveRun -/

@[simp] theorem leaveRun_ctl (n : DriveState) (s : State) : (leaveRun n s).ctl = s.ctl := by
  unfold leaveRun; simp
@[simp] theorem leaveRun_host (n : DriveState) (s : State) : (leaveRun n s).host = s.host := by
  unfold leaveRun; simp
@[simp] theorem leaveRun_pack (n : DriveState) (s : State) : (leaveRun n s).pack = s.pack := by
  unfold leaveRun; simp
@[simp] theorem leaveRun_prot (n : DriveState) (s : State) : (leaveRun n s).prot = s.prot := by
  unfold leaveRun; simp
@[simp] theorem leaveRun_att (n : DriveState) (s : State) : (leaveRun n s).att = s.att := by
  unfold leaveRun; simp
@[simp] theorem leaveRun_contact (n : DriveState) (s : State) : (leaveRun n s).contact = s.contact := by
  unfold leaveRun; simp
@[simp] theorem leaveRun_stick (n : DriveState) (s : State) : (leaveRun n s).stick = s.stick := by
  unfold leaveRun; simp
@[simp] theorem leaveRun_dock (n : DriveState) (s : State) : (leaveRun n s).dock = s.dock := by
  unfold leaveRun; simp
@[simp] theorem leaveRun_evacSet (n : DriveState) (s : State) : (leaveRun n s).evacSet = s.evacSet := by
  unfold leaveRun; simp
@[simp] theorem leaveRun_charger (n : DriveState) (s : State) : (leaveRun n s).charger = s.charger := by
  unfold leaveRun; simp
@[simp] theorem leaveRun_evac (n : DriveState) (s : State) : (leaveRun n s).evac = s.evac := by
  unfold leaveRun; simp
@[simp] theorem leaveRun_store (n : DriveState) (s : State) : (leaveRun n s).store = s.store := by
  unfold leaveRun; simp
@[simp] theorem leaveRun_freeCount (n : DriveState) (s : State) : (leaveRun n s).freeCount = s.freeCount := by
  unfold leaveRun; simp
@[simp] theorem leaveRun_pending (n : DriveState) (s : State) : (leaveRun n s).pending = s.pending := by
  unfold leaveRun; simp
@[simp] theorem leaveRun_debris_b (n : DriveState) (s : State) : (leaveRun n s).debris.b = s.debris.b := by
  unfold leaveRun; simp
@[simp] theorem leaveRun_debris_binFull (n : DriveState) (s : State) : (leaveRun n s).debris.binFull = s.debris.binFull := by
  unfold leaveRun; simp
@[simp] theorem leaveRun_debris_levels (n : DriveState) (s : State) : (leaveRun n s).debris.levels = s.debris.levels := by
  unfold leaveRun; simp
/-! ### leaveIfRun -/

@[simp] theorem leaveIfRun_ctl (n : DriveState) (s : State) : (leaveIfRun n s).ctl = s.ctl := by
  unfold leaveIfRun; (repeat' split) <;> simp
@[simp] theorem leaveIfRun_host (n : DriveState) (s : State) : (leaveIfRun n s).host = s.host := by
  unfold leaveIfRun; (repeat' split) <;> simp
@[simp] theorem leaveIfRun_pack (n : DriveState) (s : State) : (leaveIfRun n s).pack = s.pack := by
  unfold leaveIfRun; (repeat' split) <;> simp
@[simp] theorem leaveIfRun_prot (n : DriveState) (s : State) : (leaveIfRun n s).prot = s.prot := by
  unfold leaveIfRun; (repeat' split) <;> simp
@[simp] theorem leaveIfRun_att (n : DriveState) (s : State) : (leaveIfRun n s).att = s.att := by
  unfold leaveIfRun; (repeat' split) <;> simp
@[simp] theorem leaveIfRun_contact (n : DriveState) (s : State) : (leaveIfRun n s).contact = s.contact := by
  unfold leaveIfRun; (repeat' split) <;> simp
@[simp] theorem leaveIfRun_stick (n : DriveState) (s : State) : (leaveIfRun n s).stick = s.stick := by
  unfold leaveIfRun; (repeat' split) <;> simp
@[simp] theorem leaveIfRun_dock (n : DriveState) (s : State) : (leaveIfRun n s).dock = s.dock := by
  unfold leaveIfRun; (repeat' split) <;> simp
@[simp] theorem leaveIfRun_evacSet (n : DriveState) (s : State) : (leaveIfRun n s).evacSet = s.evacSet := by
  unfold leaveIfRun; (repeat' split) <;> simp
@[simp] theorem leaveIfRun_charger (n : DriveState) (s : State) : (leaveIfRun n s).charger = s.charger := by
  unfold leaveIfRun; (repeat' split) <;> simp
@[simp] theorem leaveIfRun_evac (n : DriveState) (s : State) : (leaveIfRun n s).evac = s.evac := by
  unfold leaveIfRun; (repeat' split) <;> simp
@[simp] theorem leaveIfRun_store (n : DriveState) (s : State) : (leaveIfRun n s).store = s.store := by
  unfold leaveIfRun; (repeat' split) <;> simp
@[simp] theorem leaveIfRun_freeCount (n : DriveState) (s : State) : (leaveIfRun n s).freeCount = s.freeCount := by
  unfold leaveIfRun; (repeat' split) <;> simp
@[simp] theorem leaveIfRun_pending (n : DriveState) (s : State) : (leaveIfRun n s).pending = s.pending := by
  unfold leaveIfRun; (repeat' split) <;> simp
@[simp] theorem leaveIfRun_debris_b (n : DriveState) (s : State) : (leaveIfRun n s).debris.b = s.debris.b := by
  unfold leaveIfRun; (repeat' split) <;> simp
@[simp] theorem leaveIfRun_debris_binFull (n : DriveState) (s : State) : (leaveIfRun n s).debris.binFull = s.debris.binFull := by
  unfold leaveIfRun; (repeat' split) <;> simp
@[simp] theorem leaveIfRun_debris_levels (n : DriveState) (s : State) : (leaveIfRun n s).debris.levels = s.debris.levels := by
  unfold leaveIfRun; (repeat' split) <;> simp
/-! ### startSpell -/

@[simp] theorem startSpell_ctl (s : State) : (startSpell s).ctl = s.ctl := by
  unfold startSpell; (repeat' split) <;> simp
@[simp] theorem startSpell_host (s : State) : (startSpell s).host = s.host := by
  unfold startSpell; (repeat' split) <;> simp
@[simp] theorem startSpell_drive (s : State) : (startSpell s).drive = s.drive := by
  unfold startSpell; (repeat' split) <;> simp
@[simp] theorem startSpell_gov (s : State) : (startSpell s).gov = s.gov := by
  unfold startSpell; (repeat' split) <;> simp
@[simp] theorem startSpell_pack (s : State) : (startSpell s).pack = s.pack := by
  unfold startSpell; (repeat' split) <;> simp
@[simp] theorem startSpell_prot (s : State) : (startSpell s).prot = s.prot := by
  unfold startSpell; (repeat' split) <;> simp
@[simp] theorem startSpell_debris (s : State) : (startSpell s).debris = s.debris := by
  unfold startSpell; (repeat' split) <;> simp
@[simp] theorem startSpell_att (s : State) : (startSpell s).att = s.att := by
  unfold startSpell; (repeat' split) <;> simp
@[simp] theorem startSpell_roll (s : State) : (startSpell s).roll = s.roll := by
  unfold startSpell; (repeat' split) <;> simp
@[simp] theorem startSpell_contact (s : State) : (startSpell s).contact = s.contact := by
  unfold startSpell; (repeat' split) <;> simp
@[simp] theorem startSpell_stick (s : State) : (startSpell s).stick = s.stick := by
  unfold startSpell; (repeat' split) <;> simp
@[simp] theorem startSpell_dock (s : State) : (startSpell s).dock = s.dock := by
  unfold startSpell; (repeat' split) <;> simp
@[simp] theorem startSpell_evacSet (s : State) : (startSpell s).evacSet = s.evacSet := by
  unfold startSpell; (repeat' split) <;> simp
@[simp] theorem startSpell_charger (s : State) : (startSpell s).charger = s.charger := by
  unfold startSpell; (repeat' split) <;> simp
@[simp] theorem startSpell_store (s : State) : (startSpell s).store = s.store := by
  unfold startSpell; (repeat' split) <;> simp
@[simp] theorem startSpell_freeCount (s : State) : (startSpell s).freeCount = s.freeCount := by
  unfold startSpell; (repeat' split) <;> simp
@[simp] theorem startSpell_pending (s : State) : (startSpell s).pending = s.pending := by
  unfold startSpell; (repeat' split) <;> simp
/-! ### reportDirt -/

@[simp] theorem reportDirt_ctl (b s : State) : (reportDirt b s).ctl = s.ctl := by
  unfold reportDirt; (repeat' split) <;> simp
@[simp] theorem reportDirt_drive (b s : State) : (reportDirt b s).drive = s.drive := by
  unfold reportDirt; (repeat' split) <;> simp
@[simp] theorem reportDirt_gov (b s : State) : (reportDirt b s).gov = s.gov := by
  unfold reportDirt; (repeat' split) <;> simp
@[simp] theorem reportDirt_pack (b s : State) : (reportDirt b s).pack = s.pack := by
  unfold reportDirt; (repeat' split) <;> simp
@[simp] theorem reportDirt_prot (b s : State) : (reportDirt b s).prot = s.prot := by
  unfold reportDirt; (repeat' split) <;> simp
@[simp] theorem reportDirt_debris (b s : State) : (reportDirt b s).debris = s.debris := by
  unfold reportDirt; (repeat' split) <;> simp
@[simp] theorem reportDirt_att (b s : State) : (reportDirt b s).att = s.att := by
  unfold reportDirt; (repeat' split) <;> simp
@[simp] theorem reportDirt_roll (b s : State) : (reportDirt b s).roll = s.roll := by
  unfold reportDirt; (repeat' split) <;> simp
@[simp] theorem reportDirt_contact (b s : State) : (reportDirt b s).contact = s.contact := by
  unfold reportDirt; (repeat' split) <;> simp
@[simp] theorem reportDirt_stick (b s : State) : (reportDirt b s).stick = s.stick := by
  unfold reportDirt; (repeat' split) <;> simp
@[simp] theorem reportDirt_dock (b s : State) : (reportDirt b s).dock = s.dock := by
  unfold reportDirt; (repeat' split) <;> simp
@[simp] theorem reportDirt_evacSet (b s : State) : (reportDirt b s).evacSet = s.evacSet := by
  unfold reportDirt; (repeat' split) <;> simp
@[simp] theorem reportDirt_charger (b s : State) : (reportDirt b s).charger = s.charger := by
  unfold reportDirt; (repeat' split) <;> simp
@[simp] theorem reportDirt_evac (b s : State) : (reportDirt b s).evac = s.evac := by
  unfold reportDirt; (repeat' split) <;> simp
@[simp] theorem reportDirt_store (b s : State) : (reportDirt b s).store = s.store := by
  unfold reportDirt; (repeat' split) <;> simp
@[simp] theorem reportDirt_freeCount (b s : State) : (reportDirt b s).freeCount = s.freeCount := by
  unfold reportDirt; (repeat' split) <;> simp
@[simp] theorem reportDirt_pending (b s : State) : (reportDirt b s).pending = s.pending := by
  unfold reportDirt; (repeat' split) <;> simp
@[simp] theorem reportDirt_host_rxq (b s : State) : (reportDirt b s).host.rxq = s.host.rxq := by
  unfold reportDirt; (repeat' split) <;> simp
@[simp] theorem reportDirt_host_replies (b s : State) : (reportDirt b s).host.replies = s.host.replies := by
  unfold reportDirt; (repeat' split) <;> simp
@[simp] theorem reportDirt_host_errors (b s : State) : (reportDirt b s).host.errors = s.host.errors := by
  unfold reportDirt; (repeat' split) <;> simp
@[simp] theorem reportDirt_host_supPeriod (b s : State) : (reportDirt b s).host.supPeriod = s.host.supPeriod := by
  unfold reportDirt; (repeat' split) <;> simp
@[simp] theorem reportDirt_host_tx (b s : State) : (reportDirt b s).host.tx = s.host.tx := by
  unfold reportDirt; (repeat' split) <;> simp
/-! ### reportDock -/

@[simp] theorem reportDock_ctl (c : DockCause) (b s : State) : (reportDock c b s).ctl = s.ctl := by
  unfold reportDock; (repeat' split) <;> simp
@[simp] theorem reportDock_drive (c : DockCause) (b s : State) : (reportDock c b s).drive = s.drive := by
  unfold reportDock; (repeat' split) <;> simp
@[simp] theorem reportDock_gov (c : DockCause) (b s : State) : (reportDock c b s).gov = s.gov := by
  unfold reportDock; (repeat' split) <;> simp
@[simp] theorem reportDock_pack (c : DockCause) (b s : State) : (reportDock c b s).pack = s.pack := by
  unfold reportDock; (repeat' split) <;> simp
@[simp] theorem reportDock_prot (c : DockCause) (b s : State) : (reportDock c b s).prot = s.prot := by
  unfold reportDock; (repeat' split) <;> simp
@[simp] theorem reportDock_debris (c : DockCause) (b s : State) : (reportDock c b s).debris = s.debris := by
  unfold reportDock; (repeat' split) <;> simp
@[simp] theorem reportDock_att (c : DockCause) (b s : State) : (reportDock c b s).att = s.att := by
  unfold reportDock; (repeat' split) <;> simp
@[simp] theorem reportDock_roll (c : DockCause) (b s : State) : (reportDock c b s).roll = s.roll := by
  unfold reportDock; (repeat' split) <;> simp
@[simp] theorem reportDock_contact (c : DockCause) (b s : State) : (reportDock c b s).contact = s.contact := by
  unfold reportDock; (repeat' split) <;> simp
@[simp] theorem reportDock_stick (c : DockCause) (b s : State) : (reportDock c b s).stick = s.stick := by
  unfold reportDock; (repeat' split) <;> simp
@[simp] theorem reportDock_dock (c : DockCause) (b s : State) : (reportDock c b s).dock = s.dock := by
  unfold reportDock; (repeat' split) <;> simp
@[simp] theorem reportDock_evacSet (c : DockCause) (b s : State) : (reportDock c b s).evacSet = s.evacSet := by
  unfold reportDock; (repeat' split) <;> simp
@[simp] theorem reportDock_charger (c : DockCause) (b s : State) : (reportDock c b s).charger = s.charger := by
  unfold reportDock; (repeat' split) <;> simp
@[simp] theorem reportDock_evac (c : DockCause) (b s : State) : (reportDock c b s).evac = s.evac := by
  unfold reportDock; (repeat' split) <;> simp
@[simp] theorem reportDock_store (c : DockCause) (b s : State) : (reportDock c b s).store = s.store := by
  unfold reportDock; (repeat' split) <;> simp
@[simp] theorem reportDock_freeCount (c : DockCause) (b s : State) : (reportDock c b s).freeCount = s.freeCount := by
  unfold reportDock; (repeat' split) <;> simp
@[simp] theorem reportDock_pending (c : DockCause) (b s : State) : (reportDock c b s).pending = s.pending := by
  unfold reportDock; (repeat' split) <;> simp
@[simp] theorem reportDock_host_rxq (c : DockCause) (b s : State) : (reportDock c b s).host.rxq = s.host.rxq := by
  unfold reportDock; (repeat' split) <;> simp
@[simp] theorem reportDock_host_replies (c : DockCause) (b s : State) : (reportDock c b s).host.replies = s.host.replies := by
  unfold reportDock; (repeat' split) <;> simp
@[simp] theorem reportDock_host_errors (c : DockCause) (b s : State) : (reportDock c b s).host.errors = s.host.errors := by
  unfold reportDock; (repeat' split) <;> simp
@[simp] theorem reportDock_host_supPeriod (c : DockCause) (b s : State) : (reportDock c b s).host.supPeriod = s.host.supPeriod := by
  unfold reportDock; (repeat' split) <;> simp
@[simp] theorem reportDock_host_tx (c : DockCause) (b s : State) : (reportDock c b s).host.tx = s.host.tx := by
  unfold reportDock; (repeat' split) <;> simp
/-! ### reportMove -/

@[simp] theorem reportMove_ctl (c : DriveCause) (b s : State) : (reportMove c b s).ctl = s.ctl := by
  unfold reportMove; (repeat' split) <;> simp
@[simp] theorem reportMove_drive (c : DriveCause) (b s : State) : (reportMove c b s).drive = s.drive := by
  unfold reportMove; (repeat' split) <;> simp
@[simp] theorem reportMove_gov (c : DriveCause) (b s : State) : (reportMove c b s).gov = s.gov := by
  unfold reportMove; (repeat' split) <;> simp
@[simp] theorem reportMove_pack (c : DriveCause) (b s : State) : (reportMove c b s).pack = s.pack := by
  unfold reportMove; (repeat' split) <;> simp
@[simp] theorem reportMove_prot (c : DriveCause) (b s : State) : (reportMove c b s).prot = s.prot := by
  unfold reportMove; (repeat' split) <;> simp
@[simp] theorem reportMove_debris (c : DriveCause) (b s : State) : (reportMove c b s).debris = s.debris := by
  unfold reportMove; (repeat' split) <;> simp
@[simp] theorem reportMove_att (c : DriveCause) (b s : State) : (reportMove c b s).att = s.att := by
  unfold reportMove; (repeat' split) <;> simp
@[simp] theorem reportMove_roll (c : DriveCause) (b s : State) : (reportMove c b s).roll = s.roll := by
  unfold reportMove; (repeat' split) <;> simp
@[simp] theorem reportMove_contact (c : DriveCause) (b s : State) : (reportMove c b s).contact = s.contact := by
  unfold reportMove; (repeat' split) <;> simp
@[simp] theorem reportMove_stick (c : DriveCause) (b s : State) : (reportMove c b s).stick = s.stick := by
  unfold reportMove; (repeat' split) <;> simp
@[simp] theorem reportMove_dock (c : DriveCause) (b s : State) : (reportMove c b s).dock = s.dock := by
  unfold reportMove; (repeat' split) <;> simp
@[simp] theorem reportMove_evacSet (c : DriveCause) (b s : State) : (reportMove c b s).evacSet = s.evacSet := by
  unfold reportMove; (repeat' split) <;> simp
@[simp] theorem reportMove_charger (c : DriveCause) (b s : State) : (reportMove c b s).charger = s.charger := by
  unfold reportMove; (repeat' split) <;> simp
@[simp] theorem reportMove_evac (c : DriveCause) (b s : State) : (reportMove c b s).evac = s.evac := by
  unfold reportMove; (repeat' split) <;> simp
@[simp] theorem reportMove_store (c : DriveCause) (b s : State) : (reportMove c b s).store = s.store := by
  unfold reportMove; (repeat' split) <;> simp
@[simp] theorem reportMove_freeCount (c : DriveCause) (b s : State) : (reportMove c b s).freeCount = s.freeCount := by
  unfold reportMove; (repeat' split) <;> simp
@[simp] theorem reportMove_pending (c : DriveCause) (b s : State) : (reportMove c b s).pending = s.pending := by
  unfold reportMove; (repeat' split) <;> simp
@[simp] theorem reportMove_host_rxq (c : DriveCause) (b s : State) : (reportMove c b s).host.rxq = s.host.rxq := by
  unfold reportMove; (repeat' split) <;> simp
@[simp] theorem reportMove_host_replies (c : DriveCause) (b s : State) : (reportMove c b s).host.replies = s.host.replies := by
  unfold reportMove; (repeat' split) <;> simp
@[simp] theorem reportMove_host_errors (c : DriveCause) (b s : State) : (reportMove c b s).host.errors = s.host.errors := by
  unfold reportMove; (repeat' split) <;> simp
@[simp] theorem reportMove_host_supPeriod (c : DriveCause) (b s : State) : (reportMove c b s).host.supPeriod = s.host.supPeriod := by
  unfold reportMove; (repeat' split) <;> simp
@[simp] theorem reportMove_host_tx (c : DriveCause) (b s : State) : (reportMove c b s).host.tx = s.host.tx := by
  unfold reportMove; (repeat' split) <;> simp
/-! ### reportStart -/

@[simp] theorem reportStart_ctl (b s : State) : (reportStart b s).ctl = s.ctl := by
  unfold reportStart; (repeat' split) <;> simp
@[simp] theorem reportStart_drive (b s : State) : (reportStart b s).drive = s.drive := by
  unfold reportStart; (repeat' split) <;> simp
@[simp] theorem reportStart_gov (b s : State) : (reportStart b s).gov = s.gov := by
  unfold reportStart; (repeat' split) <;> simp
@[simp] theorem reportStart_pack (b s : State) : (reportStart b s).pack = s.pack := by
  unfold reportStart; (repeat' split) <;> simp
@[simp] theorem reportStart_prot (b s : State) : (reportStart b s).prot = s.prot := by
  unfold reportStart; (repeat' split) <;> simp
@[simp] theorem reportStart_debris (b s : State) : (reportStart b s).debris = s.debris := by
  unfold reportStart; (repeat' split) <;> simp
@[simp] theorem reportStart_att (b s : State) : (reportStart b s).att = s.att := by
  unfold reportStart; (repeat' split) <;> simp
@[simp] theorem reportStart_roll (b s : State) : (reportStart b s).roll = s.roll := by
  unfold reportStart; (repeat' split) <;> simp
@[simp] theorem reportStart_contact (b s : State) : (reportStart b s).contact = s.contact := by
  unfold reportStart; (repeat' split) <;> simp
@[simp] theorem reportStart_stick (b s : State) : (reportStart b s).stick = s.stick := by
  unfold reportStart; (repeat' split) <;> simp
@[simp] theorem reportStart_dock (b s : State) : (reportStart b s).dock = s.dock := by
  unfold reportStart; (repeat' split) <;> simp
@[simp] theorem reportStart_evacSet (b s : State) : (reportStart b s).evacSet = s.evacSet := by
  unfold reportStart; (repeat' split) <;> simp
@[simp] theorem reportStart_charger (b s : State) : (reportStart b s).charger = s.charger := by
  unfold reportStart; (repeat' split) <;> simp
@[simp] theorem reportStart_evac (b s : State) : (reportStart b s).evac = s.evac := by
  unfold reportStart; (repeat' split) <;> simp
@[simp] theorem reportStart_store (b s : State) : (reportStart b s).store = s.store := by
  unfold reportStart; (repeat' split) <;> simp
@[simp] theorem reportStart_freeCount (b s : State) : (reportStart b s).freeCount = s.freeCount := by
  unfold reportStart; (repeat' split) <;> simp
@[simp] theorem reportStart_pending (b s : State) : (reportStart b s).pending = s.pending := by
  unfold reportStart; (repeat' split) <;> simp
@[simp] theorem reportStart_host_rxq (b s : State) : (reportStart b s).host.rxq = s.host.rxq := by
  unfold reportStart; (repeat' split) <;> simp
@[simp] theorem reportStart_host_replies (b s : State) : (reportStart b s).host.replies = s.host.replies := by
  unfold reportStart; (repeat' split) <;> simp
@[simp] theorem reportStart_host_errors (b s : State) : (reportStart b s).host.errors = s.host.errors := by
  unfold reportStart; (repeat' split) <;> simp
@[simp] theorem reportStart_host_supPeriod (b s : State) : (reportStart b s).host.supPeriod = s.host.supPeriod := by
  unfold reportStart; (repeat' split) <;> simp
@[simp] theorem reportStart_host_tx (b s : State) : (reportStart b s).host.tx = s.host.tx := by
  unfold reportStart; (repeat' split) <;> simp
/-! ### runBegins -/

@[simp] theorem runBegins_ctl (s : State) : (runBegins s).ctl = s.ctl := by
  unfold runBegins; (repeat' split) <;> simp
@[simp] theorem runBegins_drive (s : State) : (runBegins s).drive = s.drive := by
  unfold runBegins; (repeat' split) <;> simp
@[simp] theorem runBegins_gov (s : State) : (runBegins s).gov = s.gov := by
  unfold runBegins; (repeat' split) <;> simp
@[simp] theorem runBegins_pack (s : State) : (runBegins s).pack = s.pack := by
  unfold runBegins; (repeat' split) <;> simp
@[simp] theorem runBegins_prot (s : State) : (runBegins s).prot = s.prot := by
  unfold runBegins; (repeat' split) <;> simp
@[simp] theorem runBegins_att (s : State) : (runBegins s).att = s.att := by
  unfold runBegins; (repeat' split) <;> simp
@[simp] theorem runBegins_roll (s : State) : (runBegins s).roll = s.roll := by
  unfold runBegins; (repeat' split) <;> simp
@[simp] theorem runBegins_contact (s : State) : (runBegins s).contact = s.contact := by
  unfold runBegins; (repeat' split) <;> simp
@[simp] theorem runBegins_stick (s : State) : (runBegins s).stick = s.stick := by
  unfold runBegins; (repeat' split) <;> simp
@[simp] theorem runBegins_dock (s : State) : (runBegins s).dock = s.dock := by
  unfold runBegins; (repeat' split) <;> simp
@[simp] theorem runBegins_evacSet (s : State) : (runBegins s).evacSet = s.evacSet := by
  unfold runBegins; (repeat' split) <;> simp
@[simp] theorem runBegins_charger (s : State) : (runBegins s).charger = s.charger := by
  unfold runBegins; (repeat' split) <;> simp
@[simp] theorem runBegins_store (s : State) : (runBegins s).store = s.store := by
  unfold runBegins; (repeat' split) <;> simp
@[simp] theorem runBegins_freeCount (s : State) : (runBegins s).freeCount = s.freeCount := by
  unfold runBegins; (repeat' split) <;> simp
@[simp] theorem runBegins_pending (s : State) : (runBegins s).pending = s.pending := by
  unfold runBegins; (repeat' split) <;> simp
@[simp] theorem runBegins_host_rxq (s : State) : (runBegins s).host.rxq = s.host.rxq := by
  unfold runBegins; (repeat' split) <;> simp
@[simp] theorem runBegins_host_replies (s : State) : (runBegins s).host.replies = s.host.replies := by
  unfold runBegins; (repeat' split) <;> simp
@[simp] theorem runBegins_host_errors (s : State) : (runBegins s).host.errors = s.host.errors := by
  unfold runBegins; (repeat' split) <;> simp
@[simp] theorem runBegins_host_supPeriod (s : State) : (runBegins s).host.supPeriod = s.host.supPeriod := by
  unfold runBegins; (repeat' split) <;> simp
@[simp] theorem runBegins_host_tx (s : State) : (runBegins s).host.tx = s.host.tx := by
  unfold runBegins; (repeat' split) <;> simp
/-! ### enterRun -/

@[simp] theorem enterRun_ctl (d : Nat) (s : State) : (enterRun d s).ctl = s.ctl := by
  unfold enterRun; simp
@[simp] theorem enterRun_prot (d : Nat) (s : State) : (enterRun d s).prot = s.prot := by
  unfold enterRun; simp
@[simp] theorem enterRun_att (d : Nat) (s : State) : (enterRun d s).att = s.att := by
  unfold enterRun; simp
@[simp] theorem enterRun_roll (d : Nat) (s : State) : (enterRun d s).roll = s.roll := by
  unfold enterRun; simp
@[simp] theorem enterRun_contact (d : Nat) (s : State) : (enterRun d s).contact = s.contact := by
  unfold enterRun; simp
@[simp] theorem enterRun_stick (d : Nat) (s : State) : (enterRun d s).stick = s.stick := by
  unfold enterRun; simp
@[simp] theorem enterRun_dock (d : Nat) (s : State) : (enterRun d s).dock = s.dock := by
  unfold enterRun; simp
@[simp] theorem enterRun_evacSet (d : Nat) (s : State) : (enterRun d s).evacSet = s.evacSet := by
  unfold enterRun; simp
@[simp] theorem enterRun_charger (d : Nat) (s : State) : (enterRun d s).charger = s.charger := by
  unfold enterRun; simp
@[simp] theorem enterRun_store (d : Nat) (s : State) : (enterRun d s).store = s.store := by
  unfold enterRun; simp
@[simp] theorem enterRun_freeCount (d : Nat) (s : State) : (enterRun d s).freeCount = s.freeCount := by
  unfold enterRun; simp
@[simp] theorem enterRun_pending (d : Nat) (s : State) : (enterRun d s).pending = s.pending := by
  unfold enterRun; simp
@[simp] theorem enterRun_host_rxq (d : Nat) (s : State) : (enterRun d s).host.rxq = s.host.rxq := by
  unfold enterRun; simp
@[simp] theorem enterRun_host_replies (d : Nat) (s : State) : (enterRun d s).host.replies = s.host.replies := by
  unfold enterRun; simp
@[simp] theorem enterRun_host_errors (d : Nat) (s : State) : (enterRun d s).host.errors = s.host.errors := by
  unfold enterRun; simp
@[simp] theorem enterRun_host_supPeriod (d : Nat) (s : State) : (enterRun d s).host.supPeriod = s.host.supPeriod := by
  unfold enterRun; simp
@[simp] theorem enterRun_host_tx (d : Nat) (s : State) : (enterRun d s).host.tx = s.host.tx := by
  unfold enterRun; simp
@[simp] theorem enterRun_pack_record (d : Nat) (s : State) : (enterRun d s).pack.record = s.pack.record := by
  unfold enterRun; simp
@[simp] theorem enterRun_pack_q (d : Nat) (s : State) : (enterRun d s).pack.q = s.pack.q := by
  unfold enterRun; simp
@[simp] theorem enterRun_pack_capacity (d : Nat) (s : State) : (enterRun d s).pack.capacity = s.pack.capacity := by
  unfold enterRun; simp
@[simp] theorem enterRun_pack_need (d : Nat) (s : State) : (enterRun d s).pack.need = s.pack.need := by
  unfold enterRun; simp
/-! ### beginCatch -/

@[simp] theorem beginCatch_ctl (s : State) : (beginCatch s).ctl = s.ctl := rfl
@[simp] theorem beginCatch_host (s : State) : (beginCatch s).host = s.host := rfl
@[simp] theorem beginCatch_gov (s : State) : (beginCatch s).gov = s.gov := rfl
@[simp] theorem beginCatch_pack (s : State) : (beginCatch s).pack = s.pack := rfl
@[simp] theorem beginCatch_prot (s : State) : (beginCatch s).prot = s.prot := rfl
@[simp] theorem beginCatch_debris (s : State) : (beginCatch s).debris = s.debris := rfl
@[simp] theorem beginCatch_att (s : State) : (beginCatch s).att = s.att := rfl
@[simp] theorem beginCatch_roll (s : State) : (beginCatch s).roll = s.roll := rfl
@[simp] theorem beginCatch_contact (s : State) : (beginCatch s).contact = s.contact := rfl
@[simp] theorem beginCatch_stick (s : State) : (beginCatch s).stick = s.stick := rfl
@[simp] theorem beginCatch_dock (s : State) : (beginCatch s).dock = s.dock := rfl
@[simp] theorem beginCatch_evacSet (s : State) : (beginCatch s).evacSet = s.evacSet := rfl
@[simp] theorem beginCatch_charger (s : State) : (beginCatch s).charger = s.charger := rfl
@[simp] theorem beginCatch_evac (s : State) : (beginCatch s).evac = s.evac := rfl
@[simp] theorem beginCatch_store (s : State) : (beginCatch s).store = s.store := rfl
@[simp] theorem beginCatch_freeCount (s : State) : (beginCatch s).freeCount = s.freeCount := rfl
@[simp] theorem beginCatch_pending (s : State) : (beginCatch s).pending = s.pending := rfl
/-! ### startInCoast -/

@[simp] theorem startInCoast_ctl (s : State) : (startInCoast s).ctl = s.ctl := by
  unfold startInCoast; (repeat' split) <;> simp
@[simp] theorem startInCoast_host (s : State) : (startInCoast s).host = s.host := by
  unfold startInCoast; (repeat' split) <;> simp
@[simp] theorem startInCoast_gov (s : State) : (startInCoast s).gov = s.gov := by
  unfold startInCoast; (repeat' split) <;> simp
@[simp] theorem startInCoast_pack (s : State) : (startInCoast s).pack = s.pack := by
  unfold startInCoast; (repeat' split) <;> simp
@[simp] theorem startInCoast_prot (s : State) : (startInCoast s).prot = s.prot := by
  unfold startInCoast; (repeat' split) <;> simp
@[simp] theorem startInCoast_debris (s : State) : (startInCoast s).debris = s.debris := by
  unfold startInCoast; (repeat' split) <;> simp
@[simp] theorem startInCoast_att (s : State) : (startInCoast s).att = s.att := by
  unfold startInCoast; (repeat' split) <;> simp
@[simp] theorem startInCoast_roll (s : State) : (startInCoast s).roll = s.roll := by
  unfold startInCoast; (repeat' split) <;> simp
@[simp] theorem startInCoast_contact (s : State) : (startInCoast s).contact = s.contact := by
  unfold startInCoast; (repeat' split) <;> simp
@[simp] theorem startInCoast_stick (s : State) : (startInCoast s).stick = s.stick := by
  unfold startInCoast; (repeat' split) <;> simp
@[simp] theorem startInCoast_dock (s : State) : (startInCoast s).dock = s.dock := by
  unfold startInCoast; (repeat' split) <;> simp
@[simp] theorem startInCoast_evacSet (s : State) : (startInCoast s).evacSet = s.evacSet := by
  unfold startInCoast; (repeat' split) <;> simp
@[simp] theorem startInCoast_charger (s : State) : (startInCoast s).charger = s.charger := by
  unfold startInCoast; (repeat' split) <;> simp
@[simp] theorem startInCoast_evac (s : State) : (startInCoast s).evac = s.evac := by
  unfold startInCoast; (repeat' split) <;> simp
@[simp] theorem startInCoast_store (s : State) : (startInCoast s).store = s.store := by
  unfold startInCoast; (repeat' split) <;> simp
@[simp] theorem startInCoast_freeCount (s : State) : (startInCoast s).freeCount = s.freeCount := by
  unfold startInCoast; (repeat' split) <;> simp
@[simp] theorem startInCoast_pending (s : State) : (startInCoast s).pending = s.pending := by
  unfold startInCoast; (repeat' split) <;> simp
/-! ### startInOff -/

@[simp] theorem startInOff_ctl (s : State) : (startInOff s).ctl = s.ctl := by
  unfold startInOff; (repeat' split) <;> simp
@[simp] theorem startInOff_host (s : State) : (startInOff s).host = s.host := by
  unfold startInOff; (repeat' split) <;> simp
@[simp] theorem startInOff_gov (s : State) : (startInOff s).gov = s.gov := by
  unfold startInOff; (repeat' split) <;> simp
@[simp] theorem startInOff_prot (s : State) : (startInOff s).prot = s.prot := by
  unfold startInOff; (repeat' split) <;> simp
@[simp] theorem startInOff_debris (s : State) : (startInOff s).debris = s.debris := by
  unfold startInOff; (repeat' split) <;> simp
@[simp] theorem startInOff_att (s : State) : (startInOff s).att = s.att := by
  unfold startInOff; (repeat' split) <;> simp
@[simp] theorem startInOff_roll (s : State) : (startInOff s).roll = s.roll := by
  unfold startInOff; (repeat' split) <;> simp
@[simp] theorem startInOff_contact (s : State) : (startInOff s).contact = s.contact := by
  unfold startInOff; (repeat' split) <;> simp
@[simp] theorem startInOff_stick (s : State) : (startInOff s).stick = s.stick := by
  unfold startInOff; (repeat' split) <;> simp
@[simp] theorem startInOff_dock (s : State) : (startInOff s).dock = s.dock := by
  unfold startInOff; (repeat' split) <;> simp
@[simp] theorem startInOff_evacSet (s : State) : (startInOff s).evacSet = s.evacSet := by
  unfold startInOff; (repeat' split) <;> simp
@[simp] theorem startInOff_charger (s : State) : (startInOff s).charger = s.charger := by
  unfold startInOff; (repeat' split) <;> simp
@[simp] theorem startInOff_evac (s : State) : (startInOff s).evac = s.evac := by
  unfold startInOff; (repeat' split) <;> simp
@[simp] theorem startInOff_store (s : State) : (startInOff s).store = s.store := by
  unfold startInOff; (repeat' split) <;> simp
@[simp] theorem startInOff_freeCount (s : State) : (startInOff s).freeCount = s.freeCount := by
  unfold startInOff; (repeat' split) <;> simp
@[simp] theorem startInOff_pending (s : State) : (startInOff s).pending = s.pending := by
  unfold startInOff; (repeat' split) <;> simp
@[simp] theorem startInOff_pack_record (s : State) : (startInOff s).pack.record = s.pack.record := by
  unfold startInOff; (repeat' split) <;> simp
@[simp] theorem startInOff_pack_q (s : State) : (startInOff s).pack.q = s.pack.q := by
  unfold startInOff; (repeat' split) <;> simp
@[simp] theorem startInOff_pack_capacity (s : State) : (startInOff s).pack.capacity = s.pack.capacity := by
  unfold startInOff; (repeat' split) <;> simp
@[simp] theorem startInOff_pack_need (s : State) : (startInOff s).pack.need = s.pack.need := by
  unfold startInOff; (repeat' split) <;> simp
/-! ### releaseFault -/

@[simp] theorem releaseFault_ctl (s : State) : (releaseFault s).ctl = s.ctl := by
  unfold releaseFault; (repeat' split) <;> simp
@[simp] theorem releaseFault_host (s : State) : (releaseFault s).host = s.host := by
  unfold releaseFault; (repeat' split) <;> simp
@[simp] theorem releaseFault_gov (s : State) : (releaseFault s).gov = s.gov := by
  unfold releaseFault; (repeat' split) <;> simp
@[simp] theorem releaseFault_prot (s : State) : (releaseFault s).prot = s.prot := by
  unfold releaseFault; (repeat' split) <;> simp
@[simp] theorem releaseFault_debris (s : State) : (releaseFault s).debris = s.debris := by
  unfold releaseFault; (repeat' split) <;> simp
@[simp] theorem releaseFault_att (s : State) : (releaseFault s).att = s.att := by
  unfold releaseFault; (repeat' split) <;> simp
@[simp] theorem releaseFault_roll (s : State) : (releaseFault s).roll = s.roll := by
  unfold releaseFault; (repeat' split) <;> simp
@[simp] theorem releaseFault_contact (s : State) : (releaseFault s).contact = s.contact := by
  unfold releaseFault; (repeat' split) <;> simp
@[simp] theorem releaseFault_stick (s : State) : (releaseFault s).stick = s.stick := by
  unfold releaseFault; (repeat' split) <;> simp
@[simp] theorem releaseFault_dock (s : State) : (releaseFault s).dock = s.dock := by
  unfold releaseFault; (repeat' split) <;> simp
@[simp] theorem releaseFault_evacSet (s : State) : (releaseFault s).evacSet = s.evacSet := by
  unfold releaseFault; (repeat' split) <;> simp
@[simp] theorem releaseFault_charger (s : State) : (releaseFault s).charger = s.charger := by
  unfold releaseFault; (repeat' split) <;> simp
@[simp] theorem releaseFault_evac (s : State) : (releaseFault s).evac = s.evac := by
  unfold releaseFault; (repeat' split) <;> simp
@[simp] theorem releaseFault_store (s : State) : (releaseFault s).store = s.store := by
  unfold releaseFault; (repeat' split) <;> simp
@[simp] theorem releaseFault_freeCount (s : State) : (releaseFault s).freeCount = s.freeCount := by
  unfold releaseFault; (repeat' split) <;> simp
@[simp] theorem releaseFault_pending (s : State) : (releaseFault s).pending = s.pending := by
  unfold releaseFault; (repeat' split) <;> simp
@[simp] theorem releaseFault_pack_record (s : State) : (releaseFault s).pack.record = s.pack.record := by
  unfold releaseFault; (repeat' split) <;> simp
@[simp] theorem releaseFault_pack_q (s : State) : (releaseFault s).pack.q = s.pack.q := by
  unfold releaseFault; (repeat' split) <;> simp
@[simp] theorem releaseFault_pack_capacity (s : State) : (releaseFault s).pack.capacity = s.pack.capacity := by
  unfold releaseFault; (repeat' split) <;> simp
@[simp] theorem releaseFault_pack_need (s : State) : (releaseFault s).pack.need = s.pack.need := by
  unfold releaseFault; (repeat' split) <;> simp
/-! ### stopDriving -/

@[simp] theorem stopDriving_ctl (s : State) : (stopDriving s).ctl = s.ctl := by
  unfold stopDriving; simp
@[simp] theorem stopDriving_host (s : State) : (stopDriving s).host = s.host := by
  unfold stopDriving; simp
@[simp] theorem stopDriving_pack (s : State) : (stopDriving s).pack = s.pack := by
  unfold stopDriving; simp
@[simp] theorem stopDriving_prot (s : State) : (stopDriving s).prot = s.prot := by
  unfold stopDriving; simp
@[simp] theorem stopDriving_att (s : State) : (stopDriving s).att = s.att := by
  unfold stopDriving; simp
@[simp] theorem stopDriving_contact (s : State) : (stopDriving s).contact = s.contact := by
  unfold stopDriving; simp
@[simp] theorem stopDriving_stick (s : State) : (stopDriving s).stick = s.stick := by
  unfold stopDriving; simp
@[simp] theorem stopDriving_dock (s : State) : (stopDriving s).dock = s.dock := by
  unfold stopDriving; simp
@[simp] theorem stopDriving_evacSet (s : State) : (stopDriving s).evacSet = s.evacSet := by
  unfold stopDriving; simp
@[simp] theorem stopDriving_charger (s : State) : (stopDriving s).charger = s.charger := by
  unfold stopDriving; simp
@[simp] theorem stopDriving_evac (s : State) : (stopDriving s).evac = s.evac := by
  unfold stopDriving; simp
@[simp] theorem stopDriving_store (s : State) : (stopDriving s).store = s.store := by
  unfold stopDriving; simp
@[simp] theorem stopDriving_freeCount (s : State) : (stopDriving s).freeCount = s.freeCount := by
  unfold stopDriving; simp
@[simp] theorem stopDriving_pending (s : State) : (stopDriving s).pending = s.pending := by
  unfold stopDriving; simp
@[simp] theorem stopDriving_debris_b (s : State) : (stopDriving s).debris.b = s.debris.b := by
  unfold stopDriving; simp
@[simp] theorem stopDriving_debris_binFull (s : State) : (stopDriving s).debris.binFull = s.debris.binFull := by
  unfold stopDriving; simp
@[simp] theorem stopDriving_debris_levels (s : State) : (stopDriving s).debris.levels = s.debris.levels := by
  unfold stopDriving; simp
/-! ### driveStop -/

@[simp] theorem driveStop_ctl (s : State) : (driveStop s).ctl = s.ctl := by
  unfold driveStop; (repeat' split) <;> simp
@[simp] theorem driveStop_host (s : State) : (driveStop s).host = s.host := by
  unfold driveStop; (repeat' split) <;> simp
@[simp] theorem driveStop_prot (s : State) : (driveStop s).prot = s.prot := by
  unfold driveStop; (repeat' split) <;> simp
@[simp] theorem driveStop_att (s : State) : (driveStop s).att = s.att := by
  unfold driveStop; (repeat' split) <;> simp
@[simp] theorem driveStop_contact (s : State) : (driveStop s).contact = s.contact := by
  unfold driveStop; (repeat' split) <;> simp
@[simp] theorem driveStop_stick (s : State) : (driveStop s).stick = s.stick := by
  unfold driveStop; (repeat' split) <;> simp
@[simp] theorem driveStop_dock (s : State) : (driveStop s).dock = s.dock := by
  unfold driveStop; (repeat' split) <;> simp
@[simp] theorem driveStop_evacSet (s : State) : (driveStop s).evacSet = s.evacSet := by
  unfold driveStop; (repeat' split) <;> simp
@[simp] theorem driveStop_charger (s : State) : (driveStop s).charger = s.charger := by
  unfold driveStop; (repeat' split) <;> simp
@[simp] theorem driveStop_evac (s : State) : (driveStop s).evac = s.evac := by
  unfold driveStop; (repeat' split) <;> simp
@[simp] theorem driveStop_store (s : State) : (driveStop s).store = s.store := by
  unfold driveStop; (repeat' split) <;> simp
@[simp] theorem driveStop_freeCount (s : State) : (driveStop s).freeCount = s.freeCount := by
  unfold driveStop; (repeat' split) <;> simp
@[simp] theorem driveStop_pending (s : State) : (driveStop s).pending = s.pending := by
  unfold driveStop; (repeat' split) <;> simp
@[simp] theorem driveStop_pack_record (s : State) : (driveStop s).pack.record = s.pack.record := by
  unfold driveStop; (repeat' split) <;> simp
@[simp] theorem driveStop_pack_q (s : State) : (driveStop s).pack.q = s.pack.q := by
  unfold driveStop; (repeat' split) <;> simp
@[simp] theorem driveStop_pack_capacity (s : State) : (driveStop s).pack.capacity = s.pack.capacity := by
  unfold driveStop; (repeat' split) <;> simp
@[simp] theorem driveStop_pack_need (s : State) : (driveStop s).pack.need = s.pack.need := by
  unfold driveStop; (repeat' split) <;> simp
@[simp] theorem driveStop_debris_b (s : State) : (driveStop s).debris.b = s.debris.b := by
  unfold driveStop; (repeat' split) <;> simp
@[simp] theorem driveStop_debris_binFull (s : State) : (driveStop s).debris.binFull = s.debris.binFull := by
  unfold driveStop; (repeat' split) <;> simp
@[simp] theorem driveStop_debris_levels (s : State) : (driveStop s).debris.levels = s.debris.levels := by
  unfold driveStop; (repeat' split) <;> simp
/-! ### endCalibration -/

@[simp] theorem endCalibration_ctl (r : DoneResult) (s : State) : (endCalibration r s).ctl = s.ctl := by
  unfold endCalibration; (repeat' split) <;> simp
@[simp] theorem endCalibration_drive (r : DoneResult) (s : State) : (endCalibration r s).drive = s.drive := by
  unfold endCalibration; (repeat' split) <;> simp
@[simp] theorem endCalibration_pack (r : DoneResult) (s : State) : (endCalibration r s).pack = s.pack := by
  unfold endCalibration; (repeat' split) <;> simp
@[simp] theorem endCalibration_prot (r : DoneResult) (s : State) : (endCalibration r s).prot = s.prot := by
  unfold endCalibration; (repeat' split) <;> simp
@[simp] theorem endCalibration_att (r : DoneResult) (s : State) : (endCalibration r s).att = s.att := by
  unfold endCalibration; (repeat' split) <;> simp
@[simp] theorem endCalibration_roll (r : DoneResult) (s : State) : (endCalibration r s).roll = s.roll := by
  unfold endCalibration; (repeat' split) <;> simp
@[simp] theorem endCalibration_contact (r : DoneResult) (s : State) : (endCalibration r s).contact = s.contact := by
  unfold endCalibration; (repeat' split) <;> simp
@[simp] theorem endCalibration_stick (r : DoneResult) (s : State) : (endCalibration r s).stick = s.stick := by
  unfold endCalibration; (repeat' split) <;> simp
@[simp] theorem endCalibration_dock (r : DoneResult) (s : State) : (endCalibration r s).dock = s.dock := by
  unfold endCalibration; (repeat' split) <;> simp
@[simp] theorem endCalibration_evacSet (r : DoneResult) (s : State) : (endCalibration r s).evacSet = s.evacSet := by
  unfold endCalibration; (repeat' split) <;> simp
@[simp] theorem endCalibration_charger (r : DoneResult) (s : State) : (endCalibration r s).charger = s.charger := by
  unfold endCalibration; (repeat' split) <;> simp
@[simp] theorem endCalibration_evac (r : DoneResult) (s : State) : (endCalibration r s).evac = s.evac := by
  unfold endCalibration; (repeat' split) <;> simp
@[simp] theorem endCalibration_store (r : DoneResult) (s : State) : (endCalibration r s).store = s.store := by
  unfold endCalibration; (repeat' split) <;> simp
@[simp] theorem endCalibration_freeCount (r : DoneResult) (s : State) : (endCalibration r s).freeCount = s.freeCount := by
  unfold endCalibration; (repeat' split) <;> simp
@[simp] theorem endCalibration_pending (r : DoneResult) (s : State) : (endCalibration r s).pending = s.pending := by
  unfold endCalibration; (repeat' split) <;> simp
@[simp] theorem endCalibration_host_rxq (r : DoneResult) (s : State) : (endCalibration r s).host.rxq = s.host.rxq := by
  unfold endCalibration; (repeat' split) <;> simp
@[simp] theorem endCalibration_host_replies (r : DoneResult) (s : State) : (endCalibration r s).host.replies = s.host.replies := by
  unfold endCalibration; (repeat' split) <;> simp
@[simp] theorem endCalibration_host_errors (r : DoneResult) (s : State) : (endCalibration r s).host.errors = s.host.errors := by
  unfold endCalibration; (repeat' split) <;> simp
@[simp] theorem endCalibration_host_supPeriod (r : DoneResult) (s : State) : (endCalibration r s).host.supPeriod = s.host.supPeriod := by
  unfold endCalibration; (repeat' split) <;> simp
@[simp] theorem endCalibration_host_tx (r : DoneResult) (s : State) : (endCalibration r s).host.tx = s.host.tx := by
  unfold endCalibration; (repeat' split) <;> simp
@[simp] theorem endCalibration_gov_limits (r : DoneResult) (s : State) : (endCalibration r s).gov.limits = s.gov.limits := by
  unfold endCalibration; (repeat' split) <;> simp
@[simp] theorem endCalibration_debris_b (r : DoneResult) (s : State) : (endCalibration r s).debris.b = s.debris.b := by
  unfold endCalibration; (repeat' split) <;> simp
@[simp] theorem endCalibration_debris_binFull (r : DoneResult) (s : State) : (endCalibration r s).debris.binFull = s.debris.binFull := by
  unfold endCalibration; (repeat' split) <;> simp
@[simp] theorem endCalibration_debris_levels (r : DoneResult) (s : State) : (endCalibration r s).debris.levels = s.debris.levels := by
  unfold endCalibration; (repeat' split) <;> simp
/-! ### reportRun -/

@[simp] theorem reportRun_ctl (k : Option RunKind) (r : RunResult) (s : State) : (reportRun k r s).ctl = s.ctl := by
  unfold reportRun; (repeat' split) <;> simp
@[simp] theorem reportRun_drive (k : Option RunKind) (r : RunResult) (s : State) : (reportRun k r s).drive = s.drive := by
  unfold reportRun; (repeat' split) <;> simp
@[simp] theorem reportRun_gov (k : Option RunKind) (r : RunResult) (s : State) : (reportRun k r s).gov = s.gov := by
  unfold reportRun; (repeat' split) <;> simp
@[simp] theorem reportRun_pack (k : Option RunKind) (r : RunResult) (s : State) : (reportRun k r s).pack = s.pack := by
  unfold reportRun; (repeat' split) <;> simp
@[simp] theorem reportRun_prot (k : Option RunKind) (r : RunResult) (s : State) : (reportRun k r s).prot = s.prot := by
  unfold reportRun; (repeat' split) <;> simp
@[simp] theorem reportRun_debris (k : Option RunKind) (r : RunResult) (s : State) : (reportRun k r s).debris = s.debris := by
  unfold reportRun; (repeat' split) <;> simp
@[simp] theorem reportRun_att (k : Option RunKind) (r : RunResult) (s : State) : (reportRun k r s).att = s.att := by
  unfold reportRun; (repeat' split) <;> simp
@[simp] theorem reportRun_roll (k : Option RunKind) (r : RunResult) (s : State) : (reportRun k r s).roll = s.roll := by
  unfold reportRun; (repeat' split) <;> simp
@[simp] theorem reportRun_contact (k : Option RunKind) (r : RunResult) (s : State) : (reportRun k r s).contact = s.contact := by
  unfold reportRun; (repeat' split) <;> simp
@[simp] theorem reportRun_stick (k : Option RunKind) (r : RunResult) (s : State) : (reportRun k r s).stick = s.stick := by
  unfold reportRun; (repeat' split) <;> simp
@[simp] theorem reportRun_dock (k : Option RunKind) (r : RunResult) (s : State) : (reportRun k r s).dock = s.dock := by
  unfold reportRun; (repeat' split) <;> simp
@[simp] theorem reportRun_evacSet (k : Option RunKind) (r : RunResult) (s : State) : (reportRun k r s).evacSet = s.evacSet := by
  unfold reportRun; (repeat' split) <;> simp
@[simp] theorem reportRun_charger (k : Option RunKind) (r : RunResult) (s : State) : (reportRun k r s).charger = s.charger := by
  unfold reportRun; (repeat' split) <;> simp
@[simp] theorem reportRun_evac (k : Option RunKind) (r : RunResult) (s : State) : (reportRun k r s).evac = s.evac := by
  unfold reportRun; (repeat' split) <;> simp
@[simp] theorem reportRun_store (k : Option RunKind) (r : RunResult) (s : State) : (reportRun k r s).store = s.store := by
  unfold reportRun; (repeat' split) <;> simp
@[simp] theorem reportRun_freeCount (k : Option RunKind) (r : RunResult) (s : State) : (reportRun k r s).freeCount = s.freeCount := by
  unfold reportRun; (repeat' split) <;> simp
@[simp] theorem reportRun_pending (k : Option RunKind) (r : RunResult) (s : State) : (reportRun k r s).pending = s.pending := by
  unfold reportRun; (repeat' split) <;> simp
@[simp] theorem reportRun_host_rxq (k : Option RunKind) (r : RunResult) (s : State) : (reportRun k r s).host.rxq = s.host.rxq := by
  unfold reportRun; (repeat' split) <;> simp
@[simp] theorem reportRun_host_replies (k : Option RunKind) (r : RunResult) (s : State) : (reportRun k r s).host.replies = s.host.replies := by
  unfold reportRun; (repeat' split) <;> simp
@[simp] theorem reportRun_host_errors (k : Option RunKind) (r : RunResult) (s : State) : (reportRun k r s).host.errors = s.host.errors := by
  unfold reportRun; (repeat' split) <;> simp
@[simp] theorem reportRun_host_supPeriod (k : Option RunKind) (r : RunResult) (s : State) : (reportRun k r s).host.supPeriod = s.host.supPeriod := by
  unfold reportRun; (repeat' split) <;> simp
@[simp] theorem reportRun_host_tx (k : Option RunKind) (r : RunResult) (s : State) : (reportRun k r s).host.tx = s.host.tx := by
  unfold reportRun; (repeat' split) <;> simp
/-! ### endRunRecords -/

@[simp] theorem endRunRecords_ctl (r : RunResult) (s : State) : (endRunRecords r s).ctl = s.ctl := by
  unfold endRunRecords; (repeat' split) <;> simp
@[simp] theorem endRunRecords_drive (r : RunResult) (s : State) : (endRunRecords r s).drive = s.drive := by
  unfold endRunRecords; (repeat' split) <;> simp
@[simp] theorem endRunRecords_gov (r : RunResult) (s : State) : (endRunRecords r s).gov = s.gov := by
  unfold endRunRecords; (repeat' split) <;> simp
@[simp] theorem endRunRecords_pack (r : RunResult) (s : State) : (endRunRecords r s).pack = s.pack := by
  unfold endRunRecords; (repeat' split) <;> simp
@[simp] theorem endRunRecords_prot (r : RunResult) (s : State) : (endRunRecords r s).prot = s.prot := by
  unfold endRunRecords; (repeat' split) <;> simp
@[simp] theorem endRunRecords_debris (r : RunResult) (s : State) : (endRunRecords r s).debris = s.debris := by
  unfold endRunRecords; (repeat' split) <;> simp
@[simp] theorem endRunRecords_att (r : RunResult) (s : State) : (endRunRecords r s).att = s.att := by
  unfold endRunRecords; (repeat' split) <;> simp
@[simp] theorem endRunRecords_roll (r : RunResult) (s : State) : (endRunRecords r s).roll = s.roll := by
  unfold endRunRecords; (repeat' split) <;> simp
@[simp] theorem endRunRecords_contact (r : RunResult) (s : State) : (endRunRecords r s).contact = s.contact := by
  unfold endRunRecords; (repeat' split) <;> simp
@[simp] theorem endRunRecords_stick (r : RunResult) (s : State) : (endRunRecords r s).stick = s.stick := by
  unfold endRunRecords; (repeat' split) <;> simp
@[simp] theorem endRunRecords_evacSet (r : RunResult) (s : State) : (endRunRecords r s).evacSet = s.evacSet := by
  unfold endRunRecords; (repeat' split) <;> simp
@[simp] theorem endRunRecords_charger (r : RunResult) (s : State) : (endRunRecords r s).charger = s.charger := by
  unfold endRunRecords; (repeat' split) <;> simp
@[simp] theorem endRunRecords_store (r : RunResult) (s : State) : (endRunRecords r s).store = s.store := by
  unfold endRunRecords; (repeat' split) <;> simp
@[simp] theorem endRunRecords_freeCount (r : RunResult) (s : State) : (endRunRecords r s).freeCount = s.freeCount := by
  unfold endRunRecords; (repeat' split) <;> simp
@[simp] theorem endRunRecords_pending (r : RunResult) (s : State) : (endRunRecords r s).pending = s.pending := by
  unfold endRunRecords; (repeat' split) <;> simp
@[simp] theorem endRunRecords_host_rxq (r : RunResult) (s : State) : (endRunRecords r s).host.rxq = s.host.rxq := by
  unfold endRunRecords; (repeat' split) <;> simp
@[simp] theorem endRunRecords_host_replies (r : RunResult) (s : State) : (endRunRecords r s).host.replies = s.host.replies := by
  unfold endRunRecords; (repeat' split) <;> simp
@[simp] theorem endRunRecords_host_errors (r : RunResult) (s : State) : (endRunRecords r s).host.errors = s.host.errors := by
  unfold endRunRecords; (repeat' split) <;> simp
@[simp] theorem endRunRecords_host_supPeriod (r : RunResult) (s : State) : (endRunRecords r s).host.supPeriod = s.host.supPeriod := by
  unfold endRunRecords; (repeat' split) <;> simp
@[simp] theorem endRunRecords_host_tx (r : RunResult) (s : State) : (endRunRecords r s).host.tx = s.host.tx := by
  unfold endRunRecords; (repeat' split) <;> simp
/-! ### endRun -/

@[simp] theorem endRun_ctl (r : RunResult) (s : State) : (endRun r s).ctl = s.ctl := by
  unfold endRun; (repeat' split) <;> simp
@[simp] theorem endRun_prot (r : RunResult) (s : State) : (endRun r s).prot = s.prot := by
  unfold endRun; (repeat' split) <;> simp
@[simp] theorem endRun_att (r : RunResult) (s : State) : (endRun r s).att = s.att := by
  unfold endRun; (repeat' split) <;> simp
@[simp] theorem endRun_contact (r : RunResult) (s : State) : (endRun r s).contact = s.contact := by
  unfold endRun; (repeat' split) <;> simp
@[simp] theorem endRun_stick (r : RunResult) (s : State) : (endRun r s).stick = s.stick := by
  unfold endRun; (repeat' split) <;> simp
@[simp] theorem endRun_evacSet (r : RunResult) (s : State) : (endRun r s).evacSet = s.evacSet := by
  unfold endRun; (repeat' split) <;> simp
@[simp] theorem endRun_charger (r : RunResult) (s : State) : (endRun r s).charger = s.charger := by
  unfold endRun; (repeat' split) <;> simp
@[simp] theorem endRun_store (r : RunResult) (s : State) : (endRun r s).store = s.store := by
  unfold endRun; (repeat' split) <;> simp
@[simp] theorem endRun_freeCount (r : RunResult) (s : State) : (endRun r s).freeCount = s.freeCount := by
  unfold endRun; (repeat' split) <;> simp
@[simp] theorem endRun_pending (r : RunResult) (s : State) : (endRun r s).pending = s.pending := by
  unfold endRun; (repeat' split) <;> simp
@[simp] theorem endRun_host_rxq (r : RunResult) (s : State) : (endRun r s).host.rxq = s.host.rxq := by
  unfold endRun; (repeat' split) <;> simp
@[simp] theorem endRun_host_replies (r : RunResult) (s : State) : (endRun r s).host.replies = s.host.replies := by
  unfold endRun; (repeat' split) <;> simp
@[simp] theorem endRun_host_errors (r : RunResult) (s : State) : (endRun r s).host.errors = s.host.errors := by
  unfold endRun; (repeat' split) <;> simp
@[simp] theorem endRun_host_supPeriod (r : RunResult) (s : State) : (endRun r s).host.supPeriod = s.host.supPeriod := by
  unfold endRun; (repeat' split) <;> simp
@[simp] theorem endRun_host_tx (r : RunResult) (s : State) : (endRun r s).host.tx = s.host.tx := by
  unfold endRun; (repeat' split) <;> simp
@[simp] theorem endRun_pack_record (r : RunResult) (s : State) : (endRun r s).pack.record = s.pack.record := by
  unfold endRun; (repeat' split) <;> simp
@[simp] theorem endRun_pack_q (r : RunResult) (s : State) : (endRun r s).pack.q = s.pack.q := by
  unfold endRun; (repeat' split) <;> simp
@[simp] theorem endRun_pack_capacity (r : RunResult) (s : State) : (endRun r s).pack.capacity = s.pack.capacity := by
  unfold endRun; (repeat' split) <;> simp
@[simp] theorem endRun_pack_need (r : RunResult) (s : State) : (endRun r s).pack.need = s.pack.need := by
  unfold endRun; (repeat' split) <;> simp
@[simp] theorem endRun_debris_b (r : RunResult) (s : State) : (endRun r s).debris.b = s.debris.b := by
  unfold endRun; (repeat' split) <;> simp
@[simp] theorem endRun_debris_binFull (r : RunResult) (s : State) : (endRun r s).debris.binFull = s.debris.binFull := by
  unfold endRun; (repeat' split) <;> simp
@[simp] theorem endRun_debris_levels (r : RunResult) (s : State) : (endRun r s).debris.levels = s.debris.levels := by
  unfold endRun; (repeat' split) <;> simp
/-! ### decideReleased -/

@[simp] theorem decideReleased_ctl (s : State) : (decideReleased s).ctl = s.ctl := by
  unfold decideReleased; (repeat' split) <;> simp
@[simp] theorem decideReleased_host (s : State) : (decideReleased s).host = s.host := by
  unfold decideReleased; (repeat' split) <;> simp
@[simp] theorem decideReleased_gov (s : State) : (decideReleased s).gov = s.gov := by
  unfold decideReleased; (repeat' split) <;> simp
@[simp] theorem decideReleased_pack (s : State) : (decideReleased s).pack = s.pack := by
  unfold decideReleased; (repeat' split) <;> simp
@[simp] theorem decideReleased_prot (s : State) : (decideReleased s).prot = s.prot := by
  unfold decideReleased; (repeat' split) <;> simp
@[simp] theorem decideReleased_debris (s : State) : (decideReleased s).debris = s.debris := by
  unfold decideReleased; (repeat' split) <;> simp
@[simp] theorem decideReleased_att (s : State) : (decideReleased s).att = s.att := by
  unfold decideReleased; (repeat' split) <;> simp
@[simp] theorem decideReleased_roll (s : State) : (decideReleased s).roll = s.roll := by
  unfold decideReleased; (repeat' split) <;> simp
@[simp] theorem decideReleased_contact (s : State) : (decideReleased s).contact = s.contact := by
  unfold decideReleased; (repeat' split) <;> simp
@[simp] theorem decideReleased_stick (s : State) : (decideReleased s).stick = s.stick := by
  unfold decideReleased; (repeat' split) <;> simp
@[simp] theorem decideReleased_dock (s : State) : (decideReleased s).dock = s.dock := by
  unfold decideReleased; (repeat' split) <;> simp
@[simp] theorem decideReleased_evacSet (s : State) : (decideReleased s).evacSet = s.evacSet := by
  unfold decideReleased; (repeat' split) <;> simp
@[simp] theorem decideReleased_charger (s : State) : (decideReleased s).charger = s.charger := by
  unfold decideReleased; (repeat' split) <;> simp
@[simp] theorem decideReleased_evac (s : State) : (decideReleased s).evac = s.evac := by
  unfold decideReleased; (repeat' split) <;> simp
@[simp] theorem decideReleased_store (s : State) : (decideReleased s).store = s.store := by
  unfold decideReleased; (repeat' split) <;> simp
@[simp] theorem decideReleased_freeCount (s : State) : (decideReleased s).freeCount = s.freeCount := by
  unfold decideReleased; (repeat' split) <;> simp
@[simp] theorem decideReleased_pending (s : State) : (decideReleased s).pending = s.pending := by
  unfold decideReleased; (repeat' split) <;> simp
/-! ### driveFault -/

@[simp] theorem driveFault_pack (c : DriveFault) (v : Reading) (w : Option Reading) (s : State) : (driveFault c v w s).pack = s.pack := by
  unfold driveFault; simp
@[simp] theorem driveFault_prot (c : DriveFault) (v : Reading) (w : Option Reading) (s : State) : (driveFault c v w s).prot = s.prot := by
  unfold driveFault; simp
@[simp] theorem driveFault_att (c : DriveFault) (v : Reading) (w : Option Reading) (s : State) : (driveFault c v w s).att = s.att := by
  unfold driveFault; simp
@[simp] theorem driveFault_contact (c : DriveFault) (v : Reading) (w : Option Reading) (s : State) : (driveFault c v w s).contact = s.contact := by
  unfold driveFault; simp
@[simp] theorem driveFault_stick (c : DriveFault) (v : Reading) (w : Option Reading) (s : State) : (driveFault c v w s).stick = s.stick := by
  unfold driveFault; simp
@[simp] theorem driveFault_evacSet (c : DriveFault) (v : Reading) (w : Option Reading) (s : State) : (driveFault c v w s).evacSet = s.evacSet := by
  unfold driveFault; simp
@[simp] theorem driveFault_charger (c : DriveFault) (v : Reading) (w : Option Reading) (s : State) : (driveFault c v w s).charger = s.charger := by
  unfold driveFault; simp
@[simp] theorem driveFault_store (c : DriveFault) (v : Reading) (w : Option Reading) (s : State) : (driveFault c v w s).store = s.store := by
  unfold driveFault; simp
@[simp] theorem driveFault_freeCount (c : DriveFault) (v : Reading) (w : Option Reading) (s : State) : (driveFault c v w s).freeCount = s.freeCount := by
  unfold driveFault; simp
@[simp] theorem driveFault_pending (c : DriveFault) (v : Reading) (w : Option Reading) (s : State) : (driveFault c v w s).pending = s.pending := by
  unfold driveFault; simp
@[simp] theorem driveFault_ctl_role (c : DriveFault) (v : Reading) (w : Option Reading) (s : State) : (driveFault c v w s).ctl.role = s.ctl.role := by
  unfold driveFault; simp
@[simp] theorem driveFault_ctl_cells (c : DriveFault) (v : Reading) (w : Option Reading) (s : State) : (driveFault c v w s).ctl.cells = s.ctl.cells := by
  unfold driveFault; simp
@[simp] theorem driveFault_ctl_partTime (c : DriveFault) (v : Reading) (w : Option Reading) (s : State) : (driveFault c v w s).ctl.partTime = s.ctl.partTime := by
  unfold driveFault; simp
@[simp] theorem driveFault_ctl_shipDecided (c : DriveFault) (v : Reading) (w : Option Reading) (s : State) : (driveFault c v w s).ctl.shipDecided = s.ctl.shipDecided := by
  unfold driveFault; simp
@[simp] theorem driveFault_ctl_lock (c : DriveFault) (v : Reading) (w : Option Reading) (s : State) : (driveFault c v w s).ctl.lock = s.ctl.lock := by
  unfold driveFault; simp
@[simp] theorem driveFault_host_rxq (c : DriveFault) (v : Reading) (w : Option Reading) (s : State) : (driveFault c v w s).host.rxq = s.host.rxq := by
  unfold driveFault; simp
@[simp] theorem driveFault_host_replies (c : DriveFault) (v : Reading) (w : Option Reading) (s : State) : (driveFault c v w s).host.replies = s.host.replies := by
  unfold driveFault; simp
@[simp] theorem driveFault_host_errors (c : DriveFault) (v : Reading) (w : Option Reading) (s : State) : (driveFault c v w s).host.errors = s.host.errors := by
  unfold driveFault; simp
@[simp] theorem driveFault_host_supPeriod (c : DriveFault) (v : Reading) (w : Option Reading) (s : State) : (driveFault c v w s).host.supPeriod = s.host.supPeriod := by
  unfold driveFault; simp
@[simp] theorem driveFault_host_tx (c : DriveFault) (v : Reading) (w : Option Reading) (s : State) : (driveFault c v w s).host.tx = s.host.tx := by
  unfold driveFault; simp
@[simp] theorem driveFault_debris_b (c : DriveFault) (v : Reading) (w : Option Reading) (s : State) : (driveFault c v w s).debris.b = s.debris.b := by
  unfold driveFault; simp
@[simp] theorem driveFault_debris_binFull (c : DriveFault) (v : Reading) (w : Option Reading) (s : State) : (driveFault c v w s).debris.binFull = s.debris.binFull := by
  unfold driveFault; simp
@[simp] theorem driveFault_debris_levels (c : DriveFault) (v : Reading) (w : Option Reading) (s : State) : (driveFault c v w s).debris.levels = s.debris.levels := by
  unfold driveFault; simp

end Sys2Proof.Machine
end

