-- ==== Sys2Proof/Laws/Charger.lean ====
section
/-! SUPPORT. What the means of a governor period are, and what the period leaves in the charger's readings (R143). -/

namespace Sys2Proof.Machine

open Sys2Proof

/-- Readings taken one after another: their sum, their number, and whether one was ABOVE. -/
theorem CurrentSum.foldl_add (rs : List Reading) (c : CurrentSum) :
    rs.foldl CurrentSum.add c =
      ⟨c.sum + (rs.map (fun r => (r.toInt?.getD 0).toNat)).sum, c.count + rs.length,
        c.above || rs.any (fun r => decide (r = .above))⟩ := by
  induction rs generalizing c with
  | nil => simp
  | cons r rs ih => simp [ih, CurrentSum.add, Nat.add_assoc, Nat.add_comm 1, Bool.or_assoc]

/-- Without a reading the record keeps its fields. -/
@[simp] theorem chargerMeans_nil (c : Charger) : chargerMeans [] c = ⟨c.vOut, c.iOut, c.supply⟩ := rfl

/-- The mean I_out of a period with a reading: ABOVE when one of them is, else the truncated mean. -/
theorem chargerMeans_iOut {rs : List ChargerReadings} (h : rs ≠ []) (c : Charger) :
    (chargerMeans rs c).iOut = if ∃ r ∈ rs, r.iOut = .above then .above
      else .num ((rs.map (fun r => (r.iOut.toInt?.getD 0).toNat)).sum / rs.length : Nat) := by
  simp [chargerMeans, h, meanReading, CurrentSum.foldl_add, CurrentSum.empty, Function.comp_def]

/-- The means of a period with a reading are those of the readings, field by field. -/
theorem chargerMeans_voltages {rs : List ChargerReadings} (h : rs ≠ []) (c : Charger) :
    (chargerMeans rs c).vOut = meanVoltage (rs.map ChargerReadings.vOut) ∧
      (chargerMeans rs c).supply = meanVoltage (rs.map ChargerReadings.supply) := by
  simp [chargerMeans, h]

/-- A mean of voltages is ABSENT exactly when the sense was open at one of them. -/
theorem meanVoltage_eq_none {vs : List (Option Nat)} : meanVoltage vs = none ↔ none ∈ vs := by
  unfold meanVoltage
  split
  · next h => simp only [reduceCtorEq, false_iff]; intro m; simpa using List.all_eq_true.mp h none m
  · next h =>
    simp only [true_iff]
    refine Decidable.byContradiction fun m => h (List.all_eq_true.mpr fun v hv => by cases v with
      | none => exact absurd hv m
      | some _ => rfl)

/-- Regulation leaves the readings. -/
@[simp] theorem Charger.regulate_readings (c : Charger) (cap t : Nat) (now : Ms) :
    (c.regulate cap t now).vOut = c.vOut ∧ (c.regulate cap t now).supply = c.supply ∧
      (c.regulate cap t now).iOut = c.iOut := by
  simp only [Charger.regulate, Charger.goTo]
  split <;> (try split) <;> exact ⟨rfl, rfl, rfl⟩

/-- The fault evaluation keeps the voltages. It keeps I_out too, but for an entry to FAULT, where I_out reads 0. -/
theorem evaluateFaults_readings (s : State) :
    (evaluateFaults s).charger.vOut = s.charger.vOut ∧ (evaluateFaults s).charger.supply = s.charger.supply ∧
      ((evaluateFaults s).charger.iOut = s.charger.iOut ∨
        (evaluateFaults s).charger.state = .fault ∧ (evaluateFaults s).charger.iOut = .num 0) := by
  simp only [evaluateFaults]
  split
  · split
    · simp only [chargerFault, appendFault_charger, Charger.enterFault]
      split <;> exact ⟨rfl, rfl, .inr ⟨rfl, rfl⟩⟩
    · exact ⟨rfl, rfl, .inl rfl⟩
  · exact ⟨rfl, rfl, .inl rfl⟩

/-- A period of the charger stage leaves the two mean voltages in the record. -/
theorem chargerPeriod_voltages (means : ChargerReadings) (s : State) :
    (chargerPeriod means s).charger.vOut = means.vOut ∧ (chargerPeriod means s).charger.supply = means.supply := by
  have h := evaluateFaults_readings { s with charger := recordReadings means s.charger }
  simp only [chargerPeriod, Charger.regulate_readings]
  exact ⟨h.1, h.2.1⟩

end Sys2Proof.Machine
end

