-- ==== Sys2Proof/Laws/Drive.lean ====
section
/-! SUPPORT. What the judgement of a fan fault at the instant of a run's end can do (R152). -/

namespace Sys2Proof.Machine

open Sys2Proof

/-- Outside COAST no run has just ended. -/
theorem missesAtEnd_of_not_coast {s : State} (h : s.drive.state ≠ .coast) : s.missesAtEnd = none := by
  simp [State.missesAtEnd, h]

/-- During a catch no run has just ended. -/
theorem missesAtEnd_of_catch {s : State} {n : Nat} (h : s.drive.catchCount = some n) : s.missesAtEnd = none := by
  simp [State.missesAtEnd, h]

/-- What a run that has just ended leaves: a fan in COAST since this part time, with no catch and no run in flight. -/
theorem missesAtEnd_some {s : State} {n : Nat} (h : s.missesAtEnd = some n) :
    s.drive.state = .coast ∧ s.drive.catchCount = none ∧ s.drive.enteredAt = s.now ∧ s.evac.phase = .none ∧
      s.evac.lastEnd = some s.now ∧ s.evac.endMisses = some n := by
  unfold State.missesAtEnd at h
  split at h
  · next c => exact ⟨c.1, c.2.1, c.2.2.1, c.2.2.2.1, c.2.2.2.2, h⟩
  · cases h

/-- With no run just ended an event acts as it otherwise does. -/
theorem judgeAtEnd_of_none {judge otherwise : State → State} {s : State} (h : s.missesAtEnd = none) :
    judgeAtEnd judge otherwise s = otherwise s := by
  simp [judgeAtEnd, h]

/-- An event after the end of a run makes the fault it makes in RUN, or acts as it otherwise does. -/
theorem judgeAtEnd_cases (judge otherwise : State → State) (s : State) :
    judgeAtEnd judge otherwise s = otherwise s ∨
    (∃ misses j, s.missesAtEnd = some misses ∧
      j = judge { s with drive := { s.drive with state := .run, missCount := misses } } ∧ j.drive.state = .fault ∧
      judgeAtEnd judge otherwise s =
        { j with drive := { j.drive with lastRunDuty := s.drive.lastRunDuty, speedAtStop := s.drive.speedAtStop,
                                         coastTimer := none, crossTimer := none } }) := by
  unfold judgeAtEnd
  split
  · exact .inl rfl
  · next misses h =>
    by_cases hf : (judge { s with drive := { s.drive with state := .run, missCount := misses } }).drive.state = .fault
    · exact .inr ⟨misses, _, h, rfl, hf, by simp [hf]⟩
    · exact .inl (by simp [hf])

end Sys2Proof.Machine
end

