-- ==== Sys2Proof/Laws/Memory.lean ====
section
/-! SUPPORT. The memory of the calibration store: every operation keeps its canonical form, a byte written reads back, and a
write leaves every other byte as it was. -/

namespace Sys2Proof.Machine

open Sys2Proof

/-! ### The canonical form -/

/-- A lower bound may be lowered. -/
theorem memWfFrom_mono {lo lo' : Nat} (h : lo ≤ lo') : ∀ {mem : List Host.Cell}, memWfFrom lo' mem = true →
    memWfFrom lo mem = true
  | [], _ => rfl
  | (k, v) :: rest, hm => by
    simp only [memWfFrom, Bool.and_eq_true, decide_eq_true_eq] at hm ⊢
    exact ⟨⟨⟨by omega, hm.1.1.2⟩, hm.1.2⟩, hm.2⟩

/-- A byte inserted at an address of the store keeps the canonical form. -/
theorem memInsert_wf (a : Nat) (v : Byte) (ha : a < storeSize) :
    ∀ (lo : Nat) (mem : List Host.Cell), lo ≤ a → memWfFrom lo mem = true → memWfFrom lo (memInsert mem a v) = true
  | lo, [], hlo, _ => by
    unfold memInsert
    split
    · rfl
    · next hv => simp [memWfFrom, hlo, ha, hv]
  | lo, (k, w) :: rest, hlo, hm => by
    simp only [memWfFrom, Bool.and_eq_true, decide_eq_true_eq] at hm
    obtain ⟨⟨⟨h1, h2⟩, h3⟩, h4⟩ := hm
    unfold memInsert
    split
    · next hk =>
      split
      · simp [memWfFrom, h1, h2, h3, h4]
      · next hv =>
        have : a + 1 ≤ k := hk
        simp [memWfFrom, hlo, ha, hv, h2, h3, h4, this]
    · split
      · next hk =>
        split
        · exact memWfFrom_mono (by omega) h4
        · next hv => simp [memWfFrom, h1, h2, hv, h4]
      · next hk1 hk2 =>
        have hih := memInsert_wf a v ha (k + 1) rest (by omega) h4
        simp [memWfFrom, h1, h2, h3, hih]

theorem memWrite_wf (mem : List Host.Cell) (a : Nat) (v : Byte) (h : memWf mem = true) :
    memWf (memWrite mem a v) = true := by
  unfold memWrite
  split
  · next ha => exact memInsert_wf a v ha 0 mem (Nat.zero_le a) h
  · exact h

theorem memWriteList_wf : ∀ (bytes : List Byte) (mem : List Host.Cell) (a : Nat), memWf mem = true →
    memWf (memWriteList mem a bytes) = true
  | [], _, _, h => h
  | v :: rest, mem, a, h => memWriteList_wf rest _ _ (memWrite_wf mem a v h)

theorem segWrite_wf (mem : List Host.Cell) (seg off : Nat) (bytes : List Byte) (h : memWf mem = true) :
    memWf (segWrite mem seg off bytes) = true := memWriteList_wf bytes mem _ h

theorem writeHeader_wf (mem : List Host.Cell) (seg value : Nat) (h : memWf mem = true) :
    memWf (writeHeader mem seg value) = true := segWrite_wf mem seg 0 _ h

/-- A selection of the cells keeps the canonical form. -/
theorem memWfFrom_filter (p : Host.Cell → Bool) : ∀ (lo : Nat) (mem : List Host.Cell), memWfFrom lo mem = true →
    memWfFrom lo (mem.filter p) = true
  | _, [], _ => rfl
  | lo, (k, v) :: rest, h => by
    simp only [memWfFrom, Bool.and_eq_true, decide_eq_true_eq] at h
    have ih := memWfFrom_filter p (k + 1) rest h.2
    cases hp : p (k, v)
    · rw [List.filter_cons_of_neg (by simp [hp])]
      exact memWfFrom_mono (by omega) ih
    · rw [List.filter_cons_of_pos hp]
      simp [memWfFrom, h.1, ih]

theorem segClear_wf (mem : List Host.Cell) (seg : Nat) (h : memWf mem = true) : memWf (segClear mem seg) = true :=
  memWfFrom_filter _ 0 mem h

/-- The store right after reset is in canonical form. -/
theorem reset_memWf : memWf State.reset.store.mem = true := rfl

/-! ### Read after write -/

/-- Every listed address lies at or above the bound, so that a lower address reads as erased. -/
theorem memRead_below : ∀ (lo a : Nat) (mem : List Host.Cell), memWfFrom lo mem = true → a < lo → memRead mem a = erased
  | _, _, [], _, _ => rfl
  | lo, a, (k, v) :: rest, h, ha => by
    simp only [memWfFrom, Bool.and_eq_true, decide_eq_true_eq] at h
    have hk : k ≠ a := by omega
    simp only [memRead, if_neg hk]
    exact memRead_below (k + 1) a rest h.2 (by omega)

/-- A byte inserted reads back, and every other address reads as before. -/
theorem memRead_memInsert (a b : Nat) (v : Byte) : ∀ (lo : Nat) (mem : List Host.Cell), memWfFrom lo mem = true →
    memRead (memInsert mem a v) b = if b = a then v else memRead mem b
  | _, [], _ => by
    by_cases hb : b = a
    · by_cases hv : v = erased <;> simp [memInsert, memRead, hb, hv]
    · by_cases hv : v = erased <;> simp [memInsert, memRead, hb, hv, Ne.symm hb]
  | lo, (k, w) :: rest, h => by
    simp only [memWfFrom, Bool.and_eq_true, decide_eq_true_eq] at h
    obtain ⟨⟨⟨h1, h2⟩, h3⟩, h4⟩ := h
    unfold memInsert
    split
    · next hk =>
      have hlow : memRead ((k, w) :: rest) a = erased :=
        memRead_below (a + 1) a _ (by simp [memWfFrom, h2, h3, h4]; omega) (by omega)
      split
      · next hv =>
        by_cases hb : b = a
        · rw [if_pos hb, hb, hlow, hv]
        · rw [if_neg hb]
      · by_cases hb : b = a
        · simp [memRead, hb]
        · simp [memRead, hb, Ne.symm hb]
    · split
      · next hk1 hk =>
        have hlow : memRead rest a = erased := memRead_below (k + 1) a rest h4 (by omega)
        split
        · next hv =>
          by_cases hb : b = a
          · rw [if_pos hb, hb, hlow, hv]
          · rw [if_neg hb]
            have : k ≠ b := by omega
            simp [memRead, this]
        · by_cases hb : b = a
          · simp [memRead, hb, hk]
          · have : k ≠ b := by omega
            simp [memRead, hb, this]
      · next hk1 hk2 =>
        have ih := memRead_memInsert a b v (k + 1) rest h4
        by_cases hkb : k = b
        · have : b ≠ a := by omega
          simp [memRead, hkb, this]
        · simp [memRead, hkb, ih]

/-- A byte written inside the store reads back; every other address reads as before. -/
theorem memRead_memWrite (mem : List Host.Cell) (a b : Nat) (v : Byte) (h : memWf mem = true) (ha : a < storeSize) :
    memRead (memWrite mem a v) b = if b = a then v else memRead mem b := by
  simp only [memWrite, if_pos ha]
  exact memRead_memInsert a b v 0 mem h

/-- Bytes written from an address leave every address below it as it was. -/
theorem memRead_memWriteList_below : ∀ (bytes : List Byte) (mem : List Host.Cell) (a b : Nat), memWf mem = true →
    b < a → memRead (memWriteList mem a bytes) b = memRead mem b
  | [], _, _, _, _, _ => rfl
  | v :: rest, mem, a, b, h, hb => by
    rw [memWriteList, memRead_memWriteList_below rest _ _ _ (memWrite_wf mem a v h) (by omega)]
    by_cases ha : a < storeSize
    · rw [memRead_memWrite mem a b v h ha, if_neg (by omega)]
    · simp [memWrite, ha]

/-- Bytes written from an address leave every address past them as it was. -/
theorem memRead_memWriteList_above : ∀ (bytes : List Byte) (mem : List Host.Cell) (a b : Nat), memWf mem = true →
    a + bytes.length ≤ b → memRead (memWriteList mem a bytes) b = memRead mem b
  | [], _, _, _, _, _ => rfl
  | v :: rest, mem, a, b, h, hb => by
    simp only [List.length_cons] at hb
    rw [memWriteList, memRead_memWriteList_above rest _ _ _ (memWrite_wf mem a v h) (by omega)]
    by_cases ha : a < storeSize
    · rw [memRead_memWrite mem a b v h ha, if_neg (by omega)]
    · simp [memWrite, ha]

/-- Bytes written inside the store read back in order. -/
theorem memRead_memWriteList : ∀ (bytes : List Byte) (mem : List Host.Cell) (a i : Nat), memWf mem = true →
    a + bytes.length ≤ storeSize → (hi : i < bytes.length) → memRead (memWriteList mem a bytes) (a + i) = bytes[i]
  | [], _, _, _, _, _, hi => absurd hi (by simp)
  | v :: rest, mem, a, 0, h, hlen, _ => by
    simp only [List.length_cons] at hlen
    rw [memWriteList, memRead_memWriteList_below rest _ _ _ (memWrite_wf mem a v h) (by omega), Nat.add_zero,
      memRead_memWrite mem a a v h (by omega)]
    simp
  | v :: rest, mem, a, i + 1, h, hlen, hi => by
    simp only [List.length_cons] at hlen hi
    have := memRead_memWriteList rest (memWrite mem a v) (a + 1) i (memWrite_wf mem a v h) (by omega) (by omega)
    rw [memWriteList, show a + (i + 1) = a + 1 + i by omega, this]
    simp

end Sys2Proof.Machine
end

