-- ==== Sys2Proof/Laws/Requests.lean ====
section
/-! SUPPORT. What the taking of a request can do (R159, R160). -/

namespace Sys2Proof.Machine

open Sys2Proof

/-! ### The standby timer and the beginning of a taking -/

@[simp] theorem restartStandby_host (s : State) : (restartStandby s).host = s.host := rfl
@[simp] theorem restartStandby_drive (s : State) : (restartStandby s).drive = s.drive := rfl
@[simp] theorem restartStandby_gov (s : State) : (restartStandby s).gov = s.gov := rfl
@[simp] theorem restartStandby_pack (s : State) : (restartStandby s).pack = s.pack := rfl
@[simp] theorem restartStandby_prot (s : State) : (restartStandby s).prot = s.prot := rfl
@[simp] theorem restartStandby_debris (s : State) : (restartStandby s).debris = s.debris := rfl
@[simp] theorem restartStandby_att (s : State) : (restartStandby s).att = s.att := rfl
@[simp] theorem restartStandby_roll (s : State) : (restartStandby s).roll = s.roll := rfl
@[simp] theorem restartStandby_contact (s : State) : (restartStandby s).contact = s.contact := rfl
@[simp] theorem restartStandby_stick (s : State) : (restartStandby s).stick = s.stick := rfl
@[simp] theorem restartStandby_dock (s : State) : (restartStandby s).dock = s.dock := rfl
@[simp] theorem restartStandby_evacSet (s : State) : (restartStandby s).evacSet = s.evacSet := rfl
@[simp] theorem restartStandby_charger (s : State) : (restartStandby s).charger = s.charger := rfl
@[simp] theorem restartStandby_evac (s : State) : (restartStandby s).evac = s.evac := rfl
@[simp] theorem restartStandby_store (s : State) : (restartStandby s).store = s.store := rfl
@[simp] theorem restartStandby_freeCount (s : State) : (restartStandby s).freeCount = s.freeCount := rfl
@[simp] theorem restartStandby_pending (s : State) : (restartStandby s).pending = s.pending := rfl
@[simp] theorem beginTaking_drive (q : List HostFrame) (s : State) : (beginTaking q s).drive = s.drive := by
  simp [beginTaking]
@[simp] theorem beginTaking_gov (q : List HostFrame) (s : State) : (beginTaking q s).gov = s.gov := by
  simp [beginTaking]
@[simp] theorem beginTaking_prot (q : List HostFrame) (s : State) : (beginTaking q s).prot = s.prot := by
  simp [beginTaking]
@[simp] theorem beginTaking_debris (q : List HostFrame) (s : State) : (beginTaking q s).debris = s.debris := by
  simp [beginTaking]
@[simp] theorem beginTaking_att (q : List HostFrame) (s : State) : (beginTaking q s).att = s.att := by
  simp [beginTaking]
@[simp] theorem beginTaking_roll (q : List HostFrame) (s : State) : (beginTaking q s).roll = s.roll := by
  simp [beginTaking]
@[simp] theorem beginTaking_contact (q : List HostFrame) (s : State) : (beginTaking q s).contact = s.contact := by
  simp [beginTaking]
@[simp] theorem beginTaking_stick (q : List HostFrame) (s : State) : (beginTaking q s).stick = s.stick := by
  simp [beginTaking]
@[simp] theorem beginTaking_dock (q : List HostFrame) (s : State) : (beginTaking q s).dock = s.dock := by
  simp [beginTaking]
@[simp] theorem beginTaking_evacSet (q : List HostFrame) (s : State) : (beginTaking q s).evacSet = s.evacSet := by
  simp [beginTaking]
@[simp] theorem beginTaking_charger (q : List HostFrame) (s : State) : (beginTaking q s).charger = s.charger := by
  simp [beginTaking]
@[simp] theorem beginTaking_evac (q : List HostFrame) (s : State) : (beginTaking q s).evac = s.evac := by
  simp [beginTaking]
@[simp] theorem beginTaking_store (q : List HostFrame) (s : State) : (beginTaking q s).store = s.store := by
  simp [beginTaking]
@[simp] theorem beginTaking_freeCount (q : List HostFrame) (s : State) : (beginTaking q s).freeCount = s.freeCount := by
  simp [beginTaking]
@[simp] theorem beginTaking_pending (q : List HostFrame) (s : State) : (beginTaking q s).pending = s.pending := by
  simp [beginTaking]
@[simp] theorem restartStandby_ctl_role (s : State) : (restartStandby s).ctl.role = s.ctl.role := rfl
@[simp] theorem beginTaking_ctl_role (q : List HostFrame) (s : State) : (beginTaking q s).ctl.role = s.ctl.role := by
  simp [beginTaking]
@[simp] theorem restartStandby_ctl_cells (s : State) : (restartStandby s).ctl.cells = s.ctl.cells := rfl
@[simp] theorem beginTaking_ctl_cells (q : List HostFrame) (s : State) : (beginTaking q s).ctl.cells = s.ctl.cells := by
  simp [beginTaking]
@[simp] theorem restartStandby_ctl_ring (s : State) : (restartStandby s).ctl.ring = s.ctl.ring := rfl
@[simp] theorem beginTaking_ctl_ring (q : List HostFrame) (s : State) : (beginTaking q s).ctl.ring = s.ctl.ring := by
  simp [beginTaking]
@[simp] theorem restartStandby_ctl_nextSeq (s : State) : (restartStandby s).ctl.nextSeq = s.ctl.nextSeq := rfl
@[simp] theorem beginTaking_ctl_nextSeq (q : List HostFrame) (s : State) : (beginTaking q s).ctl.nextSeq = s.ctl.nextSeq := by
  simp [beginTaking]
@[simp] theorem restartStandby_ctl_partTime (s : State) : (restartStandby s).ctl.partTime = s.ctl.partTime := rfl
@[simp] theorem beginTaking_ctl_partTime (q : List HostFrame) (s : State) : (beginTaking q s).ctl.partTime = s.ctl.partTime := by
  simp [beginTaking]
@[simp] theorem restartStandby_ctl_cause (s : State) : (restartStandby s).ctl.cause = s.ctl.cause := rfl
@[simp] theorem beginTaking_ctl_cause (q : List HostFrame) (s : State) : (beginTaking q s).ctl.cause = s.ctl.cause := by
  simp [beginTaking]
@[simp] theorem restartStandby_ctl_shipDecided (s : State) : (restartStandby s).ctl.shipDecided = s.ctl.shipDecided := rfl
@[simp] theorem beginTaking_ctl_shipDecided (q : List HostFrame) (s : State) : (beginTaking q s).ctl.shipDecided = s.ctl.shipDecided := by
  simp [beginTaking]
@[simp] theorem restartStandby_ctl_lock (s : State) : (restartStandby s).ctl.lock = s.ctl.lock := rfl
@[simp] theorem beginTaking_ctl_lock (q : List HostFrame) (s : State) : (beginTaking q s).ctl.lock = s.ctl.lock := by
  simp [beginTaking]
@[simp] theorem beginTaking_host_replies (q : List HostFrame) (s : State) :
    (beginTaking q s).host.replies = s.host.replies := by
  simp [beginTaking]
@[simp] theorem beginTaking_host_mask (q : List HostFrame) (s : State) :
    (beginTaking q s).host.mask = s.host.mask := by
  simp [beginTaking]
@[simp] theorem beginTaking_host_errors (q : List HostFrame) (s : State) :
    (beginTaking q s).host.errors = s.host.errors := by
  simp [beginTaking]
@[simp] theorem beginTaking_host_supPeriod (q : List HostFrame) (s : State) :
    (beginTaking q s).host.supPeriod = s.host.supPeriod := by
  simp [beginTaking]
@[simp] theorem beginTaking_host_supTimer (q : List HostFrame) (s : State) :
    (beginTaking q s).host.supTimer = s.host.supTimer := by
  simp [beginTaking]
@[simp] theorem beginTaking_host_tx (q : List HostFrame) (s : State) :
    (beginTaking q s).host.tx = s.host.tx := by
  simp [beginTaking]
@[simp] theorem beginTaking_pack_record (q : List HostFrame) (s : State) :
    (beginTaking q s).pack.record = s.pack.record := by
  simp [beginTaking]
@[simp] theorem beginTaking_pack_q (q : List HostFrame) (s : State) :
    (beginTaking q s).pack.q = s.pack.q := by
  simp [beginTaking]
@[simp] theorem beginTaking_pack_valid (q : List HostFrame) (s : State) :
    (beginTaking q s).pack.valid = s.pack.valid := by
  simp [beginTaking]
@[simp] theorem beginTaking_pack_acc (q : List HostFrame) (s : State) :
    (beginTaking q s).pack.acc = s.pack.acc := by
  simp [beginTaking]
@[simp] theorem beginTaking_pack_capacity (q : List HostFrame) (s : State) :
    (beginTaking q s).pack.capacity = s.pack.capacity := by
  simp [beginTaking]
@[simp] theorem beginTaking_pack_balance (q : List HostFrame) (s : State) :
    (beginTaking q s).pack.balance = s.pack.balance := by
  simp [beginTaking]
@[simp] theorem beginTaking_pack_full (q : List HostFrame) (s : State) :
    (beginTaking q s).pack.full = s.pack.full := by
  simp [beginTaking]
@[simp] theorem beginTaking_pack_need (q : List HostFrame) (s : State) :
    (beginTaking q s).pack.need = s.pack.need := by
  simp [beginTaking]
@[simp] theorem beginTaking_pack_ocv (q : List HostFrame) (s : State) :
    (beginTaking q s).pack.ocv = s.pack.ocv := by
  simp [beginTaking]
@[simp] theorem beginTaking_pack_offsets (q : List HostFrame) (s : State) :
    (beginTaking q s).pack.offsets = s.pack.offsets := by
  simp [beginTaking]
@[simp] theorem beginTaking_rxq (q : List HostFrame) (s : State) : (beginTaking q s).host.rxq = q := by
  simp [beginTaking]

/-! ### The judging -/

/-- A request refused changes nothing and returns no fields. -/
@[simp] theorem refuse_state (r : Result) (s : State) : (refuse r s).state = s := rfl
@[simp] theorem refuse_fields (r : Result) (s : State) : (refuse r s).fields = [] := rfl
@[simp] theorem refuse_result (r : Result) (s : State) : (refuse r s).result = r := rfl

/-- The stages in order: a request is refused with nothing changed, or its own stage judges it. -/
theorem judge_cases (q : RequestSpec) (p : List Byte) (s : State) :
    (∃ r, judge q p s = refuse r s) ∨ judge q p s = q.act p s := by
  unfold judge
  split
  · split
    · split
      · exact .inr rfl
      · exact .inl ⟨_, rfl⟩
    · exact .inl ⟨_, rfl⟩
  · exact .inl ⟨_, rfl⟩

/-- In a role that accepts the request, a payload that passes the length and canonical stages reaches its own stage. -/
theorem judge_act (q : RequestSpec) (p : List Byte) (s : State)
    (hr : q.accepts s.ctl.role = true) (hl : q.lengthOk p = true)
    (hc : q.canonical p = true) : judge q p s = q.act p s := by
  unfold judge
  rw [if_pos hr, if_pos hl, if_pos hc]

/-! ### The reply -/

@[simp] theorem replyTo_ctl (q : RequestSpec) (k : Byte) (j : Judged) : (replyTo q k j).ctl = j.state.ctl := by
  simp only [replyTo, pushReply_ctl]; split <;> rfl
@[simp] theorem replyTo_drive (q : RequestSpec) (k : Byte) (j : Judged) : (replyTo q k j).drive = j.state.drive := by
  simp only [replyTo, pushReply_drive]; split <;> rfl
@[simp] theorem replyTo_gov (q : RequestSpec) (k : Byte) (j : Judged) : (replyTo q k j).gov = j.state.gov := by
  simp only [replyTo, pushReply_gov]; split <;> rfl
@[simp] theorem replyTo_pack (q : RequestSpec) (k : Byte) (j : Judged) : (replyTo q k j).pack = j.state.pack := by
  simp only [replyTo, pushReply_pack]; split <;> rfl
@[simp] theorem replyTo_prot (q : RequestSpec) (k : Byte) (j : Judged) : (replyTo q k j).prot = j.state.prot := by
  simp only [replyTo, pushReply_prot]; split <;> rfl
@[simp] theorem replyTo_debris (q : RequestSpec) (k : Byte) (j : Judged) : (replyTo q k j).debris = j.state.debris := by
  simp only [replyTo, pushReply_debris]; split <;> rfl
@[simp] theorem replyTo_att (q : RequestSpec) (k : Byte) (j : Judged) : (replyTo q k j).att = j.state.att := by
  simp only [replyTo, pushReply_att]; split <;> rfl
@[simp] theorem replyTo_roll (q : RequestSpec) (k : Byte) (j : Judged) : (replyTo q k j).roll = j.state.roll := by
  simp only [replyTo, pushReply_roll]; split <;> rfl
@[simp] theorem replyTo_contact (q : RequestSpec) (k : Byte) (j : Judged) : (replyTo q k j).contact = j.state.contact := by
  simp only [replyTo, pushReply_contact]; split <;> rfl
@[simp] theorem replyTo_stick (q : RequestSpec) (k : Byte) (j : Judged) : (replyTo q k j).stick = j.state.stick := by
  simp only [replyTo, pushReply_stick]; split <;> rfl
@[simp] theorem replyTo_dock (q : RequestSpec) (k : Byte) (j : Judged) : (replyTo q k j).dock = j.state.dock := by
  simp only [replyTo, pushReply_dock]; split <;> rfl
@[simp] theorem replyTo_evacSet (q : RequestSpec) (k : Byte) (j : Judged) : (replyTo q k j).evacSet = j.state.evacSet := by
  simp only [replyTo, pushReply_evacSet]; split <;> rfl
@[simp] theorem replyTo_charger (q : RequestSpec) (k : Byte) (j : Judged) : (replyTo q k j).charger = j.state.charger := by
  simp only [replyTo, pushReply_charger]; split <;> rfl
@[simp] theorem replyTo_evac (q : RequestSpec) (k : Byte) (j : Judged) : (replyTo q k j).evac = j.state.evac := by
  simp only [replyTo, pushReply_evac]; split <;> rfl
@[simp] theorem replyTo_store (q : RequestSpec) (k : Byte) (j : Judged) : (replyTo q k j).store = j.state.store := by
  simp only [replyTo, pushReply_store]; split <;> rfl
@[simp] theorem replyTo_freeCount (q : RequestSpec) (k : Byte) (j : Judged) : (replyTo q k j).freeCount = j.state.freeCount := by
  simp only [replyTo, pushReply_freeCount]; split <;> rfl
@[simp] theorem replyTo_pending (q : RequestSpec) (k : Byte) (j : Judged) : (replyTo q k j).pending = j.state.pending := by
  simp only [replyTo, pushReply_pending]; split <;> rfl
@[simp] theorem replyTo_host_rxq (q : RequestSpec) (k : Byte) (j : Judged) :
    (replyTo q k j).host.rxq = j.state.host.rxq := by
  simp only [replyTo, pushReply]; split <;> rfl
@[simp] theorem replyTo_host_reports (q : RequestSpec) (k : Byte) (j : Judged) :
    (replyTo q k j).host.reports = j.state.host.reports := by
  simp only [replyTo, pushReply]; split <;> rfl
@[simp] theorem replyTo_host_mask (q : RequestSpec) (k : Byte) (j : Judged) :
    (replyTo q k j).host.mask = j.state.host.mask := by
  simp only [replyTo, pushReply]; split <;> rfl
@[simp] theorem replyTo_host_errors (q : RequestSpec) (k : Byte) (j : Judged) :
    (replyTo q k j).host.errors = j.state.host.errors := by
  simp only [replyTo, pushReply]; split <;> rfl
@[simp] theorem replyTo_host_rx (q : RequestSpec) (k : Byte) (j : Judged) :
    (replyTo q k j).host.rx = j.state.host.rx := by
  simp only [replyTo, pushReply]; split <;> rfl
@[simp] theorem replyTo_host_rxGap (q : RequestSpec) (k : Byte) (j : Judged) :
    (replyTo q k j).host.rxGap = j.state.host.rxGap := by
  simp only [replyTo, pushReply]; split <;> rfl
@[simp] theorem replyTo_host_supPeriod (q : RequestSpec) (k : Byte) (j : Judged) :
    (replyTo q k j).host.supPeriod = j.state.host.supPeriod := by
  simp only [replyTo, pushReply]; split <;> rfl
@[simp] theorem replyTo_host_supTimer (q : RequestSpec) (k : Byte) (j : Judged) :
    (replyTo q k j).host.supTimer = j.state.host.supTimer := by
  simp only [replyTo, pushReply]; split <;> rfl
@[simp] theorem replyTo_host_tx (q : RequestSpec) (k : Byte) (j : Judged) :
    (replyTo q k j).host.tx = j.state.host.tx := by
  simp only [replyTo, pushReply]; split <;> rfl

/-- The reply queue grows by one. -/
theorem replyTo_replies_length (q : RequestSpec) (k : Byte) (j : Judged) :
    (replyTo q k j).host.replies.length = j.state.host.replies.length + 1 := by
  simp only [replyTo, pushReply]; split <;> simp [clearSticky]

/-! ### The command that takes a request -/

/-- The command of a request changes nothing, or takes the frame at the head of the receive queue. -/
theorem request_cases {q : RequestSpec} {s : State} {o : Host.Outcome State Fault Refusal} (h : request q s = o) :
    o = .next s ∨
    ∃ f rest, s.host.rxq = f :: rest ∧ requestCode f.kind = some q.code ∧ s.canTake = true ∧ s.ctl.power ≠ .ship ∧
      o = .next (settle (replyTo q f.kind (judge q f.payload (beginTaking rest s)))) := by
  rcases event_cases h with e | ⟨hb, hp, e⟩
  · exact .inl e
  · right
    simp only [Bool.and_eq_true] at hb
    obtain ⟨hc, hh⟩ := hb
    unfold State.headIs at hh
    split at hh
    · next f rest hq =>
      refine ⟨f, rest, hq, of_decide_eq_true hh, hc, hp, ?_⟩
      rw [e]; simp [takeRequest, hq]
    · cases hh

/-- A request that stands at the head of the receive queue and can be taken is taken. -/
theorem request_taken {q : RequestSpec} {s : State} {f : HostFrame} {rest : List HostFrame}
    (hq : s.host.rxq = f :: rest) (hk : requestCode f.kind = some q.code) (hc : s.canTake = true)
    (hp : s.ctl.power ≠ .ship) :
    request q s = .next (settle (replyTo q f.kind (judge q f.payload (beginTaking rest s)))) := by
  have hh : s.headIs q.code = true := by simp [State.headIs, hq, hk]
  rw [request, event_occurs (by simp [hc, hh]) hp]
  simp [takeRequest, hq]

/-- Two reply queues of fewer than 4 replies leave room for one more. -/
theorem canTake_length {s : State} (h : s.canTake = true) : s.host.replies.length < 4 := by
  simp [State.canTake] at h
  exact h.1

end Sys2Proof.Machine
end

