-- ==== Sys2Proof/WellFormed.lean ====
section
/-! DEFINITION. Which operands a command of the outside can carry: the ranges the spec gives the readings. Every meaning
is total, also on operands outside these ranges. -/

namespace Sys2Proof

/-- A current reading of channel A or channel B is a number of at least 0, or ABOVE (R6, R106). -/
def Reading.isCurrent : Reading → Bool
  | .num n => decide (0 ≤ n)
  | .above => true
  | .below => false
  | .absent => false

/-- An ID line reading is a number in 0..3,300 mV, or ABOVE (R102). -/
def Reading.isIdLine : Reading → Bool
  | .num n => decide (0 ≤ n) && decide (n ≤ 3300)
  | .above => true
  | .below => false
  | .absent => false

/-- A charger output current is a number in 0..10,000 mA, or ABOVE (R143). -/
def Reading.isOutputCurrent : Reading → Bool
  | .num n => decide (0 ≤ n) && decide (n ≤ 10000)
  | .above => true
  | .below => false
  | .absent => false

/-- A voltage of the charger stage is 0..65,534 mV, or an open sense (R143). -/
def voltageInRange : Option Nat → Bool
  | none => true
  | some v => decide (v ≤ 65534)

/-- The charger readings are within the ranges of R143. -/
def ChargerReadings.wf (r : ChargerReadings) : Bool :=
  voltageInRange r.vOut && r.iOut.isOutputCurrent && voltageInRange r.supply

/-- A scan measures the taps of at most eight cells, and the pack voltage is not negative (R50, 00_scope.md 'Signals'). -/
def RawScan.wf (r : RawScan) : Bool :=
  decide (r.taps.length = 8) && decide (0 ≤ r.packV)

/-- The operands of a command are ones the outside can present. -/
def Instr.wf : Instr → Bool
  | .busCurrentReading r => r.isCurrent
  | .rollCurrentReading r => r.isCurrent
  | .idSample r => r.isIdLine
  | .governorPeriod rs => rs.all ChargerReadings.wf
  | .chargerReading m => m.wf
  | .packRecordPublication r => r.wf
  | .contactVoltageSample v => decide (v ≤ 65534)
  | .contactCurrentSample i => decide (i ≤ 65534)
  | .hostRxLenInvalid b => decide (b = 0 ∨ 129 < b.toNat)
  | .powerOnReset _ _ | .pinReset | .shipWake _ | .hostFrameArrival _ | .hostRxGapTimeout
  | .hostRxFramingError | .unknownKind | .identify | .status | .subscribe | .supervise | .readFaults
  | .clearFaults | .clearCause | .resetPart | .setPowerMode | .setSuction | .driveStatus | .setModePower
  | .setLimits | .lockLimits | .budgetStatus | .packStatus | .setPack | .clearProtection | .dirtStatus
  | .setDirtLevels | .clearBin | .calibrateFloor | .attachmentStatus | .setAttachment | .rollRestart
  | .dockStatus | .setEvacuation | .chargerStatus | .setDockSupply | .startEvacuation | .storeRead
  | .storeWrite | .storeErase | .storeStatus | .frameTransmitDone | .supervisionExpiry | .standbyTimerExpiry
  | .zeroCrossing _ | .crossingWindowExpiry | .commutation | .forcedCommutation | .alignTimerExpiry
  | .rampTimerExpiry | .coastTimerExpiry | .crossingTimerExpiry | .faultTimerExpiry | .scanTimerExpiry
  | .dsgOcClearExpiry | .piezoPulse | .debrisWindow _ _ | .bandTimerExpiry | .waitTimerExpiry
  | .contactRxGapTimeout | .contactFrameInvalid _ | .hailTaken _ | .pollTaken _ | .stickReplyStart
  | .contactFrameSent | .silenceTimerExpiry | .hailTimerExpiry | .pollTimerExpiry | .replyWindowExpiry
  | .answerAccepted _ | .needAccepted _ | .restartTimerExpiry | .durationTimerExpiry | .storeWriteComplete _
  | .storeEraseComplete _ | .compactionStepComplete _ | .hostByteArrival _ | .contactByteArrival _
  | .stickReplySent => true

end Sys2Proof
end

