-- ==== Sys2Proof/Tests/Slice0.lean ====
section
/-! SUPPORT. Tests: one ill-formed operand for each check, a concrete state for the hypotheses of every clause of the
statements with one or two fields of what the command makes of it, and the manual's worked examples. -/

namespace Sys2Proof.Tests

open Sys2Proof Sys2Proof.Machine

/-! ### Helpers -/

-- The tests below wait for the kernel one by one: elaborated side by side, each holds a thread while it waits.
set_option Elab.async false

/-- What a command makes of a state. -/
def after (c : Instr) (s : State) : State :=
  match exec c s with
  | .next t => t
  | .fault _ => s
  | .refused _ => s

/-- The next state that an outcome gives. -/
def nextOf : Host.Outcome State Fault Refusal → Option State
  | .next t => some t
  | .fault _ => none
  | .refused _ => none

/-- A request stands alone in the receive queue. -/
def asks (kind : Nat) (p : List Nat) (s : State) : State :=
  { s with host := { s.host with rxq := [⟨BitVec.ofNat 8 kind, p.map (BitVec.ofNat 8)⟩] } }

/-- The KIND and the payload of the frame that the transmitter is sending. -/
def answer (t : State) : List Byte := (((t.host.tx.map Sending.wire).getD []).drop 2).dropLast.dropLast

theorem heads {s : State} {code : Nat} {kind : Byte} {p : List Byte} {rest : List HostFrame}
    (h : s.ctl.power ≠ .ship ∧ s.ctl.shipDecided = false ∧ s.host.replies.length < 4 ∧ s.host.rxq = ⟨kind, p⟩ :: rest ∧
      requestCode kind = some code) : Spec.Heads s code kind p rest :=
  ⟨h.1, h.2.1, h.2.2.1, h.2.2.2.1, h.2.2.2.2⟩

/-- A detached stick at part time 1,000 with a pack record, both permissions and nothing running. -/
def ready : State :=
  { State.reset with
    ctl := { State.reset.ctl with partTime := 1000, standbyTimer := some 31000 }
    gov := { State.reset.gov with allowance := some 25000 }
    pack := { State.reset.pack with
      record := some ⟨990, List.replicate 6 (.num 3700), .num 22200, .num (-500), .num 250, .num 260, .num 300⟩,
      q := 4500000, valid := true, scanTimer := some 1000, lastScan := 990 }
    prot := { State.reset.prot with level := .normal, dischargeOk := true, chargeOk := true, evaluated := true }
    att := { State.reset.att with sampleTimer := some 1050 } }

/-- The same state with another drive record. -/
def drv (f : Drive → Drive) (s : State) : State := { s with drive := f s.drive }

/-- The stick's motor in RUN at 20,000 rpm for the host, with the roll drive in RUN. -/
def running : State :=
  { ready with
    drive := { ready.drive with
      state := .run, step := 2, duty := 1000, heldDuty := some 1010, speed := some 20000, owner := .host, mode := .med,
      ring := [5000, 5000, 5000, 5000, 5000, 5000], xref := some ⟨100000, 5000⟩, commIn := some 2500 }
    gov := { ready.gov with prev := 1010, a := 66191360, timer := some 1001 }
    roll := { ready.roll with state := .run, appliedDuty := 800, jamCount := 1 }
    att := { ready.att with result := .entry 0, voltage := .num 500 }
    debris := { ready.debris with windowTimer := some 1050 }
    ctl := { ready.ctl with standbyTimer := none }
    host := { ready.host with supTimer := some 1500 } }

/-- The stick's motor in RAMP with a forced period of 5,000 ticks. -/
def ramping : State :=
  drv (fun d => { d with state := .ramp, forcedPeriod := some 5000, forcedIn := some 5000, commIn := none, heldDuty := none,
                         rampTimer := some 2500, duty := 410 }) running

/-- A vacant dock at part time 1,000 with nothing running. -/
def vacant : State :=
  { ready with ctl := { ready.ctl with role := .dock }, pack := { ready.pack with record := none, scanTimer := none } }

/-- A dock with another session record. -/
def dck (f : Dock → Dock) (s : State) : State := { s with dock := f s.dock }

/-- What a dock knows of a bound stick, with a count of missed POLLs. -/
def bond (misses : Nat) : DockBinding := ⟨6, some 500, 100, .normal, none, 0, misses, 0, none, 900⟩

/-- A dock that charges a bound stick with 1,500 mA of 2,000 mA. -/
def charging : State :=
  { vacant with
    ctl := { vacant.ctl with standbyTimer := none }
    dock := { vacant.dock with state := .charging, contactI := some 3, pollTimer := some 1500, binding := some (bond 0) }
    charger := { vacant.charger with state := .cc, target := 25200, needLimit := 2000, setpoint := 1500,
                                     vOut := some 24000, iOut := .num 1500, supply := some 36000 }
    gov := { vacant.gov with timer := some 1001 } }

/-- The contact receiver has heard all of a frame but its last byte. -/
def hearing (wire : List Byte) (s : State) : State :=
  { s with contact := { s.contact with rx := some wire.tail.dropLast, rxGap := some 1005 } }

/-- The last byte of a frame. -/
def lastOf (wire : List Byte) : Byte := wire.getLast?.getD 0

/-! ### Operands: one refused for each check -/

theorem test_wf_busCurrent_below_refused : (Instr.busCurrentReading .below).wf = false := by decide
theorem test_wf_rollCurrent_negative_refused : (Instr.rollCurrentReading (.num (-1))).wf = false := by decide
theorem test_wf_idSample_3301_refused : (Instr.idSample (.num 3301)).wf = false := by decide
theorem test_wf_governorPeriod_current_refused : (Instr.governorPeriod [⟨none, .absent, none⟩]).wf = false := by decide
theorem test_wf_chargerReading_65535_refused : (Instr.chargerReading ⟨some 65535, .num 0, none⟩).wf = false := by decide
theorem test_wf_chargerReading_supply_refused : (Instr.chargerReading ⟨none, .num 0, some 65535⟩).wf = false := by decide
theorem test_wf_scan_seven_taps_refused :
    (Instr.packRecordPublication ⟨[1, 2, 3, 4, 5, 6, 7], 0, 0, none, none, none⟩).wf = false := by decide
theorem test_wf_scan_negative_pack_refused :
    (Instr.packRecordPublication ⟨[1, 2, 3, 4, 5, 6, 7, 8], -1, 0, none, none, none⟩).wf = false := by decide
theorem test_wf_contactVoltage_65535_refused : (Instr.contactVoltageSample 65535).wf = false := by decide
theorem test_wf_contactCurrent_65535_refused : (Instr.contactCurrentSample 65535).wf = false := by decide
theorem test_wf_len_1_refused : (Instr.hostRxLenInvalid 1).wf = false ∧ (Instr.hostRxLenInvalid 130).wf = true := by decide

/-- No row of the table gives bits, so no word spells a command. -/
theorem test_decode_no_bits : decodeTableWord 8 0 = none ∧ decodeTableWord 16 0xA501 = none := by decide

/-! ### The step, the invariants and the resets -/

theorem test_step_runs_the_front :
    nextOf (step (ready.withPending [.piezoPulse, .clearBin])) = some (after .piezoPulse (ready.withPending [.clearBin])) := by
  decide +kernel

/-- A part in SHIP. -/
def shipped : State := { ready with ctl := { ready.ctl with power := .ship, standbyTimer := none } }

theorem test_idle_step : ready.pending = [] ∧ ready.ctl.power ≠ .ship ∧ shipped.ctl.power = .ship ∧
    nextOf (step ready) = some (tick ready) ∧ (tick ready).ctl.partTime = 1001 ∧ nextOf (step shipped) = some shipped := by
  decide +kernel

theorem test_ship_is_quiet : shipped.ctl.power = .ship ∧ Spec.isReset .identify = false ∧
    nextOf (exec .identify shipped) = some shipped := by decide +kernel

theorem test_pin_reset_is_no_power_on : Spec.isPowerOn .pinReset = false ∧
    nextOf (exec .pinReset ready) = some (after .pinReset ready) ∧ (after .pinReset ready).ctl.partTime = 1000 := by
  decide +kernel

/-- A stick that cleans, with a command waiting, a record in the store, an entry in the ring and a limit lock. -/
def busy : State :=
  { running with
    ctl := { running.ctl with
      ring := [⟨6, 900, .hostLink, .hostSilent, .num 500, none⟩], nextSeq := 7,
      lock := some ⟨running.gov.limits, 400⟩, cause := ⟨false, true, false, false, .pin⟩ }
    store := { running.store with mem := [⟨512, 1⟩, ⟨513, 0⟩], active := some 1, op := some ⟨.write, 1, 5, 0x31, [1, 2], 0, 0⟩ }
    debris := { running.debris with s := 400, d := some 100, b := 500000, binFull := true }
    pending := [.commutation] }

theorem test_stick_meets_the_invariants : Safety.storeCanonical busy ∧ Safety.linkBounded busy ∧
    Safety.ringConsecutive busy ∧ Safety.limitsBounded busy ∧ Safety.dutyBounded busy ∧ Safety.motorPermitted busy ∧
    Safety.dirtBounded busy ∧ Safety.chargeBounded busy ∧ Safety.balanceAllowed busy ∧ Safety.permissionsFollow busy ∧
    nextOf (step busy) = some ((after .commutation (busy.withPending []))) := by
  refine ⟨?_, ?_, ?_, ?_, ?_, ?_, ?_, ?_, ?_, ?_, ?_⟩ <;> decide +kernel

theorem test_held_duty_applied :
    (nextOf (step busy)).map (fun t => (t.drive.duty, t.pending)) = some (1010, []) := by
  decide +kernel

theorem test_dock_meets_the_invariants : Safety.chargerBounded (charging.withPending [.pollTimerExpiry]) ∧
    (nextOf (step (charging.withPending [.pollTimerExpiry]))).map (fun t => t.contact.tx.isSome) = some true := by decide +kernel

theorem test_charge_witness : ready.pack.valid = true ∧ State.reset.pack.valid = false ∧ ready.soc = some 500 := by
  decide +kernel

theorem test_power_on_invalid_strap : (after (.powerOnReset .stick 3) busy).ctl.ring.length = 1 ∧
    (after (.powerOnReset .stick 3) busy).prot.level = .lockout ∧
    (after (.powerOnReset .dock 3) busy).ctl.ring = [] := by decide +kernel

theorem test_warm_resets : Spec.WarmReset busy .pinReset .pin ∧ busy.ctl.lock = some ⟨busy.gov.limits, 400⟩ ∧
    (after .pinReset busy).host.supPeriod = 400 ∧ (after .pinReset busy).ctl.ring = busy.ctl.ring ∧
    Spec.WarmReset shipped (.shipWake .wakePin) .shipWake ∧ Spec.WarmReset shipped (.shipWake .contact) .shipWake ∧
    (after (.shipWake .contact) shipped).ctl.power = .active :=
  ⟨.pin, by decide +kernel, by decide +kernel, by decide +kernel, .wakePin (by decide +kernel),
    .wakeContact (by decide +kernel) (by decide +kernel), by decide +kernel⟩

theorem test_reset_part : Spec.Heads (asks 0x08 [] busy) 0x08 0x08 [] [] ∧
    answer (after .resetPart (asks 0x08 [] busy)) = [0x88, 0x00] ∧
    Spec.WarmReset (after .resetPart (asks 0x08 [] busy)) .frameTransmitDone .request ∧
    (after .frameTransmitDone (after .resetPart (asks 0x08 [] busy))).ctl.cause = ⟨false, true, true, false, .request⟩ :=
  ⟨heads (by decide +kernel), by decide +kernel, .request (hostWire 0x88 [0x00]) (by decide +kernel) (by decide +kernel),
    by decide +kernel⟩

theorem test_reset_part_refused : Spec.Heads (asks 0x08 [1] busy) 0x08 0x08 [1] [] ∧
    answer (after .resetPart (asks 0x08 [1] busy)) = [0x88, 0x12] ∧
    (after .frameTransmitDone (after .resetPart (asks 0x08 [1] busy))).ctl.cause = busy.ctl.cause :=
  ⟨heads (by decide +kernel), by decide +kernel, by decide +kernel⟩

theorem test_reset_part_with_summary : Spec.Heads (asks 0x48 [] { busy with host := { busy.host with linkError := true } })
      0x08 0x48 [] [] ∧
    (answer (after .resetPart (asks 0x48 [] busy))).take 2 = [0xC8, 0x00] ∧
    ((after .resetPart (asks 0x48 [] busy)).host.tx.map Sending.resets) = some true ∧
    (after .resetPart (asks 0x48 [] { busy with host := { busy.host with linkError := true } })).host.linkError = false :=
  ⟨heads (by decide +kernel), by decide +kernel, by decide +kernel, by decide +kernel⟩

theorem test_strap_meets_the_invariant : (after (.powerOnReset .stick 3) running).ctl.cells = 3 ∧
    Safety.chargeBounded (after (.powerOnReset .stick 3) running) ∧
    (after (.powerOnReset .stick 3) running).pack.q = 0 := by
  decide +kernel

/-! ### What follows an event, and faults -/

/-- A transmitter with replies and reports waiting for it. -/
def waiting (tx : Option Sending) (replies : List Reply) : State :=
  { ready with host := { ready.host with tx := tx, replies := replies, reports := [.mode .active .request] } }

theorem test_followed_up : ready.ctl.shipDecided = false ∧
    (settle (waiting none [⟨0x81, [0x00], false⟩])).host.tx = some ⟨hostWire 0x81 [0x00], false⟩ ∧
    (settle (waiting none [])).host.tx = some ⟨reportWire (.mode .active .request), false⟩ ∧
    (settle (waiting (some ⟨[1], false⟩) [])).host.reports = [.mode .active .request] ∧
    running.host.supTimer = some 1500 ∧ running.supervised = true ∧ running.gov.timer = some 1001 ∧ running.govRuns = true ∧
    (settle running).host.supTimer = some 1500 := by decide +kernel

/-- A part at rest with a standby timer and an ID sample timer. -/
def timersOf (standby sample : Option Ms) : State :=
  { ready with ctl := { ready.ctl with standbyTimer := standby }, att := { ready.att with sampleTimer := sample } }

theorem test_timers_keep_due : (timersOf (some 1700) (some 1020)).standbyRuns = true ∧
    (timersOf (some 1700) (some 1020)).samplesId = true ∧
    (settle (timersOf (some 1700) (some 1020))).ctl.standbyTimer = some 1700 ∧
    (settle (timersOf (some 1700) (some 1020))).att.sampleTimer = some 1020 ∧
    (settle (timersOf none none)).ctl.standbyTimer = some (ready.ctl.partTime + 30000) ∧
    (settle (timersOf none none)).att.sampleTimer = some (ready.ctl.partTime + 50) ∧
    (settle { running with host := { running.host with supTimer := none } }).host.supTimer = some 1500 ∧
    (settle { running with gov := { running.gov with timer := none } }).gov.timer = some 1001 := by decide +kernel

/-- A part that has made the SHIP decision, with a cell bleeding and a frame on the contact link. -/
def decided (tx : Option Sending) : State :=
  { ready with
    ctl := { ready.ctl with shipDecided := true }, host := { ready.host with tx := tx },
    pack := { ready.pack with balance := [1] }, contact := { ready.contact with tx := some [1] } }

theorem test_ship_entry : (decided none).ctl.shipDecided = true ∧ (settle (decided none)).ctl.power = .ship ∧
    (settle (decided none)).pack.balance = [] ∧ (settle (decided none)).contact.tx = none ∧
    (settle (decided (some ⟨[1], false⟩))).ctl.power = .active ∧ Spec.Sends (decided (some ⟨[1], false⟩)) ∧
    (settle (decided (some ⟨[1], false⟩))).pack.balance = [1] := by
  refine ⟨?_, ?_, ?_, ?_, ?_, fun _ => rfl, ?_⟩ <;> decide +kernel

/-- A part with readings in the governor period in progress. -/
def sampled (c : CurrentSum) (s : State) : State := { s with gov := { s.gov with busSamples := c, rollSamples := c } }

theorem test_period_cut_off : ready.govRuns = false ∧ (settle (sampled ⟨30, 4, false⟩ ready)).gov.busSamples = ⟨0, 0, false⟩ ∧
    (settle (sampled ⟨30, 4, false⟩ ready)).gov.rollSamples = ⟨0, 0, false⟩ ∧
    (settle (sampled ⟨30, 4, false⟩ running)).gov.rollSamples = ⟨30, 4, false⟩ := by decide +kernel

theorem test_transmit_done : (waiting (some ⟨[1], false⟩) []).ctl.power ≠ .ship ∧
    (after .frameTransmitDone (waiting (some ⟨[1], false⟩) [])).host.reports = [] := by decide +kernel

/-- A part whose ring holds a number of entries. -/
def ringed (n : Nat) : State :=
  { ready with ctl := { ready.ctl with
      ring := (List.range n).map (fun i => ⟨BitVec.ofNat 32 i, 0, .store, .full, .num 0, none⟩), nextSeq := BitVec.ofNat 32 n } }

theorem test_fault_entries : (ringed 15).ctl.ring.length < 16 ∧ (ringed 16).ctl.ring.length = 16 ∧
    (ringed 16).host.mask.getLsbD 5 = true ∧ (ringed 16).host.reports.length < 8 ∧
    (appendFault .charger .ovp .above none (ringed 16)).ctl.ring.length = 16 ∧
    ((appendFault .charger .ovp .above none (ringed 16)).ctl.ring.map (fun e => e.seq)).head? = some 1 ∧
    (appendFault .charger .ovp .above none (ringed 15)).ctl.ring.length = 16 := by decide +kernel

/-- A stick with a number of queued reports, which it subscribes to only in part. -/
def reporting (n : Nat) : State :=
  { ready with host := { ready.host with mask := 0x20, reports := List.replicate n (.mode .active .idle) } }

theorem test_reports_handed : (reporting 8).host.mask.getLsbD (reportType (.done 0x23 .ok 7) - 1) = false ∧
    handReport (.done 0x23 .ok 7) (reporting 8) = reporting 8 ∧
    (reporting 7).host.mask.getLsbD (reportType (.fault ⟨0, 0, .store, .full, .num 0, none⟩) - 1) = true ∧
    (handReport (.fault ⟨0, 0, .store, .full, .num 0, none⟩) (reporting 7)).host.reports.length = 8 ∧
    (handReport (.fault ⟨0, 0, .store, .full, .num 0, none⟩) (reporting 7)).host.overrun = false ∧
    (handReport (.fault ⟨0, 0, .store, .full, .num 0, none⟩) (reporting 8)).host.reports.length = 8 ∧
    (handReport (.fault ⟨0, 0, .store, .full, .num 0, none⟩) (reporting 8)).host.overrun = true := by decide +kernel

/-- An entry with a value that a 16-bit number holds, and one beyond it. -/
theorem test_entry_values :
    (appendFault .charger .ocp (.num 32767) (some (.num 2000)) ready).ctl.ring.map (fun e => (e.value, e.second))
      = [(.above, some (.num 2000))] ∧
    (appendFault .charger .ocp (.num (-32766)) none ready).ctl.ring.map (fun e => e.value) = [.num (-32766)] := by
  decide +kernel

/-! ### Host link and its requests -/

/-- The frame of the manual's example: an IDENTIFY without a summary is A5 01 01 1F 3E. -/
theorem test_host_wire_identify : hostWire 0x01 [] = [0xA5, 0x01, 0x01, 0x1F, 0x3E] := by decide +kernel

theorem test_host_frame_arrives : (List.replicate 128 (0 : Byte)).length ≤ 128 ∧ ready.host.rx = none ∧
    ready.host.rxq.length < 4 ∧ ready.ctl.power ≠ .ship ∧
    (Spec.runs ((hostWire 0x30 [0x01]).map Instr.hostByteArrival) ready).map (fun t => t.host.rxq)
      = some [⟨0x30, [0x01]⟩] := by decide +kernel

/-- A running drive at the part time at which its supervision timer is due. -/
def silenced : State := { running with ctl := { running.ctl with partTime := 1500 } }

theorem test_supervision_expiry : silenced.host.supTimer = some 1500 ∧ silenced.roll.state ≠ .off ∧
    (silenced.ctl.partTime - 1500).toNat < 2147483648 ∧ 2147483648 ≤ (running.ctl.partTime - 1500).toNat ∧
    silenced.host.supPeriod ≤ 32766 ∧ (after .supervisionExpiry silenced).drive.state = .coast ∧
    (after .supervisionExpiry silenced).roll.jamCount = 0 ∧
    (after .supervisionExpiry silenced).ctl.ring
      = [⟨0, 1500, .hostLink, .hostSilent, .num 500, some (.num 3)⟩] := by decide +kernel

theorem test_record_lengths : ready.cellCount
      = ((ready.pack.record.map PackRecord.cells).getD (List.replicate ready.cellCount .absent)).length ∧
    ready.debris.floors.length = 8 ∧ ready.att.entries.length = 8 ∧ (packStatusFields ready).length = 54 ∧
    (driveStatusFields running).length = 56 := by decide +kernel

theorem test_status : Spec.Heads (asks 0x02 [] running) 0x02 0x02 [] [] ∧
    Spec.Heads (asks 0x42 [0] running) 0x02 0x42 [0] [] ∧
    (answer (after .status (asks 0x02 [] running))).take 6 = [0x82, 0x00, 0x23, 0x00, 0x07, 0x00] ∧
    (answer (after .status (asks 0x42 [0] running))).take 2 = [0xC2, 0x12] :=
  ⟨heads (by decide +kernel), heads (by decide +kernel), by decide +kernel, by decide +kernel⟩

theorem test_read_faults : Spec.Heads (asks 0x05 [0, 0, 0, 0, 8] (ringed 16)) 0x05 0x05 [0, 0, 0, 0, 8] [] ∧
    (answer (after .readFaults (asks 0x05 [0, 0, 0, 0, 1] (ringed 16)))).take 8 = [0x85, 0, 16, 16, 0, 0, 0, 1] ∧
    ((answer (after .readFaults (asks 0x05 [0, 0, 0, 0, 8] (ringed 16)))).getD 7 0 = 8) ∧
    answer (after .readFaults (asks 0x05 [0, 0, 0, 0, 0] ready)) = [0x85, 0x14] ∧
    answer (after .readFaults (asks 0x05 [0, 0, 0, 0, 9] ready)) = [0x85, 0x14] ∧
    answer (after .readFaults (asks 0x05 [0] ready)) = [0x85, 0x12] :=
  ⟨heads (by decide +kernel), by decide +kernel, by decide +kernel, by decide +kernel, by decide +kernel, by decide +kernel⟩

/-- A part whose limit lock is set. -/
def locked (s : State) : State := { s with ctl := { s.ctl with lock := some ⟨s.gov.limits, 500⟩ } }

theorem test_subscribe : Spec.Heads (asks 0x03 [0xFF] ready) 0x03 0x03 [0xFF] [] ∧
    (after .subscribe (asks 0x03 [0xFF] ready)).host.mask = 0xFF ∧
    answer (after .subscribe (asks 0x03 [] ready)) = [0x83, 0x12] :=
  ⟨heads (by decide +kernel), by decide +kernel, by decide +kernel⟩

theorem test_supervise : Spec.Heads (asks 0x04 [99, 0] running) 0x04 0x04 [99, 0] [] ∧ u16At [99, 0] 0 ≠ 0xFFFF ∧
    running.ctl.lock = none ∧ (locked running).ctl.lock.isSome = true ∧
    (after .supervise (asks 0x04 [99, 0] running)).host.supTimer = some 1100 ∧
    answer (after .supervise (asks 0x04 [99, 0] running)) = [0x84, 0x02] ∧
    answer (after .supervise (asks 0x04 [0xD0, 7] running)) = [0x84, 0x00] ∧
    (after .supervise (asks 0x04 [0xD1, 7] running)).host.supPeriod = 2000 ∧
    answer (after .supervise (asks 0x04 [99, 0] (locked running))) = [0x84, 0x17] := by
  refine ⟨heads ?_, ?_, ?_, ?_, ?_, ?_, ?_, ?_, ?_⟩ <;> decide +kernel

theorem test_lock_limits : Spec.Heads (asks 0x14 [] ready) 0x14 0x14 [] [] ∧ ready.ctl.lock = none ∧
    (after .lockLimits (asks 0x14 [] ready)).ctl.lock = some ⟨⟨25000, 2000, 4200, 3968⟩, 500⟩ ∧
    answer (after .lockLimits (asks 0x14 [] (locked ready))) = [0x94, 0x00] ∧
    answer (after .lockLimits (asks 0x14 [1] ready)) = [0x94, 0x12] := by
  refine ⟨heads ?_, ?_, ?_, ?_, ?_⟩ <;> decide +kernel

theorem test_unknown_kinds : answer (after .unknownKind (asks 0x00 [] ready)) = [0xFF, 0x11, 0x00] ∧
    answer (after .unknownKind (asks 0x40 [] ready)) = [0xFF, 0x11, 0x40] ∧
    answer (after .unknownKind (asks 0x80 [] ready)) = [0xFF, 0x11, 0x80] ∧
    0x3F % 0x40 ∉ assignedCodes ∧ answer (after .unknownKind (asks 0x3F [] ready)) = [0xFF, 0x11, 0x3F] := by
  decide +kernel

theorem test_stages : setPackSpec.accepts .dock = false ∧ setPackSpec.accepts .stick = true ∧
    setPackSpec.lengthOk [] = false ∧ setPackSpec.lengthOk [0xFF, 0xFF, 0] = true ∧
    setPackSpec.canonical [0xFF, 0xFF, 0] = false := by decide +kernel

theorem test_wrong_role : Spec.Heads (asks 0x10 [9, 9] vacant) 0x10 0x10 [9, 9] [] ∧
    answer (after .setSuction (asks 0x10 [9, 9] vacant)) = [0x90, 0x15] ∧
    Spec.Heads (asks 0x26 [] vacant) 0x26 0x26 [] [] ∧
    answer (after .rollRestart (asks 0x26 [] vacant)) = [0xA6, 0x15] ∧
    Spec.Heads (asks 0x2E [] ready) 0x2E 0x2E [] [] ∧
    answer (after .startEvacuation (asks 0x2E [] ready)) = [0xAE, 0x15] :=
  ⟨heads (by decide +kernel), by decide +kernel, heads (by decide +kernel), by decide +kernel, heads (by decide +kernel),
    by decide +kernel⟩

/-- The part in STANDBY. -/
def asleep : State := { ready with ctl := { ready.ctl with power := .standby, standbyTimer := none, lowCells := 2 } }

theorem test_taking_wakes : ready.ctl.power = .active ∧ asleep.ctl.power = .standby ∧ asleep.ctl.shipDecided = false ∧
    (beginTaking [] asleep).ctl.power = .active ∧ (beginTaking [] asleep).pack.scanTimer = some 1000 ∧
    (beginTaking [] ready).ctl.standbyTimer = some 31000 := by decide +kernel

theorem test_set_power_mode : Spec.Heads (asks 0x09 [0] ready) 0x09 0x09 [0] [] ∧
    Spec.Heads (asks 0x09 [1] ready) 0x09 0x09 [1] [] ∧ Spec.Heads (asks 0x09 [2] ready) 0x09 0x09 [2] [] ∧
    ready.idle = true ∧ running.idle = false ∧ ready.packRuns = true ∧
    answer (after .setPowerMode (asks 0x09 [0] ready)) = [0x89, 0x00] ∧
    (after .setPowerMode (asks 0x09 [1] ready)).pack.scanTimer = some 1990 ∧
    answer (after .setPowerMode (asks 0x09 [1] running)) = [0x89, 0x16] ∧
    (after .setPowerMode (asks 0x09 [2] ready)).ctl.shipDecided = true ∧
    (after .frameTransmitDone (after .setPowerMode (asks 0x09 [2] ready))).ctl.power = .ship := by
  refine ⟨heads ?_, heads ?_, heads ?_, ?_, ?_, ?_, ?_, ?_, ?_, ?_, ?_⟩ <;> decide +kernel

theorem test_ship_hypotheses : ready.ctl.role = .stick ∧ ready.stick.state = .detached ∧ ready.drive.state = .off ∧
    ready.roll.state = .off ∧ ready.debris.cal = none ∧ ready.store.op = none := by decide +kernel

theorem test_standby_expiry : ready.ctl.standbyTimer = some 31000 ∧
    (after .standbyTimerExpiry ready).ctl.power = .standby ∧ (after .standbyTimerExpiry ready).ctl.standbyTimer = none := by
  decide +kernel

/-- The host receiver holds the first bytes of a frame. -/
def received (bytes : List Byte) (s : State) : State := { s with host := { s.host with rx := some bytes } }

/-- The arrival of a frame with a right check at the instant of the expiry, taken first. -/
theorem test_supervision_race : ready.host.supTimer = none ∧ silenced.supervised = true ∧
    silenced.host.supPeriod = 500 ∧
    (crc16 [0x01, 0x01]).toNat = u16At [0x01, 0x01, 0x1F, 0x3E] 2 ∧
    (after (.hostFrameArrival 0x3E) (received [0x01, 0x01, 0x1F] silenced)).host.supTimer = some 2000 ∧
    (after .supervisionExpiry (after (.hostFrameArrival 0x3E) (received [0x01, 0x01, 0x1F] silenced))).drive.state
      = .run := by decide +kernel

theorem test_receiver_gaps : (received [1] ready).host.rx = some [1] ∧ (received [] ready).host.rx = some [] ∧
    (after .hostRxGapTimeout (received [1] ready)).host.rx = none ∧
    (after .hostRxFramingError (received [1] ready)).host.linkError = true ∧
    (after (.hostRxLenInvalid 0) (received [] ready)).host.linkError = true ∧
    (after (.hostRxLenInvalid 130) (received [] ready)).host.rx = none := by decide +kernel

theorem test_supervise_refused : Spec.Heads (asks 0x04 [0xFF, 0xFF] (locked running)) 0x04 0x04 [0xFF, 0xFF] [] ∧
    answer (after .supervise (asks 0x04 [0xFF, 0xFF] (locked running))) = [0x84, 0x13] ∧
    answer (after .supervise (asks 0x04 [1] running)) = [0x84, 0x12] ∧
    answer (after .supervise (asks 0x04 [1, 2, 3] running)) = [0x84, 0x12] :=
  ⟨heads (by decide +kernel), by decide +kernel, by decide +kernel, by decide +kernel⟩

/-- Four requests wait. -/
def full (s : State) : State := { s with host := { s.host with rxq := List.replicate 4 ⟨0x02, []⟩ } }

theorem test_check_byte : (received [0x01, 0x01, 0x1F] running).host.rx = some ((0x01 : Byte) :: [0x01, 0x1F]) ∧
    (after (.hostFrameArrival 0x3E) (received [0x01, 0x01, 0x1F] running)).host.rxq = [⟨0x01, []⟩] ∧
    (after (.hostFrameArrival 0x3E) (received [0x01, 0x01, 0x1F] (full running))).host.rxq.length = 4 ∧
    (after (.hostFrameArrival 0x3E) (received [0x01, 0x01, 0x1F] (full running))).host.linkError = true ∧
    (after (.hostFrameArrival 0x3F) (received [0x01, 0x01, 0x1F] running)).host.errors = 1 ∧
    (after (.hostByteArrival 0x3E) (received [0x01, 0x01, 0x1F] running)).host.supTimer = some 1500 := by
  decide +kernel

theorem test_status_requests : Spec.Heads (asks 0x01 [] ready) 0x01 0x01 [] [] ∧ ready.ctl.role ∈ [Role.stick, .dock] ∧
    (answer (after .identify (asks 0x01 [] ready))).length = 13 ∧
    (answer (after .driveStatus (asks 0x11 [] ready))).take 2 = [0x91, 0x00] ∧
    (answer (after .budgetStatus (asks 0x15 [] ready))).length = 107 ∧
    (answer (after .packStatus (asks 0x58 [] ready))).length = 60 ∧
    (answer (after .dirtStatus (asks 0x20 [] ready))).take 2 = [0xA0, 0x00] ∧
    (answer (after .attachmentStatus (asks 0x24 [] ready))).take 2 = [0xA4, 0x00] ∧
    (answer (after .storeStatus (asks 0x33 [] ready))).take 2 = [0xB3, 0x00] := by
  refine ⟨heads ?_, ?_, ?_, ?_, ?_, ?_, ?_, ?_, ?_⟩ <;> decide +kernel

theorem test_dock_status : Spec.Heads (asks 0x28 [] vacant) 0x28 0x28 [] [] ∧
    Spec.Heads (asks 0x28 [] ready) 0x28 0x28 [] [] ∧ Spec.Heads (asks 0x2C [] vacant) 0x2C 0x2C [] [] ∧
    (after .dockStatus (asks 0x28 [] vacant)).freeCount = 1 ∧
    (answer (after .dockStatus (asks 0x28 [] vacant))).length = 49 ∧
    (answer (after .chargerStatus (asks 0x2C [] vacant))).take 2 = [0xAC, 0x00] := by
  refine ⟨heads ?_, heads ?_, heads ?_, ?_, ?_, ?_⟩ <;> decide +kernel

theorem test_clear_requests : Spec.Heads (asks 0x06 [] (ringed 3)) 0x06 0x06 [] [] ∧
    (after .clearFaults (asks 0x06 [] (ringed 3))).ctl.ring = [] ∧
    (after .clearFaults (asks 0x06 [] (ringed 3))).ctl.nextSeq = 3 ∧
    answer (after .clearFaults (asks 0x06 [1] ready)) = [0x86, 0x12] ∧
    Spec.Heads (asks 0x07 [15] busy) 0x07 0x07 [15] [] ∧
    (after .clearCause (asks 0x07 [15] busy)).ctl.cause = ⟨false, false, false, false, .pin⟩ ∧
    answer (after .clearCause (asks 0x07 [16] busy)) = [0x87, 0x14] ∧
    answer (after .clearCause (asks 0x07 [] busy)) = [0x87, 0x12] := by
  refine ⟨heads ?_, ?_, ?_, ?_, heads ?_, ?_, ?_, ?_⟩ <;> decide +kernel

/-! ### Suction drive -/

theorem test_set_suction_starts : Spec.Heads (asks 0x10 [3] ready) 0x10 0x10 [3] [] ∧
    (3 : Nat) = suctionModeCode .boost ∧ ready.stick.state = .detached ∧ ready.prot.dischargeOk = true ∧
    ready.drive.state = .off ∧ (after .setSuction (asks 0x10 [3] ready)).drive.state = .align ∧
    (after .setSuction (asks 0x10 [3] ready)).drive.alignTimer = some 1040 ∧
    (after .setSuction (asks 0x10 [4] running)).drive.mode = .auto ∧ running.drive.state.drives = true ∧
    running.debris.cal = none := by
  refine ⟨heads ?_, ?_, ?_, ?_, ?_, ?_, ?_, ?_, ?_, ?_⟩ <;> decide +kernel

/-- A drive in FAULT, released or not. -/
def faulted (released : Bool) : State :=
  drv (fun d => { d with state := .fault, faultCause := some .stall, faultTimer := some 3000, released := some released }) ready

theorem test_set_suction_denied : (faulted false).drive.state = .fault ∧
    answer (after .setSuction (asks 0x10 [1] (faulted false))) = [0x90, 0x16] ∧
    answer (after .setSuction (asks 0x10 [1] { ready with stick := { ready.stick with state := .docked } })) = [0x90, 0x16] ∧
    answer (after .setSuction (asks 0x10 [1] { ready with prot := { ready.prot with dischargeOk := false } })) = [0x90, 0x16]
    := by decide +kernel

theorem test_set_suction_off : Spec.Heads (asks 0x10 [0] running) 0x10 0x10 [0] [] ∧ running.drive.state = .run ∧
    running.drive.owner = .host ∧ (after .setSuction (asks 0x10 [0] running)).drive.state = .coast ∧
    (after .setSuction (asks 0x10 [0] running)).roll.state = .off ∧
    answer (after .setSuction (asks 0x10 [5] running)) = [0x90, 0x14] ∧
    answer (after .setSuction (asks 0x10 [] running)) = [0x90, 0x12] := by
  refine ⟨heads ?_, ?_, ?_, ?_, ?_, ?_, ?_⟩ <;> decide +kernel

/-- A drive in ALIGN. -/
def aligning : State :=
  drv (fun d => { d with state := .align, duty := 330, alignTimer := some 1040, owner := .host, mode := .eco }) ready

theorem test_align_expiry : aligning.drive.state = .align ∧ aligning.drive.alignTimer.isSome = true ∧
    (after .alignTimerExpiry aligning).drive.state = .ramp ∧ (after .alignTimerExpiry aligning).drive.step = 1 ∧
    (after .alignTimerExpiry aligning).drive.forcedIn = some 50000 ∧
    (after .alignTimerExpiry aligning).drive.rampTimer = some 2500 := by decide +kernel

theorem test_forced_commutation : ramping.drive.state = .ramp ∧ ramping.drive.forcedPeriod = some 5000 ∧
    ramping.drive.forcedIn.isSome = true ∧ (after .forcedCommutation ramping).drive.forcedPeriod = some 5000 ∧
    (after .forcedCommutation (drv (fun d => { d with forcedPeriod := some 50000 }) ramping)).drive.forcedPeriod
      = some 49219 := by decide +kernel

theorem test_ramp_crossings : ramping.drive.xref = some ⟨100000, 5000⟩ ∧
    (drv (fun d => { d with xref := none }) ramping).drive.xref = none ∧
    (after (.zeroCrossing 7) (drv (fun d => { d with xref := none }) ramping)).drive.xref = some ⟨7, 0⟩ ∧
    (after (.zeroCrossing 103749) ramping).drive.validCount = 0 ∧
    (after (.zeroCrossing 103750) ramping).drive.validCount = 1 ∧
    (after (.zeroCrossing 106250) ramping).drive.validCount = 1 ∧
    (after (.zeroCrossing 106251) ramping).drive.validCount = 0 ∧
    (after .crossingWindowExpiry ramping).drive.xref = none := by decide +kernel

/-- A drive in RAMP with a number of valid crossings in a row. -/
def rampedTo (n : Nat) : State := drv (fun d => { d with validCount := n }) ramping

theorem test_twelfth_crossing_runs : (after (.zeroCrossing 105000) (rampedTo 10)).drive.state = .ramp ∧
    (after (.zeroCrossing 105000) (rampedTo 11)).drive.state = .run ∧
    (after (.zeroCrossing 105000) (rampedTo 11)).drive.duty = 410 ∧
    (after (.zeroCrossing 105000) (rampedTo 11)).drive.commIn = some 2500 := by decide +kernel

theorem test_ramp_timeout : ramping.drive.rampTimer.isSome = true ∧
    (after .rampTimerExpiry (drv (fun d => { d with attempts := 1 }) ramping)).drive.attempts = 2 ∧
    (after .rampTimerExpiry (drv (fun d => { d with attempts := 1 }) ramping)).drive.state = .coast ∧
    (after .rampTimerExpiry (drv (fun d => { d with attempts := 2 }) ramping)).drive.faultCause = some .startFail := by
  decide +kernel

/-- A running drive whose last six periods are five of one length and the next. -/
def paced (period pRef : Nat) : State :=
  drv (fun d => { d with ring := List.replicate 5 period, xref := some ⟨100000, pRef⟩ }) running

theorem test_run_crossings : running.drive.xref = some ⟨100000, 5000⟩ ∧
    (after (.zeroCrossing 103749) running).drive.xref = some ⟨100000, 5000⟩ ∧
    (Spec.ringWith (List.replicate 5 6750) 6250).sum = 40000 ∧ 600000000 / 40000 = 15000 ∧
    (after (.zeroCrossing 106250) (paced 6750 5000)).drive.speed = some 15000 ∧
    (after (.zeroCrossing 106250) (paced 6750 5000)).drive.blockTimer = none ∧
    600000000 / (Spec.ringWith (List.replicate 5 900) 718).sum = 114986 ∧ speedMax .stick = 120000 ∧
    (after (.zeroCrossing 100718) (paced 900 800)).drive.speed = some 114986 ∧
    (after (.zeroCrossing 100718) (paced 900 800)).drive.blockTimer = none := by decide +kernel

theorem test_commutation_and_miss : running.drive.commIn.isSome = true ∧ (after .commutation running).drive.duty = 1010 ∧
    (after .commutation running).drive.step = 3 ∧ (after .crossingWindowExpiry running).drive.missCount = 1 ∧
    (after .crossingWindowExpiry running).drive.xref = some ⟨105000, 5000⟩ ∧
    (after .crossingWindowExpiry (drv (fun d => { d with missCount := 2 }) running)).drive.state = .run ∧
    (after .crossingWindowExpiry (drv (fun d => { d with missCount := 3 }) running)).drive.faultCause = some .desync ∧
    (after .crossingWindowExpiry (drv (fun d => { d with missCount := 3, speed := some 300000 }) running)).ctl.ring.map
      (fun e => (e.value, e.second)) = [(.num 30000, some (.num 3))] := by decide +kernel

theorem test_overcurrent : aligning.drive.state.drives = true ∧
    (after (.busCurrentReading (.num 45000)) aligning).gov.busSamples.sum = 45000 ∧
    (after (.busCurrentReading (.num 45001)) aligning).drive.faultCause = some .overcurrent ∧
    (after (.busCurrentReading .above) running).drive.state = .fault := by decide +kernel

/-- A running drive with its speed timers set. -/
def timed (period pRef : Nat) (slow fast : Option Ms) : State :=
  drv (fun d => { d with stallTimer := slow, overTimer := fast }) (paced period pRef)

theorem test_stall_and_overspeed : 600000000 / (Spec.ringWith (List.replicate 5 6750) 6251).sum = 14999 ∧
    (after (.zeroCrossing 106251) (timed 6750 5001 (some 900) none)).drive.faultCause = some .stall ∧
    (after (.zeroCrossing 106251) (timed 6750 5001 (some 901) none)).drive.state = .run ∧
    600000000 / (Spec.ringWith (List.replicate 5 780) 787).sum = 128013 ∧
    (after (.zeroCrossing 100787) (timed 780 780 none (some 950))).drive.faultCause = some .overspeed ∧
    (after (.zeroCrossing 100787) (timed 780 780 none (some 951))).drive.state = .run := by decide +kernel

/-- A coasting drive. -/
def coasting : State :=
  drv (fun d => { d with state := .coast, coastTimer := some 4000, crossTimer := some 1100 }) ready

theorem test_coast_and_fault_end : coasting.drive.startPending = false ∧ coasting.drive.retryPending = false ∧
    coasting.drive.catchCount = none ∧ coasting.drive.state = .coast ∧ coasting.drive.coastTimer.isSome = true ∧
    (after .coastTimerExpiry coasting).drive.state = .off ∧ (after .crossingTimerExpiry coasting).drive.state = .off ∧
    (faulted true).drive.released = some true ∧ (after .faultTimerExpiry (faulted true)).drive.state = .off ∧
    (after .faultTimerExpiry (faulted false)).drive.state = .fault := by decide +kernel

/-- A coasting drive with a start that waits for the host. -/
def expected : State := drv (fun d => { d with startPending := true, owner := .host, mode := .eco, attempts := 1 }) coasting

theorem test_waiting_start : expected.drive.startPending = true ∧ expected.drive.owner = .host ∧ expected.drive.mode ≠ .off ∧
    expected.stick.state = .detached ∧ expected.prot.dischargeOk = true ∧ expected.debris.cal = none ∧
    (after .coastTimerExpiry expected).drive.state = .align ∧ (after .coastTimerExpiry expected).drive.attempts = 1 := by
  decide +kernel

/-- A catch that has seen five valid crossings. -/
def catching : State :=
  drv (fun d => { d with state := .coast, catchCount := some 5, speedAtStop := some 40000, lastRunDuty := 2000 }) running

theorem test_catch_completes : catching.drive.catchCount = some 5 ∧ catching.drive.speedAtStop = some 40000 ∧
    600000000 / (Spec.ringWith catching.drive.ring 5000).sum = 20000 ∧
    (after (.zeroCrossing 105000) catching).drive.state = .run ∧ (after (.zeroCrossing 105000) catching).drive.duty = 1000 ∧
    (after (.zeroCrossing 105001) catching).drive.state = .coast := by decide +kernel

/-- A catch that has seen a number of valid crossings, its ring of a period each. -/
def catchAt (n period : Nat) : State :=
  drv (fun d => { d with catchCount := some n, ring := List.replicate n period, speed := none,
                         coastTimer := some 4000, crossTimer := some 1100 }) catching

theorem test_catch_goes_on : 0 < (Spec.ringWith (catchAt 2 5000).drive.ring 5000).sum ∧
    Spec.speedOf (Spec.ringWith (catchAt 2 5000).drive.ring 5000) = none ∧
    (after (.zeroCrossing 105000) (catchAt 2 5000)).drive.catchCount = some 3 ∧
    (after (.zeroCrossing 103749) (catchAt 2 5000)).drive.catchCount = some 2 ∧
    (after .crossingWindowExpiry (catchAt 2 5000)).drive.catchCount = some 0 ∧
    (after .crossingWindowExpiry (catchAt 2 5000)).drive.step = (catchAt 2 5000).drive.step ∧
    Spec.speedOf (Spec.ringWith (catchAt 5 6000).drive.ring 5000) = some 17142 ∧
    (after (.zeroCrossing 105000) (catchAt 5 6000)).drive.catchCount = none ∧
    (after (.zeroCrossing 105000) (catchAt 5 6000)).drive.startPending = true ∧
    (after (.zeroCrossing 105000) (catchAt 5 6000)).drive.state = .coast := by decide +kernel

/-- A timer that ends a catch, its start served or given up, and a slow crossing of a catch. -/
theorem test_catch_is_cut_off : (catchAt 2 5000).drive.owner = .host ∧ (catchAt 2 5000).drive.mode ≠ .off ∧
    (after .coastTimerExpiry (catchAt 2 5000)).drive.state = .align ∧
    (after .crossingTimerExpiry (catchAt 2 5000)).drive.state = .align ∧
    (after .crossingTimerExpiry { catchAt 2 5000 with prot := { ready.prot with dischargeOk := false } }).drive.state
      = .off ∧
    Spec.speedOf (Spec.ringWith (catchAt 5 50000).drive.ring 5000) = some 2352 ∧
    (after (.zeroCrossing 105000) { catchAt 5 50000 with prot := { ready.prot with dischargeOk := false } }).drive.state
      = .off := by decide +kernel

/-- The entry to RUN starts the window timer and a calibration's band timer, and in DOCK role the duration timer of a run. -/
theorem test_run_starts :
    (after (.zeroCrossing 105000) (rampedTo 11)).debris.windowTimer = some 1050 ∧
    ((after (.zeroCrossing 105000) { rampedTo 11 with debris := { ready.debris with
        cal := some ⟨.starting, 1, 22500, none, none, 0, 0, 0, [], none⟩ } }).debris.cal.map
      (fun k => (k.phase, k.bandTimer))) = some (.seeking, some 4000) ∧
    (after (.zeroCrossing 105000) catching).debris.d = none ∧
    (after (.zeroCrossing 105000) { vacant with drive := (rampedTo 11).drive, evac :=
        ⟨.spinning, some .manual, none, none, some 500, none, none, none, none⟩ }).evac.durationTimer
      = some (1000 + BitVec.ofNat 32 (vacant.evacSet.duration * 1000)) ∧
    (after (.zeroCrossing 105000) { vacant with drive := catching.drive, evac :=
        ⟨.spinning, some .manual, none, none, some 500, none, none, none, none⟩ }).evac.phase = .timing := by
  decide +kernel

theorem test_start_in_coast : Spec.Heads (asks 0x10 [1] coasting) 0x10 0x10 [1] [] ∧
    (after .setSuction (asks 0x10 [1] (drv (fun d => { d with speed := some 20000, speedAtStop := some 40000 })
      coasting))).drive.catchCount = some 0 ∧
    (after .setSuction (asks 0x10 [1] (drv (fun d => { d with speed := some 19999, speedAtStop := some 40000 })
      coasting))).drive.startPending = true ∧
    (after .setSuction (asks 0x10 [1] (drv (fun d => { d with speed := some 20000 }) coasting))).drive.startPending = true ∧
    (after .setSuction (asks 0x10 [1] catching)).drive.catchCount = some 5 ∧
    (after .setSuction (asks 0x10 [1] catching)).drive.startPending = false := by
  refine ⟨heads ?_, ?_, ?_, ?_, ?_, ?_⟩ <;> decide +kernel

/-- The host's drive in FAULT, with a speed and its fault timer. -/
def stuck (speed : Nat) (due : Option Ms) : State :=
  drv (fun d => { d with speed := some speed, faultTimer := due, owner := .host, mode := .med }) (faulted false)

/-- A roll drive in JAM_LATCHED. -/
def latched (s : State) : State := { s with roll := { s.roll with state := .jamLatched } }

theorem test_suction_off_elsewhere : Spec.Heads (asks 0x10 [0] aligning) 0x10 0x10 [0] [] ∧
    (after .setSuction (asks 0x10 [0] aligning)).drive.state = .coast ∧
    (after .setSuction (asks 0x10 [0] (latched ramping))).drive.state = .coast ∧
    (after .setSuction (asks 0x10 [0] (latched ramping))).roll.state = .off ∧
    (after .setSuction (asks 0x10 [0] catching)).drive.catchCount = none ∧
    (after .setSuction (asks 0x10 [0] expected)).drive.startPending = false ∧
    (after .setSuction (asks 0x10 [0] ready)).drive.state = .off := by
  refine ⟨heads ?_, ?_, ?_, ?_, ?_, ?_, ?_⟩ <;> decide +kernel

theorem test_suction_off_releases : (stuck 2999 (some 3000)).drive.released = some false ∧
    (after .setSuction (asks 0x10 [0] (stuck 2999 (some 3000)))).drive.state = .off ∧
    (after .setSuction (asks 0x10 [0] (stuck 3000 none))).drive.state = .off ∧
    (after .setSuction (asks 0x10 [0] (stuck 3000 (some 3000)))).drive.state = .fault ∧
    (after .setSuction (asks 0x10 [0] (stuck 3000 (some 3000)))).drive.released = some true ∧
    (after .setSuction (asks 0x10 [0] (drv (fun d => { d with released := some true }) (stuck 2999 none)))).drive.state
      = .fault := by decide +kernel

theorem test_coast_crossings : coasting.drive.xref = none ∧
    (after (.zeroCrossing 7) (drv (fun d => { d with speed := some 2999 }) coasting)).drive.state = .off ∧
    (after (.zeroCrossing 7) (drv (fun d => { d with speed := some 3000 }) coasting)).drive.xref = some ⟨7, 0⟩ ∧
    (after (.zeroCrossing 7) coasting).drive.crossTimer = some 1100 ∧
    (after (.zeroCrossing 7) (drv (fun d => { d with speed := some 2999 }) (faulted true))).drive.state = .off ∧
    (after (.zeroCrossing 7) (drv (fun d => { d with speed := some 2999 }) (faulted false))).drive.state = .fault := by
  decide +kernel

/-- A drive with five periods of 33,333 ticks and a reference of 30,000 ticks. -/
def slowing (s : State) : State :=
  drv (fun d => { d with ring := List.replicate 5 33333, speed := some 3000, xref := some ⟨0, 30000⟩ }) s

theorem test_accepted_crossings : (Spec.ringWith (List.replicate 5 33333) 33336).sum = 200001 ∧
    (after (.zeroCrossing 22499) (slowing coasting)).drive.xref = some ⟨0, 30000⟩ ∧
    (after (.zeroCrossing 33335) (slowing coasting)).drive.speed = some 3000 ∧
    (after (.zeroCrossing 33336) (slowing coasting)).drive.state = .off ∧
    (after (.zeroCrossing 33336) (slowing (faulted true))).drive.state = .off ∧
    (after (.zeroCrossing 33336) (slowing (faulted false))).drive.speed = some 2999 ∧
    (after (.zeroCrossing 1000001) (slowing coasting)).drive.ring = [] ∧
    (after (.zeroCrossing 1000001) (slowing coasting)).drive.state = .coast := by decide +kernel

theorem test_other_bus_readings : (after (.busCurrentReading .below) running).gov.busSamples = ⟨0, 1, false⟩ ∧
    (after (.busCurrentReading .absent) running).gov.busSamples = ⟨0, 1, false⟩ ∧
    (after (.busCurrentReading (.num (-1))) running).gov.busSamples = ⟨0, 1, false⟩ ∧
    (after .crossingWindowExpiry (drv (fun d => { d with missCount := 3, speed := none }) running)).ctl.ring.map
      (fun e => e.value) = [.absent] := by decide +kernel

/-- A drive in RUN with five periods, a reference of a period, and its blocked timer. -/
def holding (period : Nat) (t : Option Ms) (s : State) : State :=
  drv (fun d => { d with ring := List.replicate 5 period, xref := some ⟨0, period⟩, blockTimer := t }) s

theorem test_blocked : 600000000 / (Spec.ringWith (List.replicate 5 870) 867).sum = 115008 ∧
    600000000 / (Spec.ringWith (List.replicate 5 781) 783).sum = 127986 ∧
    (after (.zeroCrossing 867) (holding 870 none running)).drive.blockTimer = some 1000 ∧
    (after (.zeroCrossing 868) (holding 870 (some 900) running)).drive.blockTimer = none ∧
    (after (.zeroCrossing 783) (holding 781 (some (1000 - 1999)) running)).drive.blocked = false ∧
    (after (.zeroCrossing 783) (holding 781 (some (1000 - 2000)) running)).drive.blocked = true ∧
    (after (.zeroCrossing 783) (holding 781 (some (1000 - 2000)) running)).drive.blockTimer = some (1000 - 2000) := by
  decide +kernel

/-! ### Roll drive -/

theorem test_roll_readings : running.roll.state.drives = true ∧
    (after (.rollCurrentReading (.num 8000)) running).gov.rollSamples.sum = 8000 ∧
    (after (.rollCurrentReading (.num 8001)) running).roll.faultCause = some .short ∧
    (after (.rollCurrentReading (.num 10001)) running).ctl.ring.map (fun e => e.value) = [.above] := by decide +kernel

/-- The roll drive in another state. -/
def rolled (r : RollState) (s : State) : State := { s with roll := { s.roll with state := r, waitTimer := some 1500 } }

theorem test_wait_and_restart : (after .waitTimerExpiry (rolled .jamWait running)).roll.state = .spinup ∧
    Spec.Heads (asks 0x26 [] (rolled .jamLatched running)) 0x26 0x26 [] [] ∧
    (after .rollRestart (asks 0x26 [] (rolled .jamLatched running))).roll.jamCount = 0 ∧
    (after .rollRestart (asks 0x26 [] (rolled .fault running))).roll.state = .off ∧
    answer (after .rollRestart (asks 0x26 [] running)) = [0xA6, 0x16] := by
  refine ⟨?_, heads ?_, ?_, ?_, ?_⟩ <;> decide +kernel

/-- A running roll with a current, a jam timer and a jam count. -/
def jamming (mA : Int) (count : Nat) : State :=
  { running with roll := { running.roll with current := .num mA, jamTimer := some 900, jamCount := count } }

theorem test_jams : running.rollEntry = true ∧ running.jamLimit = 3000 ∧ (3000 : Int) < 3001 ∧
    (running.ctl.partTime - running.roll.enteredAt).toNat = 1000 ∧
    (rollHandOver 500 800 (jamming 3001 1)).roll.state = .jamWait ∧
    (rollHandOver 500 800 (jamming 3000 1)).roll.state = .run ∧
    (rollHandOver 500 800 (jamming 3001 2)).roll.state = .jamLatched ∧
    (rollHandOver 500 800 (jamming 10000 2)).ctl.ring.map (fun e => (e.value, e.second)) = [(.num 10000, some (.num 0))] :=
  by decide +kernel

theorem test_roll_above : (after (.rollCurrentReading .above) running).roll.faultCause = some .short ∧
    (after (.rollCurrentReading .above) running).ctl.ring.map (fun e => e.value) = [.above] ∧
    (after (.rollCurrentReading .absent) running).gov.rollSamples = ⟨0, 1, false⟩ ∧
    (rollHandOver 500 800 { jamming 0 2 with roll := { (jamming 0 2).roll with current := .above } }).ctl.ring.map
      (fun e => (e.value, e.second)) = [(.above, some (.num 0))] := by decide +kernel

/-- A roll in SPINUP that entered it some ms ago. -/
def spinning (ms : Nat) : State :=
  { rolled .spinup running with roll := { (rolled .spinup running).roll with enteredAt := 1000 - BitVec.ofNat 32 ms } }

/-- The manual's ramp: 592 × 2 / 200 is 5, and 400 × 6 / 200 is 12. -/
theorem test_roll_hand_over : (rollHandOver 500 800 (rolled .off running)).roll.state = .spinup ∧
    (rollHandOver 0 0 (rolled .off running)).roll.state = .off ∧ (spinning 2).rollEntry = true ∧
    (rollHandOver 1850 592 (spinning 2)).roll.appliedDuty = 5 ∧ (rollHandOver 1250 400 (spinning 6)).roll.appliedDuty = 12 ∧
    (rollHandOver 500 800 (spinning 199)).roll.state = .spinup ∧ (rollHandOver 500 800 (spinning 200)).roll.state = .run ∧
    (rollHandOver 500 800 (spinning 200)).roll.appliedDuty = 800 ∧ (rollHandOver 0 0 (spinning 200)).roll.state = .off ∧
    (rollHandOver 0 0 (rolled .jamWait running)).roll.jamCount = 1 ∧
    (rollHandOver 500 800 (rolled .jamWait running)).roll.state = .jamWait ∧
    (rollHandOver 0 0 (rolled .jamLatched running)).roll.state = .jamLatched := by decide +kernel

/-- In RUN a jam sets its timer, 99 ms change nothing, and 10 s clear the count. -/
theorem test_roll_runs : (rollHandOver 500 800 { jamming 3001 1 with roll := { (jamming 3001 1).roll with
      jamTimer := none } }).roll.jamTimer = some 1000 ∧
    (rollHandOver 500 800 { jamming 3001 1 with roll := { (jamming 3001 1).roll with
      jamTimer := some 901 } }).roll.state = .run ∧
    (rollHandOver 500 800 (jamming 3000 1)).roll.jamTimer = none ∧
    (rollHandOver 500 800 { jamming 3001 2 with roll := { (jamming 3001 2).roll with
      enteredAt := 1000 - 10000 } }).roll.jamCount = 1 ∧
    (rollHandOver 500 800 { jamming 3000 1 with roll := { (jamming 3000 1).roll with
      enteredAt := 1000 - 10000 } }).roll.jamCount = 0 ∧
    (after (.governorPeriod []) (sampled ⟨9000, 3, false⟩ (rolled .off running))).roll.current = .num 3000 ∧
    (after (.governorPeriod []) (sampled ⟨9000, 3, false⟩ (rolled .off running))).roll.state = .spinup := by decide +kernel

/-! ### Settings -/

/-- A write waits for the store. -/
def storing (s : State) : State :=
  { s with store := { s.store with active := some 1, op := some ⟨.write, 1, 5, 0x31, [1, 2], 0, 0⟩ } }

/-- A user segment of generation 0 is active. -/
def stored (s : State) : State :=
  { s with store := { s.store with mem := [⟨512, 1⟩, ⟨513, 0⟩], active := some 1 } }

theorem test_set_mode_power : Spec.Heads (asks 0x12 [19, 0, 180, 0, 245, 1, 44, 1, 0] ready) 0x12 0x12
      [19, 0, 180, 0, 245, 1, 44, 1, 0] [] ∧
    (after .setModePower (asks 0x12 [19, 0, 180, 0, 245, 1, 44, 1, 0] ready)).gov.powers = ⟨20, 180, 500, 300⟩ ∧
    answer (after .setModePower (asks 0x12 [19, 0, 180, 0, 245, 1, 44, 1, 0] ready)) = [0x92, 0x02] ∧
    answer (after .setModePower (asks 0x12 [20, 0, 180, 0, 244, 1, 20, 0, 0] ready)) = [0x92, 0x00] ∧
    answer (after .setModePower (asks 0x12 [21, 0, 180, 0, 244, 1, 20, 0, 0] ready)) = [0x92, 0x14] ∧
    (storing ready).store.op.isSome = true ∧
    answer (after .setModePower (asks 0x12 [20, 0, 180, 0, 244, 1, 20, 0, 1] (storing ready))) = [0x92, 0x10] := by
  refine ⟨heads ?_, ?_, ?_, ?_, ?_, ?_, ?_⟩ <;> decide +kernel

/-- SET_LIMITS with 20,000 mA, 2,000 mA and 4,200 mV, a duty_max and a keep. -/
def limitsOf (low high keep : Nat) : List Nat := [0x20, 0x4E, 0xD0, 7, 0x68, 0x10, low, high, keep]

theorem test_set_limits : Spec.Heads (asks 0x13 (limitsOf 0x80 0x0F 0) ready) 0x13 0x13
      ((limitsOf 0x80 0x0F 0).map (BitVec.ofNat 8)) [] ∧
    (after .setLimits (asks 0x13 (limitsOf 0x80 0x0F 0) ready)).gov.limits = ⟨20000, 2000, 4200, 3968⟩ ∧
    (after .setLimits (asks 0x13 (limitsOf 0x80 0x0F 0) ready)).gov.allowance = some 20000 ∧
    answer (after .setLimits (asks 0x13 (limitsOf 0x80 0x0F 0) ready)) = [0x93, 0x00] ∧
    answer (after .setLimits (asks 0x13 (limitsOf 0xFF 0x03 0) ready)) = [0x93, 0x02] ∧
    answer (after .setLimits (asks 0x13 (limitsOf 0x80 0x0F 0) (locked ready))) = [0x93, 0x17] ∧
    answer (after .setLimits (asks 0x13 (limitsOf 0x80 0x0F 1) (storing ready))) = [0x93, 0x10] := by
  refine ⟨heads ?_, ?_, ?_, ?_, ?_, ?_, ?_⟩ <;> decide +kernel

/-- duty_max may not fall below the duty of a running motor or below prev: 1,024 is below neither 1,024 nor 1,010. -/
theorem test_set_limits_denied :
    answer (after .setLimits (asks 0x13 (limitsOf 0 4 0) (drv (fun d => { d with duty := 1024 }) running))) = [0x93, 0x00] ∧
    answer (after .setLimits (asks 0x13 (limitsOf 0 4 0) (drv (fun d => { d with duty := 1025 }) running))) = [0x93, 0x16] ∧
    answer (after .setLimits (asks 0x13 (limitsOf 0 4 0) { running with gov := { running.gov with prev := 1025 } }))
      = [0x93, 0x16] := by decide +kernel

theorem test_set_dock_supply : Spec.Heads (asks 0x2D [0x60, 0xEA, 0, 0, 0] vacant) 0x2D 0x2D [0x60, 0xEA, 0, 0, 0] [] ∧
    (after .setDockSupply (asks 0x2D [0x60, 0xEA, 0, 0, 0] vacant)).charger.budget = 60000 ∧
    answer (after .setDockSupply (asks 0x2D [0x60, 0xEA, 0, 0, 0] vacant)) = [0xAD, 0x00] ∧
    (after .setDockSupply (asks 0x2D [0x5F, 0xEA, 0, 0, 0] vacant)).charger.budget = 60000 ∧
    answer (after .setDockSupply (asks 0x2D [0x5F, 0xEA, 0, 0, 0] vacant)) = [0xAD, 0x02] ∧
    answer (after .setDockSupply (asks 0x2D [0x60, 0xEA, 0, 0, 1] (storing vacant))) = [0xAD, 0x10] := by
  refine ⟨heads ?_, ?_, ?_, ?_, ?_, ?_⟩ <;> decide +kernel

theorem test_set_pack : Spec.Heads (asks 0x19 [0x88, 0x13, 0] ready) 0x19 0x19 [0x88, 0x13, 0] [] ∧
    (after .setPack (asks 0x19 [0x88, 0x13, 0] ready)).pack.q = 9000000 ∧
    (after .setPack (asks 0x19 [0xF3, 1, 0] ready)).pack.capacity = 500 ∧
    answer (after .setPack (asks 0x19 [0xF3, 1, 0] ready)) = [0x99, 0x02] ∧
    (stored ready).store.active = some 1 ∧ (stored ready).store.fits 1 2 = true ∧
    (after .setPack (asks 0x19 [0x88, 0x13, 1] (stored ready))).store.op
      = some ⟨.write, 1, 0x05, 0x19, [0x88, 0x13], 0, 0⟩ ∧
    answer (after .setPack (asks 0x19 [0x88, 0x13, 1] (storing ready))) = [0x99, 0x10] := by
  refine ⟨heads ?_, ?_, ?_, ?_, ?_, ?_, ?_, ?_⟩ <;> decide +kernel

theorem test_set_dirt_levels :
    Spec.Heads (asks 0x21 [1, 2, 254, 33, 16, 32, 0x10, 0x27, 0, 0] ready) 0x21 0x21
      [1, 2, 254, 33, 16, 32, 0x10, 0x27, 0, 0] [] ∧
    (after .setDirtLevels (asks 0x21 [1, 2, 254, 33, 16, 32, 0x10, 0x27, 0, 0] ready)).debris.levels
      = ⟨1, 2, 254, 32, 16, 32, 10000⟩ ∧
    answer (after .setDirtLevels (asks 0x21 [1, 2, 254, 33, 16, 32, 0x10, 0x27, 0, 0] ready)) = [0xA1, 0x02] ∧
    answer (after .setDirtLevels (asks 0x21 [0, 2, 254, 33, 16, 32, 0x10, 0x27, 0, 0] ready)) = [0xA1, 0x14] ∧
    answer (after .setDirtLevels (asks 0x21 [1, 2, 2, 33, 16, 32, 0x10, 0x27, 0, 0] ready)) = [0xA1, 0x14] ∧
    answer (after .setDirtLevels (asks 0x21 [1, 2, 255, 33, 16, 32, 0x10, 0x27, 0, 0] ready)) = [0xA1, 0x14] := by
  refine ⟨heads ?_, ?_, ?_, ?_, ?_, ?_⟩ <;> decide +kernel

/-- A stick on the dock, bound, with a full bin. -/
def onDock : State :=
  { ready with
    stick := { ready.stick with state := .docked, contactV := some 12000, evacRequest := true,
                                binding := some ⟨some 1, some 360, ⟨false, false, false⟩, none, false⟩ }
    debris := { ready.debris with b := 400000, binFull := true } }

theorem test_clear_bin : Spec.Heads (asks 0x22 [] onDock) 0x22 0x22 [] [] ∧
    (after .clearBin (asks 0x22 [] onDock)).debris.b = 0 ∧ (after .clearBin (asks 0x22 [] onDock)).debris.binFull = false ∧
    (after .clearBin (asks 0x22 [] onDock)).stick.evacRequest = false := by
  refine ⟨heads ?_, ?_, ?_, ?_⟩ <;> decide +kernel

theorem test_set_evacuation :
    Spec.Heads (asks 0x29 [1, 0x81, 0x1A, 6, 0, 1, 44, 1, 0] onDock) 0x29 0x29 [1, 0x81, 0x1A, 6, 0, 1, 44, 1, 0] [] ∧
    (1 : Nat) = policyCode .whenFull ∧
    (after .setEvacuation (asks 0x29 [1, 0x81, 0x1A, 6, 0, 1, 44, 1, 0] onDock)).evacSet = ⟨.whenFull, 400001, 2, 300⟩ ∧
    (after .setEvacuation (asks 0x29 [1, 0x81, 0x1A, 6, 0, 1, 44, 1, 0] onDock)).stick.evacRequest = false ∧
    answer (after .setEvacuation (asks 0x29 [2, 0x80, 0x1A, 6, 0, 2, 44, 1, 0] onDock)) = [0xA9, 0x00] := by
  refine ⟨heads ?_, ?_, ?_, ?_, ?_⟩ <;> decide +kernel

/-- SET_ATTACHMENT of an index with the ID window 450..800 mV and the duty 900. -/
def entryOf (index : Nat) : List Nat := [index, 1, 0xC2, 1, 0x20, 3, 1, 0x84, 3, 0xC4, 9, 0xB8, 0x0B, 0xF4, 1, 1, 0]

theorem test_set_attachment : Spec.Heads (asks 0x25 (entryOf 1) running) 0x25 0x25
      ((entryOf 1).map (BitVec.ofNat 8)) [] ∧
    (after .setAttachment (asks 0x25 (entryOf 1) running)).att.result = .entry 0 ∧
    (after .setAttachment (asks 0x25 (entryOf 7) running)).att.entries[7]?
      = some ⟨true, 450, 800, 1, 900, 2500, 3000, 500, true⟩ ∧
    answer (after .setAttachment (asks 0x25 (entryOf 7) running)) = [0xA5, 0x00] ∧
    answer (after .setAttachment (asks 0x25 (entryOf 8) running)) = [0xA5, 0x14] ∧
    running.att.voltage ≠ .absent ∧ ready.att.voltage = .absent := by
  refine ⟨heads ?_, ?_, ?_, ?_, ?_, ?_, ?_⟩ <;> decide +kernel

/-- The CELLS strap is invalid. -/
def unstrapped : State := { ready with ctl := { ready.ctl with cells := 3 } }

theorem test_set_pack_invalid_strap : Spec.Heads (asks 0x19 [0x88, 0x13, 1] unstrapped) 0x19 0x19 [0x88, 0x13, 1] [] ∧
    (after .setPack (asks 0x19 [0x88, 0x13, 1] unstrapped)).pack.capacity = 5000 ∧
    (after .setPack (asks 0x19 [0x88, 0x13, 1] unstrapped)).pack.q = unstrapped.pack.q ∧
    (after .setPack (asks 0x19 [0x88, 0x13, 1] unstrapped)).store.op = none ∧
    answer (after .setPack (asks 0x19 [0x88, 0x13, 1] (storing unstrapped))) = [0x99, 0x10] := by
  refine ⟨heads ?_, ?_, ?_, ?_, ?_⟩ <;> decide +kernel

/-! ### Power governor -/

/-- The manual's three cases of the allowance at a limit of 25,000 mA. -/
theorem test_derating :
    allowanceOf 25000 (factorsOf (some ⟨0, [.num 3980], .num 0, .num 0, .num 280, .num 301, .num 410⟩)) true = 25000 ∧
    allowanceOf 25000 (factorsOf (some ⟨0, [.num 3150], .num 0, .num 0, .num 525, .num 510, .num 800⟩)) true = 7812 ∧
    allowanceOf 25000 (factorsOf (some ⟨0, [.num 3700], .num 0, .num 0, .absent, .num 300, .num 500⟩)) true = 0 := by
  decide +kernel

/-- A stick in AUTO with a dirt index and a match. -/
def sensed (d : Option Nat) (r : MatchResult) : State :=
  { drv (fun x => { x with mode := .auto }) ready with
    debris := { ready.debris with d := d }, att := { ready.att with result := r } }

/-- The manual's AUTO powers. -/
theorem test_auto_power : (sensed (some 76) (.entry 0)).modeDemand = 152588 ∧
    (sensed (some 255) (.entry 0)).modeDemand = 300000 ∧ (sensed (some 76) (.entry 2)).modeDemand = 180000 ∧
    (sensed none (.entry 1)).modeDemand = 180000 ∧ (sensed (some 200) .unknown).modeDemand = 90000 ∧
    modePower (sensed (some 200) .unknown).gov.powers .auto (some 200) (sensed (some 200) .unknown).autoFollows = 254705 ∧
    (sensed (some 0) .bare).modeDemand = 90000 ∧ (sensed (some 0) .bare).gov.powers.eco ≤ 300 ∧
    (ready.att.entries[2]?.map AttEntry.autoAllowed) = some false := by decide +kernel

/-- In RUN and in COAST: the latest and the kept dirt index (log 74). -/
theorem test_auto_demand :
    let inState := fun (d : DriveState) => drv (fun x => { x with state := d, owner := .host }) (sensed (some 76) (.entry 0))
    let timed := fun (s : State) => { s with gov := { s.gov with timer := some 1001 } }
    (inState .run).drive.state = .run ∧ (inState .run).modeDemand = 152588 ∧
    (after (.governorPeriod []) (timed (inState .run))).gov.pDem = 152588 ∧
    (after (.governorPeriod []) (timed (inState .coast))).gov.pDem = 152588 := by decide +kernel

/-- A governor record with an integrator, a residue and a prev. -/
def gained (a : Int) (residue prev : Nat) : Gov := { ready.gov with a := a, residue := residue, prev := prev }

/-- The manual's unclamped step, and its three steps against the slew clamps. -/
theorem test_duty_steps : dutyStep (gained 150000000 40000 2300) 33460 false = ⟨150267680, 34528, 2342, false⟩ ∧
    dutyStep (gained 140000000 20000 2150) 120000 false = ⟨140000000, 0, 2214, true⟩ ∧
    dutyStep (gained 140000000 0 2214) 100000 false = ⟨140000000, 0, 2278, true⟩ ∧
    dutyStep (gained 140000000 0 2278) 60000 false = ⟨140480000, 29184, 2231, false⟩ := by decide +kernel

/-- The lower slew bound is lifted only below five quarters of the allowance. -/
theorem test_slew_lifted : ready.slewLifted = false ∧
    ({ ready with gov := { ready.gov with allowance := some 400 } }).slewLifted = false ∧
    ({ ready with gov := { ready.gov with allowance := some 399 } }).slewLifted = true ∧ vacant.slewLifted = false := by
  decide +kernel

/-- A period of the stick: the manual's grant order at an allowance of 25,000 mA. -/
theorem test_stick_period : running.gov.timer.isSome = true ∧ running.drive.owner ≠ .calibration ∧
    (after (.governorPeriod [⟨none, .num 0, none⟩]) running).gov.row2.grant = 2500 ∧
    (after (.governorPeriod [⟨none, .num 0, none⟩]) running).gov.row3.grant = 22350 ∧
    (after (.governorPeriod [⟨none, .num 0, none⟩]) running).gov.timer = some 1001 ∧
    (after (.governorPeriod [⟨none, .num 0, none⟩]) running).drive.heldDuty
      = some (after (.governorPeriod [⟨none, .num 0, none⟩]) running).gov.prev ∧
    (after (.governorPeriod [⟨none, .num 0, none⟩])
      { running with prot := { running.prot with dischargeOk := false } }).gov.row3.grant = 0 ∧
    (after (.governorPeriod [⟨none, .num 0, none⟩]) { coasting with gov := { coasting.gov with timer := some 1001 } }).gov.prev
      = 0 := by decide +kernel

/-- A period of the dock: the manual's first split. -/
theorem test_dock_period : charging.gov.timer.isSome = true ∧ charging.charger.state.switches = true ∧
    2000 ≤ charging.charger.budget ∧
    (after (.governorPeriod [⟨some 28000, .num 1500, some 36000⟩])
      { charging with charger := { charging.charger with target := 28400 } }).gov.row3.grant = 335625 ∧
    ((after (.governorPeriod [⟨some 25000, .num 1500, some 36000⟩]) charging).charger.split.map Split.cap) = some 13425 ∧
    (after (.governorPeriod [⟨some 25000, .num 1500, some 36000⟩]) charging).charger.setpoint = 2000 := by decide +kernel

theorem test_period_means : (after (.governorPeriod [⟨none, .absent, none⟩]) (sampled ⟨30, 4, false⟩ running)).drive.busCurrent = .num 7 ∧
    (after (.governorPeriod [⟨none, .absent, none⟩]) (sampled ⟨30, 4, true⟩ running)).drive.busCurrent = .above ∧
    (after (.governorPeriod [⟨none, .absent, none⟩]) (sampled ⟨0, 0, false⟩ running)).drive.busCurrent = .num 0 ∧
    (after (.governorPeriod [⟨none, .absent, none⟩]) (sampled ⟨30, 4, true⟩ running)).gov.busSamples = ⟨0, 0, false⟩ := by
  decide +kernel

theorem test_setpoint_bounded : Safety.chargerBounded charging ∧ charging.charger.state.switches = true ∧
    (after (.governorPeriod [⟨some 24000, .num 1500, some 36000⟩]) charging).charger.setpoint ≤
      (after (.governorPeriod [⟨some 24000, .num 1500, some 36000⟩]) charging).charger.needLimit ∧
    (after (.governorPeriod [⟨none, .num 1500, some 36000⟩]) charging).charger.setpoint = 0 := by decide +kernel

/-- The means of a period: truncated, ABOVE with an ABOVE among the readings, ABSENT with an open sense among them. -/
theorem test_charger_means :
    (after (.governorPeriod [⟨some 24000, .num 1500, some 36000⟩, ⟨some 24003, .num 1502, some 36002⟩]) charging).charger.vOut
      = some 24001 ∧
    (after (.governorPeriod [⟨some 24000, .num 1500, some 36000⟩, ⟨none, .num 1503, some 36002⟩]) charging).charger.vOut
      = none ∧
    (after (.governorPeriod [⟨some 24000, .num 1500, some 36000⟩, ⟨none, .num 1503, some 36002⟩]) charging).charger.iOut
      = .num 1501 ∧
    (after (.governorPeriod [⟨some 24000, .above, some 36000⟩, ⟨none, .num 1503, some 36002⟩]) charging).charger.iOut
      = .above ∧
    (after (.governorPeriod [⟨some 24000, .above, some 36000⟩, ⟨none, .num 1503, some 36003⟩]) charging).charger.supply
      = some 36001 ∧
    (after (.governorPeriod []) charging).charger.vOut = charging.charger.vOut := by decide +kernel

/-- A stick without allowance in RUN, with a count of periods without grant. -/
def starved (n : Nat) : State :=
  drv (fun d => { d with zeroGrant := n }) { running with prot := { running.prot with dischargeOk := false } }

theorem test_period_figures : (after (.governorPeriod [⟨none, .absent, none⟩]) running).gov.row1.grant = 150 ∧
    (after (.governorPeriod [⟨none, .absent, none⟩]) running).gov.row2.demand
      = ((running.matched.map AttEntry.rollCap).getD 0) ∧
    (after (.governorPeriod [⟨none, .absent, none⟩]) (sampled ⟨4000, 4, false⟩ running)).gov.pMeas = 22200 ∧
    (after (.governorPeriod [⟨none, .absent, none⟩]) (starved 8)).drive.zeroGrant = 9 ∧
    (after (.governorPeriod [⟨none, .absent, none⟩]) (starved 9)).drive.state = .coast ∧
    (after (.governorPeriod [⟨none, .absent, none⟩]) (starved 9)).drive.mode = .med ∧
    (after (.governorPeriod [⟨none, .absent, some 36000⟩]) charging).gov.row1.grant = 2000 ∧
    (after (.governorPeriod [⟨none, .absent, some 36000⟩]) charging).gov.pMeas = 0 := by decide +kernel

/-- A period in RUN settles the duty step; the roll duty is the matched entry's by the grant. -/
theorem test_period_steps :
    let t := after (.governorPeriod []) running
    let r := dutyStep running.gov t.gov.e t.slewLifted
    running.drive.owner ≠ .calibration ∧ t.drive.state = .run ∧ t.gov.prev = r.duty ∧ t.gov.a = r.a ∧
    t.gov.residue = r.residue ∧ t.gov.saturated = r.saturated ∧ t.gov.rollDuty = 800 := by decide +kernel

/-- A drive in RUN that a floor calibration owns, at a speed, with P_hold. -/
def speedHeld (hold : Option Nat) (speed : Nat) : State :=
  let c : State := { running with debris := { running.debris with
    cal := some ⟨.seeking, 1, 22500, some 4000, none, 0, 0, 0, [], none⟩ } }
  { drv (fun d => { d with owner := .calibration, mode := .off, speed := some speed }) c with
    gov := { c.gov with pHold := hold, prev := 410 } }

theorem test_speed_hold : (speedHeld none 20000).gov.timer.isSome = true ∧
    (after (.governorPeriod []) (sampled ⟨4000, 4, false⟩ (speedHeld none 20000))).gov.pHold = some 22200 ∧
    (after (.governorPeriod []) (speedHeld none 20000)).gov.pDem = 0 ∧
    (after (.governorPeriod []) (speedHeld none 20000)).drive.heldDuty = some 410 ∧
    (after (.governorPeriod []) (speedHeld (some 300) 21499)).gov.pHold = some 500 ∧
    (after (.governorPeriod []) (speedHeld (some 300) 21500)).gov.pHold = some 300 ∧
    (after (.governorPeriod []) (speedHeld (some 300) 23501)).gov.pDem = 100 ∧
    (after (.governorPeriod []) (speedHeld (some 100) 23501)).gov.pHold = some 0 ∧
    (after (.governorPeriod []) (speedHeld (some 499900) 20000)).gov.pHold = some 500000 := by decide +kernel

/-! ### Pack monitor and protection -/

theorem test_scan_timer : ready.pack.scanTimer.isSome = true ∧ ready.pack.scanning = false ∧
    (after .scanTimerExpiry ready).pack.scanning = true ∧ (after .scanTimerExpiry ready).pack.scanTimer = some 1010 ∧
    (after .scanTimerExpiry (after .scanTimerExpiry ready)).pack.lastScan = 1000 ∧
    (after .scanTimerExpiry asleep).pack.scanTimer = some 2000 := by decide +kernel

/-- A scan is in progress, with condition timers set. -/
def scanning (t : Option Ms) (s : State) : State :=
  { s with pack := { s.pack with scanning := true }, prot := { s.prot with tOv := t, tUv := t, tOc := t } }

/-- The measurements of a scan: one cell's tap and the current, with the rest at rest. -/
def scanOf (tap current : Int) : RawScan :=
  ⟨[tap, 3700, 3700, 3700, 3700, 3700, 3700, 3700], 22200, current, some 250, some 260, some 300⟩

theorem test_publication : (scanning none ready).pack.scanning = true ∧
    (after (.packRecordPublication (scanOf 3650 (-500))) (scanning none ready)).pack.record
      = some ⟨1000, [.num 3650, .num 3700, .num 3700, .num 3700, .num 3700, .num 3700], .num 22200, .num (-500), .num 250,
          .num 260, .num 300⟩ ∧
    ((after (.packRecordPublication (scanOf 5001 0)) (scanning none ready)).pack.record.map (fun r => r.cells[0]?))
      = some (some .above) ∧
    ((after (.packRecordPublication (scanOf 499 0)) (scanning none ready)).pack.record.map (fun r => r.cells[0]?))
      = some (some .absent) := by decide +kernel

/-- The manual's integrations, discharging and charging with two cells bleeding. -/
theorem test_integration : ((ready.pack.integrate (.num (-18000)) 10).q, (ready.pack.integrate (.num (-18000)) 10).acc)
      = (4499820, 0) ∧
    (({ ready.pack with q := 4499640, acc := -350 }).integrate (.num (-17990)) 10).acc = -250 ∧
    (({ ready.pack with q := 8950017, acc := 530, balance := [3, 2] }).integrate (.num 1869) 10).q = 8950035 ∧
    (({ ready.pack with q := 10 }).integrate .below 10).q = 0 := by decide +kernel

/-- A scan whose six cells read alike. -/
def cellsOf (mV : Int) : RawScan := { scanOf 0 0 with taps := List.replicate 8 mV }

/-- A scan in progress with the timers of the other causes running since a part time. -/
def watched (t : Ms) (s : State) : State :=
  { s with pack := { s.pack with scanning := true },
           prot := { s.prot with tOt := some t, tChgCeiling := some t, tChgNeed := some t, tOvSevere := some t,
                                 tUvSevere := some t, tOc := some t, ocEvents := [t, t] } }

/-- The manual's need records, for six cells: the limit, the precharge flag and the reason. -/
theorem test_need_record :
    let need := fun (t mV : Int) => (after (.packRecordPublication { cellsOf mV with t1 := some t, t2 := some t })
      (scanning none ready)).pack.need
    need 250 3620 = ⟨25200, 2000, true, .none, false⟩ ∧ need 80 3620 = ⟨25200, 1000, true, .none, false⟩ ∧
    need 250 2950 = ⟨25200, 200, true, .none, true⟩ ∧ need 80 2950 = ⟨25200, 100, true, .none, true⟩ ∧
    need 460 3620 = ⟨25200, 0, false, .temp, false⟩ ∧ (need (-1) 3620).reason = .temp ∧ (need 450 3000).reason = .none ∧
    (after (.packRecordPublication (scanOf 499 0)) (scanning none ready)).pack.need.reason = .protection ∧
    (after (.packRecordPublication (scanOf 3700 5001)) (watched 900 onDock)).pack.need.reason = .cutoffChg := by
  decide +kernel

/-- A pack that is charged, with the timer of FULL, or at rest with an invalid Q and the rest timer. -/
def toppedUp (t : Ms) (s : State) : State :=
  { s with stick := { s.stick with state := .charging }, pack := { s.pack with
      scanning := true, fullTimer := some t, restTimer := some t, valid := false,
      need := ⟨25200, 2000, true, .none, false⟩ } }

/-- FULL after 60 s below 100 mA at 25,140 mV or more, and its end below 4,100 mV. -/
theorem test_full_is_set :
    let charged := fun (mV mA : Int) => { cellsOf 4190 with packV := mV, packI := mA }
    (after (.packRecordPublication (charged 25140 99)) (toppedUp (1000 - 60000) onDock)).pack.full = true ∧
    (after (.packRecordPublication (charged 25140 99)) (toppedUp (1000 - 60000) onDock)).pack.q = 9000000 ∧
    (after (.packRecordPublication (charged 25140 99)) (toppedUp (1000 - 60000) onDock)).pack.need.reason = .full ∧
    (after (.packRecordPublication (charged 25140 99)) (toppedUp (1000 - 59999) onDock)).pack.full = false ∧
    (after (.packRecordPublication (charged 25140 100)) (toppedUp (1000 - 60000) onDock)).pack.fullTimer = none ∧
    (after (.packRecordPublication (charged 25139 99)) (toppedUp (1000 - 60000) onDock)).pack.fullTimer = none ∧
    (after (.packRecordPublication (cellsOf 4099)) { scanning none ready with pack :=
      { (scanning none ready).pack with full := true } }).pack.full = false ∧
    (after (.packRecordPublication (cellsOf 4100)) { scanning none ready with pack :=
      { (scanning none ready).pack with full := true } }).pack.full = true := by decide +kernel

/-- The estimate of R56: 3,700 mV lie halfway between 350 and 500 permille. -/
theorem test_rest_estimate : ocvToSoc ready.pack.ocv 3700 = 425 ∧ ocvToSoc ready.pack.ocv 3000 = 0 ∧
    ocvToSoc ready.pack.ocv 4150 = 1000 ∧ ready.pack.ocv.length = 9 ∧ ready.pack.ocv.Pairwise (· < ·) ∧
    (after (.packRecordPublication (cellsOf 3700)) (toppedUp (1000 - 2000) ready)).pack.q = 3825000 ∧
    (after (.packRecordPublication (cellsOf 3700)) (toppedUp (1000 - 2000) ready)).pack.valid = true ∧
    (after (.packRecordPublication (cellsOf 3700)) (toppedUp (1000 - 1999) ready)).pack.valid = false ∧
    (after (.packRecordPublication { cellsOf 3700 with packI := 50 }) (toppedUp (1000 - 2000) ready)).pack.restTimer
      = none := by decide +kernel

/-- The manual's selections, and a publication that selects and one that empties the set. -/
theorem test_balance_set :
    selectBalance [3, 7] ([4120, 4151, 4160, 4135, 4151, 4118, 4140].map Reading.num) = [3, 2, 5] ∧
    selectBalance [3, 2, 5] ([4121, 4146, 4149, 4133, 4147, 4119, 4139].map Reading.num) = [3, 5, 2] ∧
    (after (.packRecordPublication { scanOf 0 199 with taps := [3880, 3900, 3910, 3911, 4000, 3950, 0, 0] })
      (scanning none ready)).pack.balance = [5, 6, 4] ∧
    (after (.packRecordPublication { scanOf 0 200 with taps := [3880, 3900, 3910, 3911, 4000, 3950, 0, 0] })
      (scanning none { ready with pack := { ready.pack with balance := [5] } })).pack.balance = [] := by decide +kernel

theorem test_causes : (ready.ctl.partTime - (900 : Ms)).toNat = 100 ∧ (ready.ctl.partTime - (500 : Ms)).toNat = 500 ∧
    (after (.packRecordPublication (scanOf 4251 0)) (scanning (some 900) ready)).prot.active.cellOv = true ∧
    (after (.packRecordPublication (scanOf 4251 0)) (scanning (some 901) ready)).prot.active.cellOv = false ∧
    (after (.packRecordPublication (scanOf 4250 0)) (scanning (some 900) ready)).prot.chargeOk = true ∧
    (after (.packRecordPublication (scanOf 2899 0)) (scanning (some 500) ready)).prot.dischargeOk = false ∧
    (after (.packRecordPublication (scanOf 2900 0)) (scanning (some 500) ready)).prot.dischargeOk = true ∧
    (after (.packRecordPublication (scanOf 3700 (-40001))) (scanning (some 980) ready)).prot.ocClear = some 6000 ∧
    (after (.packRecordPublication (scanOf 3700 (-40000))) (scanning (some 980) ready)).prot.ocClear = none ∧
    (after (.packRecordPublication (scanOf 499 0)) (scanning none ready)).prot.active.sense = true ∧
    (after (.packRecordPublication { scanOf 3700 0 with t2 := none }) (scanning none ready)).prot.chargeOk = false := by
  decide +kernel

/-- A stick whose DSG_OC is active, or which is locked out for repeated overcurrent. -/
def tripped (lockout : Bool) : State :=
  { ready with prot := { ready.prot with
      active := { ready.prot.active with dsgOc := !lockout }, ocClear := if lockout then none else some 5000,
      dischargeOk := false, chargeOk := !lockout, lockedOut := lockout, lockout := { ready.prot.lockout with ocRepeat := lockout },
      level := if lockout then .lockout else .cutoff } }

/-- A sleeping stick at a publication, with a count of low cells. -/
def dozing (low : Nat) : State :=
  { asleep with ctl := { asleep.ctl with lowCells := low }, pack := { asleep.pack with scanning := true } }

theorem test_automatic_ship : (after (.packRecordPublication (scanOf 2999 0)) (dozing 8)).ctl.lowCells = 9 ∧
    (after (.packRecordPublication (scanOf 2999 0)) (dozing 8)).ctl.shipDecided = false ∧
    (after (.packRecordPublication (scanOf 3000 0)) (dozing 9)).ctl.lowCells = 0 ∧
    (after (.packRecordPublication (scanOf 2999 0)) (dozing 9)).ctl.shipDecided = true ∧
    (after (.packRecordPublication (scanOf 2999 0)) (dozing 9)).ctl.ring.map (fun e => (e.code, e.value, e.second))
      = [(.autoShip, .num 2999, some (.num 500))] := by decide +kernel

/-- A scan with three temperatures and a pack voltage. -/
def warmth (t1 t2 t3 : Option Int) (mV : Int) : RawScan := { scanOf 3700 0 with t1 := t1, t2 := t2, t3 := t3, packV := mV }

theorem test_reading_ranges :
    (((after (.packRecordPublication (warmth (some (-400)) (some 1250) (some 1251) 32766)) (scanning none ready)).pack.record).map
      (fun r => [r.t1, r.t2, r.t3, r.packV])) = some [.num (-400), .num 1250, .above, .num 32766] ∧
    (((after (.packRecordPublication (warmth (some (-401)) none (some 0) 32767)) (scanning none ready)).pack.record).map
      (fun r => [r.t1, r.t2, r.t3, r.packV])) = some [.below, .absent, .num 0, .above] ∧
    (((after (.packRecordPublication (scanOf 3700 (-50001))) (scanning none ready)).pack.record).map (fun r => r.packI))
      = some .below ∧
    (((after (.packRecordPublication (scanOf 3700 20001)) (scanning none ready)).pack.record).map (fun r => r.packI))
      = some .above := by decide +kernel

theorem test_other_causes :
    (after (.packRecordPublication (warmth (some 600) (some 0) none 0)) (watched 0 ready)).prot.active.dsgOt = true ∧
    (after (.packRecordPublication (warmth (some 600) (some 0) none 0)) (watched 1 ready)).prot.active.dsgOt = false ∧
    (after (.packRecordPublication (scanOf 3700 5001)) (watched 900 onDock)).prot.active.chgOc = true ∧
    (after (.packRecordPublication (scanOf 3700 5000)) (watched 900 onDock)).prot.active.chgOc = false ∧
    (after (.packRecordPublication (scanOf 3700 501)) (watched 0 onDock)).prot.chargeOk = false ∧
    (after (.packRecordPublication (scanOf 3700 501)) (watched 0 ready)).prot.active.chgOc = false := by decide +kernel

theorem test_lockouts :
    (after (.packRecordPublication (scanOf 4401 0)) (watched 900 ready)).prot.lockout.ovSevere = true ∧
    (after (.packRecordPublication (scanOf 4400 0)) (watched 900 ready)).prot.lockedOut = false ∧
    (after (.packRecordPublication (scanOf 1499 0)) (watched 0 ready)).prot.lockout.uvSevere = true ∧
    (after (.packRecordPublication (scanOf 1500 0)) (watched 0 ready)).prot.lockedOut = false ∧
    (after (.packRecordPublication (scanOf 3700 (-40001))) (watched 900 ready)).prot.lockout.ocRepeat = true ∧
    (after (.packRecordPublication (scanOf 3700 (-40001))) (watched 900 ready)).prot.level = .lockout ∧
    (after (.packRecordPublication (scanOf 3700 (-40001)))
      { watched 900 ready with ctl := { ready.ctl with partTime := 60901 } }).prot.lockedOut = false := by decide +kernel

theorem test_dsg_oc_clears : (tripped false).prot.ocClear.isSome = true ∧
    (after .dsgOcClearExpiry (tripped false)).prot.dischargeOk = true ∧
    (after .dsgOcClearExpiry (tripped false)).prot.level = .normal := by decide +kernel

theorem test_clear_protection : Spec.Heads (asks 0x1A [] (tripped true)) 0x1A 0x1A [] [] ∧
    (tripped true).prot.level = .lockout ∧ (tripped true).ctl.lock = none ∧ (tripped true).pack.record.isSome = true ∧
    (tripped true).prot.active.dsgOc = false ∧
    (after .clearProtection (asks 0x1A [] (tripped true))).prot.lockedOut = false ∧
    (after .clearProtection (asks 0x1A [] (tripped true))).prot.level = .normal ∧
    answer (after .clearProtection (asks 0x1A [] ready)) = [0x9A, 0x16] ∧
    answer (after .clearProtection (asks 0x1A [] (locked (tripped true)))) = [0x9A, 0x17] ∧
    answer (after .clearProtection
      (asks 0x1A [] { tripped true with pack := { ready.pack with record := none } })) = [0x9A, 0x16] := by
  refine ⟨heads ?_, ?_, ?_, ?_, ?_, ?_, ?_, ?_, ?_, ?_⟩ <;> decide +kernel

/-- A record whose cells meet the limits of the lockout conditions, both ends included. -/
theorem test_lockout_limits : ∀ c ∈ [Reading.num 4400, .num 1500], ∃ n, c = .num n ∧ n ≤ 4400 ∧ 1500 ≤ n := by
  intro c h
  simp only [List.mem_cons, List.not_mem_nil, or_false] at h
  rcases h with rfl | rfl
  · exact ⟨4400, rfl, by decide⟩
  · exact ⟨1500, rfl, by decide⟩

/-- A scan in progress with causes active, the sense timer running and LOCKOUT causes in force. -/
def causing (a : CauseSet) (t : Option Ms) : State :=
  { ready with pack := { ready.pack with scanning := true }, prot := { ready.prot with active := a, senseTimer := t } }

theorem test_causes_release :
    (after (.packRecordPublication (cellsOf 4149)) (causing ⟨true, false, false, false, false, false⟩ none)).prot.active.cellOv
      = false ∧
    (after (.packRecordPublication (cellsOf 4150)) (causing ⟨true, false, false, false, false, false⟩ none)).prot.active.cellOv
      = true ∧
    (after (.packRecordPublication (cellsOf 3100)) (causing ⟨false, true, false, false, false, false⟩ none)).prot.active.cellUv
      = false ∧
    (after (.packRecordPublication (cellsOf 3099)) (causing ⟨false, true, false, false, false, false⟩ none)).prot.active.cellUv
      = true ∧
    (after (.packRecordPublication (warmth (some 499) (some 0) (some 0) 0))
      (causing ⟨false, false, true, false, false, false⟩ none)).prot.active.dsgOt = false ∧
    (after (.packRecordPublication (warmth (some 500) (some 0) (some 0) 0))
      (causing ⟨false, false, true, false, false, false⟩ none)).prot.active.dsgOt = true ∧
    (after (.packRecordPublication (scanOf 3700 0)) (causing ⟨false, false, false, false, false, true⟩ (some 0))).prot.active.sense
      = false ∧
    (after (.packRecordPublication (scanOf 3700 0)) (causing ⟨false, false, false, false, false, true⟩ (some 1))).prot.active.sense
      = true ∧
    (after (.packRecordPublication (scanOf 3700 0)) (causing ⟨false, false, false, false, false, true⟩ none)).prot.senseTimer
      = some 1000 := by decide +kernel

theorem test_condition_timers :
    (after (.packRecordPublication (scanOf 4250 (-40000))) (scanning (some 900) ready)).prot.tOv = none ∧
    (after (.packRecordPublication (scanOf 4250 (-40000))) (scanning (some 900) ready)).prot.tOc = none ∧
    (after (.packRecordPublication (scanOf 4251 0)) (scanning none ready)).prot.tOv = some 1000 ∧
    (after (.packRecordPublication (scanOf 4251 0)) (scanning (some 901) ready)).prot.tOv = some 901 ∧
    (after (.packRecordPublication (scanOf 4401 0)) (scanning none ready)).prot.tOvSevere = some 1000 ∧
    (after (.packRecordPublication (scanOf 1499 0)) (scanning none ready)).prot.tUvSevere = some 1000 ∧
    (after (.packRecordPublication (scanOf 3700 5001)) (scanning none onDock)).prot.tChgCeiling = some 1000 := by
  decide +kernel

theorem test_cause_entries :
    (after (.packRecordPublication (scanOf 4251 0)) (scanning (some 900) ready)).ctl.ring.map
      (fun e => (e.code, e.value, e.second)) = [(.cellOv, .num 4251, some (.num 1))] ∧
    (after (.packRecordPublication (scanOf 2899 0)) (scanning (some 500) ready)).ctl.ring.map
      (fun e => (e.code, e.value, e.second)) = [(.cellUv, .num 2899, some (.num 1))] ∧
    (after (.packRecordPublication (scanOf 3700 (-40001))) (scanning (some 980) ready)).ctl.ring.map
      (fun e => (e.code, e.value, e.second)) = [(.dsgOc, .below, some (.num 1))] ∧
    (after (.packRecordPublication (scanOf 499 0)) (scanning none ready)).ctl.ring.map
      (fun e => (e.code, e.value, e.second)) = [(.sense, .num 1, none)] ∧
    (after (.packRecordPublication (scanOf 3700 5001)) (watched 900 onDock)).ctl.ring.map
      (fun e => (e.code, e.value, e.second)) = [(.chgOc, .num 5001, some (.num onDock.pack.need.limit))] := by
  decide +kernel

/-- A part locked out by a cause, with a latest record. -/
def barred (l : LockoutSet) (f : PackRecord → PackRecord) : State :=
  { tripped true with
    prot := { (tripped true).prot with lockout := l }, pack := { ready.pack with record := ready.pack.record.map f } }

theorem test_clear_denied :
    answer (after .clearProtection (asks 0x1A [] (barred ⟨true, false, false, false⟩
      (fun r => { r with cells := [.num 4401] })))) = [0x9A, 0x16] ∧
    answer (after .clearProtection (asks 0x1A [] (barred ⟨true, false, false, false⟩
      (fun r => { r with cells := [.num 4400] })))) = [0x9A, 0x00] ∧
    answer (after .clearProtection (asks 0x1A [] (barred ⟨false, true, false, false⟩
      (fun r => { r with cells := [.num 1499] })))) = [0x9A, 0x16] ∧
    answer (after .clearProtection (asks 0x1A [] (barred ⟨false, false, true, false⟩
      (fun r => { r with packI := .num (-40001) })))) = [0x9A, 0x16] ∧
    answer (after .clearProtection (asks 0x1A [] (barred ⟨false, false, true, false⟩
      (fun r => { r with packI := .num (-40000) })))) = [0x9A, 0x00] := by decide +kernel

/-! ### Debris sensor and attachment -/

/-- The rug edge of the manual: window 1 and window 2 of a head at 98,000 rpm, with a filter state and a bin load. -/
def onRug (filter d b c : Nat) : State :=
  { drv (fun x => { x with speed := some 98000 }) running with
    debris := { running.debris with s := filter, d := some d, level := .light, b := b, c := c, clearRef := 720,
                                    floors := [none, none, none, none, none, none, some 140, none] } }

theorem test_rug_edge : (onRug 200 50 399800 230).debris.windowTimer.isSome = true ∧
    (onRug 200 50 399800 230).debris.cal = none ∧
    (after .piezoPulse (onRug 200 50 399800 230)).debris.c = 231 ∧
    (after (.debrisWindow 0 680) (onRug 200 50 399800 230)).debris.last
      = ⟨some 98000, some 6, some 230, some 90, some 680, some 40, some 110⟩ ∧
    (after (.debrisWindow 0 680) (onRug 200 50 399800 230)).debris.d = some 65 ∧
    (after (.debrisWindow 0 680) (onRug 260 65 399910 230)).debris.level = .medium ∧
    (after (.debrisWindow 0 680) (onRug 260 65 399910 230)).debris.binFull = true := by decide +kernel

/-- With neither path the index is absent, and one path alone gives a raw reading. -/
theorem test_debris_paths : (after (.debrisWindow 0 680) running).debris.d = none ∧
    (after (.debrisWindow 0 680) running).debris.last.n = none ∧
    (after (.debrisWindow 0 92) { running with debris := { running.debris with clearRef := 100 } }).debris.last.r = some 4 ∧
    (after (.debrisWindow 0 92) { running with debris := { running.debris with clearRef := 99 } }).debris.last.r = none := by
  decide +kernel

theorem test_levels : nextLevel ⟨24, 72, 144, 8, 16, 32, 400000⟩ 144 .clean = .heavy ∧
    nextLevel ⟨24, 72, 144, 8, 16, 32, 400000⟩ 24 .clean = .light ∧
    nextLevel ⟨24, 72, 144, 8, 16, 32, 400000⟩ 23 .clean = .clean ∧
    nextLevel ⟨24, 72, 144, 8, 16, 32, 400000⟩ 72 .light = .medium ∧
    nextLevel ⟨24, 72, 144, 8, 16, 32, 400000⟩ 143 .clean = .medium ∧
    fallingThreshold ⟨24, 72, 144, 8, 16, 32, 400000⟩ .medium = 64 ∧
    nextLevel ⟨24, 72, 144, 8, 16, 32, 400000⟩ 64 .medium = .medium ∧
    nextLevel ⟨24, 72, 144, 8, 16, 32, 400000⟩ 63 .medium = .light := by decide +kernel

theorem test_calibrate_floor : Spec.Heads (asks 0x23 [] ready) 0x23 0x23 [] [] ∧ ready.drive.mode = .off ∧
    (after .calibrateFloor (asks 0x23 [] ready)).drive.owner = .calibration ∧
    answer (after .calibrateFloor (asks 0x23 [] ready)) = [0xA3, 0x01] ∧
    answer (after .calibrateFloor (asks 0x23 [] (storing ready))) = [0xA3, 0x10] ∧
    answer (after .calibrateFloor (asks 0x23 [] running)) = [0xA3, 0x16] := by
  refine ⟨heads ?_, ?_, ?_, ?_, ?_, ?_⟩ <;> decide +kernel

/-- A floor calibration that counts or seeks in a band, the motor at a speed. -/
def calibrating (phase : CalPhase) (band windows speed : Nat) : State :=
  { drv (fun d => { d with owner := .calibration, mode := .off, speed := some speed }) running with
    debris := { running.debris with
      c := 20, cal := some ⟨phase, band, 7500 + 15000 * band, none, some 3000, windows, 60, 300, List.replicate (band - 1) 7,
                            some 700⟩ } }

/-- The window of a state is due at its part time. -/
def dueNow (s : State) : State := { s with debris := { s.debris with windowTimer := some s.ctl.partTime } }

theorem test_calibration_windows : (7500 + 15000 * 1 ≤ 21500 + 1000) ∧
    ((after (.debrisWindow 0 100) (calibrating .counting 1 6 21500)).debris.cal.map FloorCal.windows) = some 7 ∧
    ((after (.debrisWindow 0 100) (calibrating .counting 1 6 21499)).debris.cal.map FloorCal.windows) ≠ some 7 ∧
    ((after (.debrisWindow 0 100) (calibrating .counting 1 7 23500)).debris.cal.map FloorCal.band) = some 2 ∧
    ((after (.debrisWindow 0 100) (calibrating .counting 1 7 23500)).debris.cal.map FloorCal.staged) = some [13] ∧
    ((after (.debrisWindow 0 100) (calibrating .counting 1 7 23500)).debris.cal.bind FloorCal.candidate) = some 50 ∧
    (after (.debrisWindow 0 100) (calibrating .counting 7 7 112500)).debris.floors
      = [none, some 7, some 7, some 7, some 7, some 7, some 7, some 13] ∧
    (after (.debrisWindow 0 100) (calibrating .counting 7 7 112500)).drive.state = .coast := by decide +kernel

/-- A calibration whose settle timer has another value. -/
def settling (t : Option Ms) (s : State) : State :=
  { s with debris := { s.debris with cal := s.debris.cal.map (fun k => { k with settle := t }) } }

/-- The settle test, and a counting window out of the band. -/
theorem test_pulse_in_calibration : (calibrating .counting 1 3 22500).debris.windowTimer.isSome = true ∧
    (calibrating .counting 1 3 22500).debris.cal.isSome = true ∧
    (after .piezoPulse (calibrating .counting 1 3 22500)).debris.c = (calibrating .counting 1 3 22500).debris.c + 1 := by
  decide +kernel

theorem test_settle :
    let cal := fun (s : State) => (after (.debrisWindow 0 100) s).debris.cal
    ((cal (calibrating .seeking 1 0 21500)).bind FloorCal.settle) = some 1000 ∧
    ((cal (settling (some 801) (calibrating .seeking 1 0 23500))).map FloorCal.phase) = some .seeking ∧
    ((cal (settling (some 800) (calibrating .seeking 1 0 23500))).map FloorCal.phase) = some .counting ∧
    ((cal (settling (some 800) (calibrating .seeking 1 0 23500))).bind FloorCal.bandTimer) = none ∧
    ((cal (settling (some 800) (calibrating .seeking 1 0 23501))).bind FloorCal.settle) = none ∧
    ((cal (calibrating .counting 1 6 23501)).map (fun k => (k.phase, k.bandTimer, k.windows)))
      = some (.seeking, some 4000, 0) := by decide +kernel

/-- The write that a success begins: into an active segment, and as a compaction with none or with no room. -/
theorem test_floor_write :
    let op := fun (s : State) => (after (.debrisWindow 0 100) s).store.op
    let done := calibrating .counting 7 7 112500
    op { done with store := (stored done).store }
      = some ⟨.write, 1, 0x04, 0x23, u16 700 ++ [7, 7, 7, 7, 7, 7, 13].flatMap u16, 0, 0⟩ ∧
    ((op { done with store := { (stored done).store with append := [some 2, some 500, some 2, some 2] } }).map
      (fun o => (o.kind, o.segment, o.generation))) = some (.compaction, 2, 2) ∧
    ((op done).map (fun o => (o.kind, o.segment, o.generation))) = some (.compaction, 1, 1) ∧
    (op { done with store := (storing done).store }) = (storing done).store.op ∧
    (after (.debrisWindow 0 100) { done with
      store := (storing done).store, host := { done.host with tx := some ⟨[], false⟩ } }).host.reports.head?
      = some (.done 0x23 .storeFailed 7) := by decide +kernel

theorem test_band_timer : ((calibrating .seeking 3 0 40000).debris.cal.map FloorCal.phase) = some .seeking ∧
    (after .bandTimerExpiry (calibrating .seeking 3 0 40000)).debris.cal = none ∧
    (after .bandTimerExpiry (calibrating .seeking 3 0 40000)).drive.owner = .none := by decide +kernel

theorem test_resolve : resolveId defaultEntries (.num 3200) = .bare ∧ resolveId defaultEntries (.num 3199) = .unknown ∧
    resolveId defaultEntries .above = .bare ∧ resolveId defaultEntries (.num 400) = .entry 0 ∧
    resolveId defaultEntries (.num 900) = .entry 0 ∧ resolveId defaultEntries (.num 901) = .unknown ∧
    resolveId defaultEntries (.num 2700) = .entry 3 := by decide +kernel

/-- A match of entry 0 with a candidate and its count. -/
def sampling (candidate : Option MatchResult) (count : Nat) : State :=
  { rolled .jamLatched running with att := { running.att with candidate := candidate, count := count } }

theorem test_id_samples : (sampling none 0).att.sampleTimer.isSome = true ∧
    (after (.idSample (.num 600)) (sampling (some (.entry 1)) 2)).att.voltage = .num 600 ∧
    (after (.idSample (.num 600)) (sampling (some (.entry 1)) 2)).att.count = 0 ∧
    (after (.idSample (.num 1200)) (sampling none 0)).att.count = 1 ∧
    (after (.idSample (.num 1200)) (sampling (some (.entry 1)) 1)).att.count = 2 ∧
    (after (.idSample (.num 1200)) (sampling (some (.entry 1)) 2)).att.result = .entry 1 ∧
    (after (.idSample (.num 1200)) (sampling (some (.entry 1)) 2)).roll.state = .off := by decide +kernel

/-- A band timer that runs out as a window is due, and one that runs out before. -/
theorem test_window_at_no_speed : (calibrating .seeking 2 0 30000).bandTimed = true ∧
    (after .bandTimerExpiry (calibrating .seeking 2 0 30000)).debris.windowTimer = none ∧
    (after .bandTimerExpiry (dueNow (calibrating .seeking 2 0 30000))).drive.state = .coast ∧
    (after .bandTimerExpiry (dueNow (calibrating .seeking 2 0 30000))).debris.windowTimer = some 1000 ∧
    (after (.debrisWindow 0 100) (after .bandTimerExpiry (dueNow (calibrating .seeking 2 0 30000)))).debris.last.c
      = some 20 ∧
    (after (.debrisWindow 0 100) (after .bandTimerExpiry (dueNow (calibrating .seeking 2 0 30000)))).debris.windowTimer
      = none := by decide +kernel

/-- A SET_SUCTION that takes a calibration over, and one that ends it. -/
theorem test_suction_ends_calibration : (calibrating .counting 1 3 22500).debris.cal.isSome = true ∧
    (after .setSuction (asks 0x10 [1] (calibrating .counting 1 3 22500))).drive.state = .run ∧
    (after .setSuction (asks 0x10 [1] (calibrating .counting 1 3 22500))).drive.owner = .host ∧
    (after .setSuction (asks 0x10 [1] (calibrating .counting 1 3 22500))).debris.cal = none ∧
    (after .setSuction (asks 0x10 [0] (calibrating .counting 1 3 22500))).drive.state = .coast := by decide +kernel

/-- A debris sensor with a clear_ref, at a level with a filter state, whose transmitter is busy and reports DIRT. -/
def dirty (clearRef s b : Nat) (level : DirtLevel) : State :=
  { running with
    debris := { running.debris with clearRef := clearRef, s := s, d := some (s / 4), b := b, level := level }
    host := { running.host with tx := some ⟨[1], false⟩, mask := 0x04, reports := [] } }

theorem test_level_falls : fallingThreshold ⟨24, 72, 144, 8, 16, 32, 400000⟩ .heavy = 136 ∧
    nextLevel ⟨24, 72, 144, 8, 16, 32, 400000⟩ 135 .heavy = .medium ∧
    nextLevel ⟨24, 72, 144, 8, 16, 32, 400000⟩ 136 .heavy = .heavy ∧
    nextLevel ⟨24, 72, 144, 8, 16, 32, 400000⟩ 15 .heavy = .clean := by decide +kernel

theorem test_dirty_sensor :
    (after (.debrisWindow 0 50) { dirty 99 0 0 .clean with host := ready.host }).ctl.ring.map
      (fun e => (e.code, e.value, e.second)) = [(.sensorDirty, .num 99, some (.num 50))] ∧
    (after (.debrisWindow 0 50) (dirty 100 0 0 .clean)).ctl.ring = [] ∧
    (after (.debrisWindow 0 50) (dirty 99 0 0 .clean)).debris.dirtyLogged = true := by decide +kernel

theorem test_dirt_reports :
    (after (.debrisWindow 0 0) (dirty 1023 1000 0 .clean)).host.reports.map reportType = [0x03] ∧
    (after (.debrisWindow 0 0) (dirty 1023 1000 0 .heavy)).host.reports = [] ∧
    (after (.debrisWindow 0 0) (dirty 1023 1000 399999 .heavy)).debris.binFull = true ∧
    ((after (.debrisWindow 0 0) (dirty 1023 1000 399999 .heavy)).host.reports.map reportWire).length = 1 := by
  decide +kernel

/-! ### Contact link and the stick session -/

/-- The frames read back, at the greatest values of their fields. -/
theorem test_contact_frames : (charging.charger.budget ≤ 600000) ∧
    frameMessage .stick (contactWire 0x11 (hailPayload charging)).tail
      = some (.hail ⟨1, 360, ⟨false, false, false⟩⟩) ∧
    frameMessage .stick (contactWire 0x12 (pollPayload { charging with charger :=
      { charging.charger with vOut := some 65534, iOut := .num 32766 } })).tail
      = some (.poll ⟨.cc, some 65534, .num 32766, .idle, ⟨false, false, false⟩⟩) ∧
    frameMessage .dock (contactWire 0x91 (answerPayload onDock)).tail
      = some (.answer ⟨6, some 500, 400, .normal, true⟩) ∧
    frameMessage .dock (contactWire 0x92 (needPayload ready)).tail
      = some (.need ⟨ready.pack.need, false, .normal, some 500⟩) ∧ onDock.debris.b < 65536000 := by decide +kernel

/-- A contact receiver with the bytes after a start byte, if it holds a frame. -/
def heardSo (bytes : Option (List Byte)) (s : State) : State := { s with contact := { s.contact with rx := bytes } }

theorem test_contact_receiver : ready.contact.tx = none ∧
    (after (.contactByteArrival 0x5A) ready).contact.rx = some [] ∧
    (after (.contactByteArrival 0x5B) ready).contact.rx = none ∧
    (after (.contactByteArrival 0x5A) { ready with contact := { ready.contact with tx := some [1] } }).contact.rx = none ∧
    (after (.contactByteArrival 0x11) (heardSo (some []) ready)).contact.rxGap = some 1005 ∧
    (after (.contactByteArrival 7) (heardSo (some [0x11, 4]) ready)).contact.rx = some [0x11, 4, 7] ∧
    (after .contactRxGapTimeout (heardSo (some [0x11]) ready)).contact.rx = none := by decide +kernel

/-- 0xFFFF as a dock budget, a bin load, a target and a limit; 0xFFFE, and an ABSENT SoC, are canonical. -/
theorem test_contact_numbers :
    frameMessage .stick (contactWire 0x11 [1, 0xFF, 0xFF, 0]).tail = none ∧
    frameMessage .dock (contactWire 0x91 [7, 0, 0, 0xFF, 0xFF, 0, 0]).tail = none ∧
    frameMessage .dock (contactWire 0x92 [0xFF, 0xFF, 0, 0, 1, 0, 0, 0, 0, 0xFF, 0xFF]).tail = none ∧
    frameMessage .dock (contactWire 0x92 [0, 0, 0xFF, 0xFF, 1, 0, 0, 0, 0, 0xFF, 0xFF]).tail = none ∧
    frameMessage .dock (contactWire 0x92 [0xFE, 0xFF, 0, 0, 1, 0, 0, 0, 0, 0xFF, 0xFF]).tail
      = some (.need ⟨⟨65534, 0, true, .none, false⟩, false, .normal, none⟩) := by decide +kernel

/-- A frame whose check byte is wrong is discarded, and the reply window stays open. -/
theorem test_contact_frame_invalid : frameMessage .stick ([0x11, 0, 7] : List Byte) = none ∧
    ([0x11, 0] : List Byte).length + 1 = byteAt [0x11, 0, 7] 1 + 3 ∧
    (after (.contactFrameInvalid 7) (heardSo (some [0x11, 0]) ready)).contact.rx = none ∧
    (after (.contactByteArrival 7) (heardSo (some [0x11, 0]) (dck (fun d => { d with window := some .hail }) vacant))).dock.window
      = some .hail := by decide +kernel

/-- A stick whose present and absent timers are set. -/
def sensing (t : Option Ms) (s : State) : State := { s with stick := { s.stick with presentTimer := t, absentTimer := t } }

theorem test_presence : ready.stick.state = .detached ∧ onDock.stick.state ≠ .detached ∧
    (after (.contactVoltageSample 9000) (sensing (some 950) ready)).stick.presentTimer = none ∧
    (after (.contactVoltageSample 9001) ready).stick.presentTimer = some 1000 ∧
    (after (.contactVoltageSample 9001) (sensing (some 951) ready)).stick.state = .detached ∧
    (after (.contactVoltageSample 9001) (sensing (some 950) running)).stick.state = .docked ∧
    (after (.contactVoltageSample 9001) (sensing (some 950) running)).drive.state = .coast ∧
    (after (.contactVoltageSample 3000) (sensing (some 800) onDock)).stick.absentTimer = none ∧
    (after (.contactVoltageSample 2999) (sensing (some 801) onDock)).stick.state = .docked ∧
    (after (.contactVoltageSample 2999) (sensing (some 800) onDock)).stick.state = .detached ∧
    (after (.contactVoltageSample 2999) (sensing (some 800) onDock)).stick.binding = none := by decide +kernel

/-- A stick on the dock with CHG_OC and CELL_OV active; lifted, the reason of its need record is the cause that stays. -/
def overcharged : State :=
  sensing (some 800)
    { onDock with
      prot := { onDock.prot with active := ⟨true, false, false, false, true, false⟩, chargeOk := false, level := .cutoff },
      pack := { onDock.pack with need := ⟨25200, 0, false, .cutoffChg, false⟩ } }

theorem test_docking_stops_the_roll : running.roll.state.runs = true ∧ running.drive.state = .run ∧
    Safety.motorPermitted running ∧ (after (.contactVoltageSample 9001) (sensing (some 950) running)).roll.state = .off ∧
    (after (.contactVoltageSample 9001) (sensing (some 950) (latched ready))).roll.state = .off := by decide +kernel

theorem test_absence_begins : onDock.stick.absentTimer = none ∧
    (after (.contactVoltageSample 2999) onDock).stick.absentTimer = some 1000 ∧
    (after (.contactVoltageSample 2999) (sensing (some 801) onDock)).stick.absentTimer = some 801 := by decide +kernel

theorem test_lift_releases_chg_oc : overcharged.prot.active.chgOc = true ∧
    (after (.contactVoltageSample 2999) overcharged).prot.active = ⟨true, false, false, false, false, false⟩ ∧
    (after (.contactVoltageSample 2999) overcharged).pack.need.reason = .protection := by decide +kernel

/-- A stick that charges. -/
def taking : State := { onDock with stick := { onDock.stick with state := .charging, silence := some 2900 } }

theorem test_silence : taking.stick.state = .charging ∧ taking.stick.silence.isSome = true ∧
    (after .silenceTimerExpiry taking).stick.state = .docked := by decide +kernel

/-- A HAIL of a version with a budget of 360 W. -/
def hail (version : Byte) : List Byte := contactWire 0x11 [version, 0x68, 0x01, 0x00]

theorem test_hail : (hearing (hail 1) taking).completesMessage (lastOf (hail 1))
      = some (.hail ⟨1, 360, ⟨false, false, false⟩⟩) ∧
    (hearing (hail 2) taking).completesMessage (lastOf (hail 2)) = some (.hail ⟨2, 360, ⟨false, false, false⟩⟩) ∧
    (after (.hailTaken (lastOf (hail 1))) (hearing (hail 1) taking)).stick.state = .docked ∧
    (after (.hailTaken (lastOf (hail 1))) (hearing (hail 1) taking)).contact.replyDue = some 1002 ∧
    (after (.hailTaken (lastOf (hail 1))) (hearing (hail 1) taking)).contact.waiting
      = some (contactWire 0x91 (answerPayload taking)) ∧
    (after (.hailTaken (lastOf (hail 2))) (hearing (hail 2) taking)).stick.state = .charging := by decide +kernel

/-- A POLL of a charger state and an evacuation state. -/
def poll (charger evac : Byte) : List Byte := contactWire 0x12 [charger, 0xC0, 0x5D, 0xDC, 0x05, evac, 0x00]

theorem test_poll_done_once : (hearing (poll 0 2) onDock).completesMessage (lastOf (poll 0 2))
      = some (.poll ⟨.off, some 24000, .num 1500, .done, ⟨false, false, false⟩⟩) ∧
    (after (.pollTaken (lastOf (poll 0 2))) (hearing (poll 0 2) onDock)).debris.b = 0 ∧
    ((after (.pollTaken (lastOf (poll 0 2))) (hearing (poll 0 2) onDock)).stick.binding.map StickBinding.seenDone)
      = some true ∧
    (after (.pollTaken (lastOf (poll 0 1))) (hearing (poll 0 1) onDock)).debris.b = 400000 := by decide +kernel

theorem test_poll_charging : (after (.pollTaken (lastOf (poll 2 0))) (hearing (poll 2 0) taking)).stick.silence
      = some 3000 ∧
    (after (.pollTaken (lastOf (poll 4 0))) (hearing (poll 4 0) taking)).stick.state = .docked ∧
    onDock.chargeFlows = false ∧
    (after (.pollTaken (lastOf (poll 2 0))) (hearing (poll 2 0) onDock)).stick.state = .docked := by decide +kernel

/-- A stick on the dock into which more than 50 mA flow. -/
def filling : State :=
  { onDock with pack := { onDock.pack with
      record := some ⟨990, List.replicate 6 (.num 3700), .num 22200, .num 1500, .num 250, .num 260, .num 300⟩ } }

theorem test_poll_starts_charging : filling.chargeFlows = true ∧ filling.stick.state = .docked ∧
    (after (.pollTaken (lastOf (poll 2 0))) (hearing (poll 2 0) filling)).stick.state = .charging := by decide +kernel

theorem test_stick_reply_sent :
    (after .stickReplyStart { onDock with contact := { onDock.contact with waiting := some [1], replyDue := some 1002 } }).contact.tx
      = some [1] ∧
    (after .stickReplySent { onDock with contact := { onDock.contact with tx := some [1] } }).contact.tx = none := by
  decide +kernel

/-! ### Dock session -/

theorem test_dock_presence : vacant.dock.state = .vacant ∧ vacant.ctl.role = .dock ∧
    (after (.contactCurrentSample 0) (dck (fun d => { d with presentTimer := some 900 }) vacant)).dock.presentTimer = none ∧
    (after (.contactCurrentSample 1) vacant).dock.presentTimer = some 1000 ∧
    (after (.contactCurrentSample 1) (dck (fun d => { d with presentTimer := some 901 }) vacant)).dock.state = .vacant ∧
    (after (.contactCurrentSample 1) (dck (fun d => { d with presentTimer := some 900 }) vacant)).dock.state = .hailing ∧
    (after (.contactCurrentSample 1) (dck (fun d => { d with presentTimer := some 900 }) vacant)).contact.tx
      = some (contactWire 0x11 (hailPayload vacant)) ∧
    (after (.contactCurrentSample 0) (dck (fun d => { d with absentTimer := some 900 }) charging)).dock.state = .vacant ∧
    (after (.contactCurrentSample 0) (dck (fun d => { d with absentTimer := some 900 }) charging)).charger.state = .off ∧
    (after (.contactCurrentSample 0) (dck (fun d => { d with absentTimer := some 901 }) charging)).dock.state = .charging := by
  decide +kernel

/-- A dock that hails, its timer running. -/
def hailing (count : Nat) : State :=
  dck (fun d => { d with state := .hailing, hailTimer := some 1250, hailCount := count, window := some .hail,
                         windowDue := some 1050 }) { vacant with ctl := { vacant.ctl with standbyTimer := none } }

theorem test_dock_timers : charging.dock.window = none ∧ charging.contact.tx = none ∧
    (after .pollTimerExpiry charging).dock.pollTimer = some 1500 ∧
    (after .pollTimerExpiry charging).contact.txKind = some .poll ∧
    (hailing 0).dock.window.isSome = true ∧ (after .hailTimerExpiry (hailing 0)).contact.held = some .hail ∧
    (after .hailTimerExpiry (dck (fun d => { d with window := none }) (hailing 0))).contact.txKind = some .hail ∧
    (after .pollTimerExpiry (dck (fun d => { d with window := some .poll }) charging)).contact.held = some .poll := by
  decide +kernel

theorem test_frame_sent_opens_window :
    (after .contactFrameSent { charging with contact :=
      { charging.contact with tx := some [1], txKind := some .poll } }).dock.windowDue = some 1050 := by decide +kernel

theorem test_windows_in_vacant :
    (after .contactFrameSent { vacant with contact :=
      { vacant.contact with tx := some [1], txKind := some .hail } }).dock.window = some .hail ∧
    (after .replyWindowExpiry (dck (fun d => { d with window := some .hail }) vacant)).dock.hailCount = 1 ∧
    (after .replyWindowExpiry (dck (fun d => { d with window := some .poll }) vacant)).dock.window = none := by
  decide +kernel

theorem test_hail_windows : (hailing 18).contact.held = none ∧ (hailing 19).dock.noAnswerLogged = false ∧
    (after .replyWindowExpiry (hailing 18)).dock.hailCount = 19 ∧
    (after .replyWindowExpiry (hailing 18)).dock.hailPeriod = 250 ∧
    (after .replyWindowExpiry (hailing 19)).dock.hailPeriod = 1000 ∧
    (after .replyWindowExpiry (hailing 19)).ctl.ring.map (fun e => e.code) = [.noAnswer] := by decide +kernel

/-- A dock whose POLL window is open with a count of misses. -/
def missing (n : Nat) (state : DockState) : State :=
  dck (fun d => { d with state := state, window := some .poll, windowDue := some 1050, binding := some (bond n) }) charging

theorem test_poll_windows : (missing 1 .charging).dock.binding = some (bond 1) ∧
    ((after .replyWindowExpiry (missing 1 .charging)).dock.binding.map DockBinding.missCount) = some 2 ∧
    (after .replyWindowExpiry (missing 1 .charging)).dock.state = .charging ∧
    (after .replyWindowExpiry (missing 2 .charging)).dock.state = .hold ∧
    (after .replyWindowExpiry (missing 2 .charging)).charger.state = .off ∧
    (after .replyWindowExpiry (missing 2 .charging)).ctl.ring.map (fun e => (e.code, e.second))
      = [(.needLost, some (.num 3))] ∧
    ((after .replyWindowExpiry (missing 2 .hold)).dock.binding.map DockBinding.missCount) = some 3 ∧
    (after .replyWindowExpiry (missing 18 .hold)).dock.state = .hold ∧
    ((after .replyWindowExpiry (missing 18 .hold)).dock.binding.map DockBinding.missCount) = some 19 ∧
    (after .replyWindowExpiry (missing 19 .hold)).dock.state = .hailing ∧
    (after .replyWindowExpiry (missing 19 .hold)).dock.binding = none := by decide +kernel

/-- An ANSWER of 7 cells. -/
def answered : List Byte := contactWire 0x91 [7, 0xF4, 0x01, 0x0A, 0x00, 0x01, 0x01]

theorem test_answer_accepted : (hearing answered (hailing 3)).completesMessage (lastOf answered)
      = some (.answer ⟨7, some 500, 10, .derated, true⟩) ∧ (hailing 3).evac.phase = .none ∧
    (after (.answerAccepted (lastOf answered)) (hearing answered (hailing 3))).dock.state = .bound ∧
    (after (.answerAccepted (lastOf answered)) (hearing answered (hailing 3))).dock.pollTimer = some 1500 ∧
    (after (.answerAccepted (lastOf answered)) (hearing answered (hailing 3))).contact.txKind = some .poll := by
  decide +kernel

/-- An ANSWER accepted while a run of the fan is in flight. -/
theorem test_answer_in_run :
    let s := { hailing 3 with evac := ⟨.timing, some .manual, some 8, some 9000, some 500, none, none, none, none⟩ }
    (hearing answered s).dock.window = some .hail ∧ (hearing answered s).contact.tx = none ∧
    (after (.answerAccepted (lastOf answered)) (hearing answered s)).dock.state = .evacuating ∧
    (after (.answerAccepted (lastOf answered)) (hearing answered s)).dock.report = .running := by decide +kernel

/-- The samples that set, keep and clear the timers of the dock's presence. -/
theorem test_dock_presence_timers :
    (after (.contactCurrentSample 1) (dck (fun d => { d with presentTimer := some 901 }) vacant)).dock.presentTimer
      = some 901 ∧
    (after (.contactCurrentSample 0) (dck (fun d => { d with absentTimer := none }) charging)).dock.absentTimer
      = some 1000 ∧
    (after (.contactCurrentSample 0) (dck (fun d => { d with absentTimer := some 901 }) charging)).dock.absentTimer
      = some 901 ∧
    (after (.contactCurrentSample 1) (dck (fun d => { d with absentTimer := some 900 }) charging)).dock.absentTimer
      = none := by decide +kernel

/-- A NEED of a current limit. -/
def needed (limit : Nat) : List Byte :=
  contactWire 0x92 (needBytes ⟨25200, limit, true, .none, false⟩ ++ [0x00, 0x00, 0xF4, 0x01])

/-- A bound dock whose POLL is out, with nothing charging. -/
def polled : State :=
  { missing 1 .bound with charger := { vacant.charger with supply := some 36000 } }

theorem test_need_accepted : (hearing (needed 1) polled).completesMessage (lastOf (needed 1))
      = some (.need ⟨⟨25200, 1, true, .none, false⟩, false, .normal, some 500⟩) ∧ polled.contact.held = none ∧
    polled.dock.binding = some (bond 1) ∧ polled.dock.window = some .poll ∧
    (after (.needAccepted (lastOf (needed 1))) (hearing (needed 1) polled)).dock.state = .charging ∧
    (after (.needAccepted (lastOf (needed 1))) (hearing (needed 1) polled)).charger.state = .softstart ∧
    ((after (.needAccepted (lastOf (needed 1))) (hearing (needed 1) polled)).dock.binding.map DockBinding.missCount)
      = some 0 ∧
    (after (.needAccepted (lastOf (needed 0))) (hearing (needed 0) polled)).dock.state = .bound ∧
    (after (.needAccepted (lastOf (needed 0))) (hearing (needed 0) (missing 1 .charging))).charger.state = .off ∧
    (after (.needAccepted (lastOf (needed 1))) (hearing (needed 1) (missing 1 .charging))).charger.setpoint = 1 := by
  decide +kernel

/-! ### Charger and evacuation -/

theorem test_charger_reading : vacant.gov.timer = none ∧ vacant.ctl.role = .dock ∧
    (after (.chargerReading ⟨some 100, .num 7, some 36000⟩) vacant).charger.iOut = .num 0 ∧
    (after (.chargerReading ⟨some 100, .num 7, some 36000⟩) vacant).charger.vOut = some 100 := by decide +kernel

/-- A charger that has already faulted a number of times. -/
def chargingAfter (faults : Nat) : State :=
  { charging with charger := { charging.charger with faultCount := faults } }

theorem test_charger_period : (chargerPeriod ⟨some 24000, .num 0, some 29999⟩ (chargingAfter 1)).charger.restartTimer
      = some 6000 ∧
    (chargerPeriod ⟨some 24000, .num 0, none⟩ (chargingAfter 1)).charger.latched = false ∧
    (chargerPeriod ⟨some 24000, .num 0, none⟩ (chargingAfter 2)).charger.latched = true ∧
    (chargerPeriod ⟨some 25179, .num 2500, some 30000⟩ charging).charger.state = .cc ∧
    (chargerPeriod ⟨some 25180, .num 2500, some 30000⟩ charging).charger.state = .cv ∧
    (chargerPeriod ⟨some 25500, .num 2500, some 30000⟩ charging).charger.ovpTimer = none ∧
    (chargerPeriod ⟨some 25501, .num 2501, some 30000⟩ charging).charger.ovpTimer = some 1000 ∧
    charging.charger.target + 300 = 25500 ∧ charging.charger.setpoint + 1000 = 2500 := by decide +kernel

/-- A charging dock with a charger record that differs, at part time 1000. -/
def stage (f : Charger → Charger) : State := { charging with charger := f charging.charger }

/-- A governor period of the dock with one reading of V_out and I_out, and a supply of 36,000 mV. -/
def periodOf (vOut : Nat) (iOut : Reading) (s : State) : State := after (.governorPeriod [⟨some vOut, iOut, some 36000⟩]) s

theorem test_stage_faults :
    (periodOf 25501 (.num 0) (stage (fun c => { c with ovpTimer := some 991 }))).charger.state = .cv ∧
    (periodOf 25501 (.num 0) (stage (fun c => { c with ovpTimer := some 990 }))).charger.faultCause = some .ovp ∧
    (periodOf 25501 (.num 0) (stage (fun c => { c with ovpTimer := some 990 }))).ctl.ring.map
      (fun e => (e.code, e.value, e.second)) = [(.ovp, .num 25501, some (.num 25200))] ∧
    (periodOf 24000 (.num 2501) (stage (fun c => { c with ocpTimer := some 990 }))).ctl.ring.map
      (fun e => (e.code, e.value, e.second)) = [(.ocp, .num 2501, some (.num 1500))] ∧
    (periodOf 24000 .above (stage id)).charger.ocpTimer = some 1000 ∧
    (periodOf 24000 (.num 2500) (stage (fun c => { c with ocpTimer := some 990 }))).charger.ocpTimer = none := by
  decide +kernel

theorem test_stage_regulates :
    (periodOf 24000 (.num 0) (stage (fun c => { c with state := .softstart, enteredAt := 850 }))).charger.setpoint = 1500 ∧
    (periodOf 24000 (.num 0) (stage (fun c => { c with state := .softstart, enteredAt := 850 }))).charger.state
      = .softstart ∧
    (periodOf 24000 (.num 0) (stage (fun c => { c with state := .softstart, enteredAt := 800 }))).charger.state = .cc ∧
    (periodOf 25180 (.num 0) (stage id)).charger.state = .cv ∧
    (periodOf 25179 (.num 0) (stage id)).charger.state = .cc ∧
    (periodOf 25200 (.num 2000) (stage (fun c => { c with state := .cv }))).charger.state = .cc ∧
    (periodOf 25200 (.num 1999) (stage (fun c => { c with state := .cv }))).charger.state = .cv := by decide +kernel

/-- The manual's split with a running fan. -/
theorem test_split : (splitOf 360000 300000 (some 28000)).cap = 1941 ∧
    (splitOf 120000 300000 (some 28000)).fanGrant = 118000 ∧ (splitOf 360000 0 (some 17500)).cap = 16781 := by
  decide +kernel

/-- A charger in FAULT whose restart timer runs, in a session. -/
def resting (state : DockState) (limit : Nat) : State :=
  { dck (fun d => { d with state := state, binding := some { bond 0 with
      need := some ⟨⟨25200, limit, true, .none, false⟩, false, .normal, none⟩ } }) charging with
    charger := { charging.charger with state := .fault, setpoint := 0, restartTimer := some 6000, faultCause := some .ocp } }

theorem test_restart : (resting .charging 1).charger.restartTimer.isSome = true ∧
    (after .restartTimerExpiry (resting .charging 1)).charger.state = .softstart ∧
    (after .restartTimerExpiry (resting .evacuating 1)).charger.state = .softstart ∧
    (after .restartTimerExpiry (resting .charging 0)).charger.state = .off ∧
    (after .restartTimerExpiry (resting .bound 1)).charger.state = .off := by decide +kernel

/-- Restart pending, set by a command in FAULT, stands after the restart and falls at the entry to OFF. -/
theorem test_restart_pending : (stage (fun c => { c with restartPending := true })).charger.restartPending = true ∧
    (after .restartTimerExpiry { resting .charging 1 with charger :=
      { (resting .charging 1).charger with restartPending := true } }).charger.restartPending = true ∧
    (after .restartTimerExpiry { resting .bound 1 with charger :=
      { (resting .bound 1).charger with restartPending := true } }).charger.restartPending = false := by decide +kernel

/-- A run whose duration timer runs, with the fan in RUN. -/
def emptying : State :=
  { dck (fun d => { d with state := .evacuating, report := .running }) charging with
    evac := ⟨.timing, some .counted, some 8, some 9000, some 500, none, none, none, none⟩,
    drive := { running.drive with owner := .evacuation, mode := .off } }

theorem test_start_evacuation : Spec.Heads (asks 0x2E [] charging) 0x2E 0x2E [] [] ∧ charging.evac.phase = .none ∧
    charging.drive.state = .off ∧ (after .startEvacuation (asks 0x2E [] charging)).dock.state = .evacuating ∧
    (after .startEvacuation (asks 0x2E [] charging)).drive.owner = .evacuation ∧
    (after .startEvacuation (asks 0x2E [] vacant)).dock.state = .vacant ∧
    answer (after .startEvacuation (asks 0x2E [] emptying)) = [0xAE, 0x10] ∧
    answer (after .startEvacuation (asks 0x2E [] { vacant with drive := (faulted false).drive })) = [0xAE, 0x16] := by
  refine ⟨heads ?_, ?_, ?_, ?_, ?_, ?_, ?_, ?_⟩ <;> decide +kernel

theorem test_duration_expiry : emptying.evac.phase = .timing ∧ emptying.evac.durationTimer.isSome = true ∧
    emptying.evac.kind = some .counted ∧ (after .durationTimerExpiry emptying).dock.report = .done ∧
    (after .durationTimerExpiry emptying).dock.state = .charging ∧
    (after .durationTimerExpiry emptying).drive.state = .coast ∧
    ((after .durationTimerExpiry emptying).dock.binding.bind DockBinding.evacResult) = some .done := by decide +kernel

theorem test_blocked_run : 600000000 / (Spec.ringWith (List.replicate 5 2857) 2857).sum = 35001 ∧
    (after (.zeroCrossing 2857) (holding 2857 (some (1000 - 2000)) emptying)).evac.lastResult = some .blocked ∧
    (after (.zeroCrossing 2857) (holding 2857 (some (1000 - 2000)) emptying)).drive.state = .coast ∧
    (after (.zeroCrossing 2857) (holding 2857 (some (1000 - 1999)) emptying)).drive.state = .run := by decide +kernel

/-- A NEED that asks for an evacuation. -/
def sated (limit : Nat) : List Byte :=
  contactWire 0x92 (needBytes ⟨25200, limit, true, .none, false⟩ ++ [0x01, 0x00, 0xF4, 0x01])

theorem test_counted_run : (hearing (sated 1) polled).completesMessage (lastOf (sated 1))
      = some (.need ⟨⟨25200, 1, true, .none, false⟩, true, .normal, some 500⟩) ∧ polled.drive.state = .off ∧
    (after (.needAccepted (lastOf (sated 1))) (hearing (sated 1) polled)).evac.kind = some .counted ∧
    (after (.needAccepted (lastOf (sated 1))) (hearing (sated 1) polled)).dock.state = .evacuating ∧
    (after (.needAccepted (lastOf (sated 1))) (hearing (sated 1) polled)).charger.state = .softstart ∧
    (after (.needAccepted (lastOf (sated 0))) (hearing (sated 0) polled)).drive.owner = .evacuation ∧
    (after (.needAccepted (lastOf (sated 1))) (hearing (sated 1) (drv (fun _ => coasting.drive) polled))).evac.phase = .none
      := by decide +kernel

/-- A NEED that starts a run out of HOLD, and what becomes of a report state of DONE. -/
theorem test_need_after_run :
    (after (.needAccepted (lastOf (sated 1))) (hearing (sated 1) (dck (fun d => { d with state := .hold }) polled))).dock.state
      = .evacuating ∧
    (after (.needAccepted (lastOf (sated 1))) (hearing (sated 1) (dck (fun d => { d with state := .hold }) polled))).evac.kind
      = some .counted ∧
    (after (.needAccepted (lastOf (needed 1))) (hearing (needed 1)
      (dck (fun d => { d with report := .done }) polled))).dock.report = .idle ∧
    (after (.needAccepted (lastOf (sated 1))) (hearing (sated 1) (dck (fun d =>
      { d with report := .done, binding := some { bond 1 with evacsDone := 1 } }) polled))).dock.report = .done := by
  decide +kernel

theorem test_need_elsewhere :
    (after (.needAccepted (lastOf (needed 1))) (hearing (needed 1) (missing 1 .hold))).dock.state = .charging ∧
    (after (.needAccepted (lastOf (needed 0))) (hearing (needed 0) (missing 1 .hold))).dock.state = .bound ∧
    (after (.needAccepted (lastOf (sated 1))) (hearing (sated 1) (missing 1 .evacuating))).dock.state = .evacuating ∧
    (after (.needAccepted (lastOf (needed 1))) (hearing (needed 1)
      { missing 1 .hold with evac := emptying.evac })).dock.state = .evacuating ∧
    (after (.needAccepted (lastOf (needed 0))) (hearing (needed 0) (missing 1 .evacuating))).charger.state = .off := by
  decide +kernel

/-- A dock whose fan has another state. -/
def fanIs (f : Drive → Drive) : State := drv f charging

theorem test_evacuation_starts_elsewhere : Spec.Heads (asks 0x2E [] (fanIs (fun _ => coasting.drive))) 0x2E 0x2E [] [] ∧
    (after .startEvacuation (asks 0x2E [] (fanIs (fun _ => coasting.drive)))).drive.startPending = true ∧
    (after .startEvacuation (asks 0x2E [] (fanIs (fun _ => { coasting.drive with
      speed := some 20000, speedAtStop := some 30000 })))).drive.catchCount = some 0 ∧
    (after .startEvacuation (asks 0x2E [] (fanIs (fun _ => catching.drive)))).drive.catchCount = some 5 ∧
    (after .startEvacuation (asks 0x2E [] (fanIs (fun _ => running.drive)))).drive.owner = .evacuation ∧
    answer (after .startEvacuation (asks 0x2E [] (fanIs (fun _ => ramping.drive)))) = [0xAE, 0x01] := by
  refine ⟨heads ?_, ?_, ?_, ?_, ?_, ?_⟩ <;> decide +kernel

/-- A fan whose run has just ended DONE, with misses and the timers of its speed conditions. -/
def cutOff (misses : Nat) (period : Nat) : State :=
  after .durationTimerExpiry (drv (fun d => { d with
    missCount := misses, ring := List.replicate 5 period, xref := some ⟨0, period⟩, stallTimer := some 900,
    overTimer := some 950 }) emptying)

theorem test_fault_at_the_end : (cutOff 3 5000).missesAtEnd = some 3 ∧ (cutOff 3 5000).drive.state = .coast ∧
    after (.busCurrentReading (.num 45001)) (cutOff 3 5000) = cutOff 3 5000 ∧
    (after .crossingWindowExpiry (cutOff 3 5000)).drive.faultCause = some .desync ∧
    (after .crossingWindowExpiry (cutOff 3 5000)).drive.released = some true ∧
    (after .crossingWindowExpiry (cutOff 3 5000)).evac.lastResult = some .done ∧
    (after .crossingWindowExpiry (cutOff 2 5000)).drive.state = .coast ∧
    (after (.zeroCrossing 6667) (cutOff 0 6667)).drive.faultCause = some .stall ∧
    (after (.zeroCrossing 2000) (cutOff 0 2000)).drive.faultCause = some .overspeed ∧
    (after (.zeroCrossing 5000) (cutOff 0 5000)).drive.state = .coast ∧
    (nextOf (step ((cutOff 3 5000).withPending []))).map State.missesAtEnd = some none := by
  decide +kernel

/-- The fields of an absent record in DOCK_STATUS: Booleans of 0 or 1. -/
theorem test_absent_boolean : ∀ free : Byte, optSet 1 free none = [0] ∨ optSet 1 free none = [1] := by decide +kernel

theorem test_speed_field : speedField (some 327660) = u16 32766 ∧ speedField (some 327661) = u16 0x7FFF ∧
    speedField none = u16 0x8000 := by decide +kernel

/-! ### Calibration store -/

/-- The user segment 1 with a record of tag 0x05; its bytes sum to 0: 5 + 2 + 88H + 13H + 5EH = 100H. -/
def recorded : State :=
  { stored ready with store := { (stored ready).store with
      mem := [⟨512, 1⟩, ⟨513, 0⟩, ⟨514, 5⟩, ⟨515, 2⟩, ⟨516, 0x88⟩, ⟨517, 0x13⟩, ⟨518, 0x5E⟩],
      append := [some 2, some 7, some 2, some 2] } }

theorem test_store_read : Spec.Heads (asks 0x30 [5] recorded) 0x30 0x30 [5] [] ∧ tagListed 5 = true ∧ tagListed 0 = false ∧
    lookup recorded.store.mem 5 = some (1, [0x88, 0x13]) ∧ lookup ready.store.mem 5 = none ∧
    answer (after .storeRead (asks 0x30 [5] recorded)) = [0xB0, 0x00, 0x01, 0x01, 0x02, 0x88, 0x13] ∧
    answer (after .storeRead (asks 0x30 [5] ready)) = [0xB0, 0x00, 0x00, 0xFF, 0x00] ∧
    answer (after .storeRead (asks 0x30 [0] ready)) = [0xB0, 0x14] := by
  refine ⟨heads ?_, ?_, ?_, ?_, ?_, ?_, ?_, ?_⟩ <;> decide +kernel

theorem test_store_write : Spec.Heads (asks 0x31 [0, 5, 2, 0x88, 0x13] recorded) 0x31 0x31 [0, 5, 2, 0x88, 0x13] [] ∧
    tagLength 5 2 = true ∧ recorded.store.fits 1 2 = true ∧ ready.store.active = none ∧ ready.store.factoryLock = false ∧
    answer (after .storeWrite (asks 0x31 [0, 5, 2, 0x88, 0x13] recorded)) = [0xB1, 0x01] ∧
    ((after .storeWrite (asks 0x31 [0, 5, 2, 0x88, 0x13] ready)).store.op.map StoreOp.kind) = some .compaction ∧
    ((after .storeWrite (asks 0x31 [1, 5, 2, 0x88, 0x13] ready)).store.op.map StoreOp.segment) = some 0 ∧
    answer (after .storeWrite (asks 0x31 [1, 5, 2, 0x88, 0x13]
      { ready with store := { ready.store with factoryLock := true } })) = [0xB1, 0x17] ∧
    answer (after .storeWrite (asks 0x31 [0, 5, 2, 0x88, 0x13] (storing ready))) = [0xB1, 0x10] ∧
    answer (after .storeWrite (asks 0x31 [2, 5, 2, 0x88, 0x13] ready)) = [0xB1, 0x14] := by
  refine ⟨heads ?_, ?_, ?_, ?_, ?_, ?_, ?_, ?_, ?_, ?_, ?_⟩ <;> decide +kernel

theorem test_store_erase : Spec.Heads (asks 0x32 [3] recorded) 0x32 0x32 [3] [] ∧
    answer (after .storeErase (asks 0x32 [3] recorded)) = [0xB2, 0x01] ∧
    answer (after .storeErase (asks 0x32 [4] recorded)) = [0xB2, 0x14] ∧
    answer (after .storeErase (asks 0x32 [0] { ready with store := { ready.store with factoryLock := true } }))
      = [0xB2, 0x17] ∧
    answer (after .storeErase (asks 0x32 [1] (storing ready))) = [0xB2, 0x10] ∧
    segByte (after .storeErase (asks 0x32 [1] recorded)).store.mem 1 0 = 0 := by
  refine ⟨heads ?_, ?_, ?_, ?_, ?_, ?_⟩ <;> decide +kernel

/-- A store operation is in flight on segment 1. -/
def doing (kind : OpKind) (step : Nat) : State :=
  { recorded with store := { recorded.store with op := some ⟨kind, 1, 5, 0x31, [1, 2], step, 7⟩ } }

theorem test_write_completes : (doing .write 0).store.append[1]? = some (some 7) ∧
    (after (.storeWriteComplete true) (doing .write 0)).store.append = [some 2, some 12, some 2, some 2] ∧
    lookup (after (.storeWriteComplete true) (doing .write 0)).store.mem 5 = some (1, [1, 2]) ∧
    (after (.storeWriteComplete false) (doing .write 0)).store.op = none ∧
    (after (.storeWriteComplete false) (doing .write 0)).ctl.ring.map (fun e => (e.value, e.second))
      = [(.num 5, some (.num 1))] := by
  refine ⟨?_, ?_, ?_, rfl, rfl⟩ <;> decide +kernel

theorem test_erase_completes : memWf (doing .erase 0).store.mem = true ∧
    (after (.storeEraseComplete true) (doing .erase 0)).store.mem = [] ∧
    (after (.storeEraseComplete true) (doing .erase 0)).store.append = [some 2, some 2, some 2, some 2] ∧
    (after (.storeEraseComplete false) (doing .erase 0)).ctl.nextSeq = 1 := by
  refine ⟨?_, ?_, ?_, rfl⟩ <;> decide +kernel

theorem test_compaction_steps :
    ((after (.compactionStepComplete none) (doing .compaction 1)).store.op.map StoreOp.step) = some 2 ∧
    ((after (.compactionStepComplete none) (doing .compaction 2)).store.op.map StoreOp.step) = some 3 ∧
    lookup (after (.compactionStepComplete none) (doing .compaction 3)).store.mem 5 = some (1, [1, 2]) ∧
    generation (after (.compactionStepComplete none) (doing .compaction 4)).store.mem 1 = some 7 ∧
    (after (.compactionStepComplete none) (doing .compaction 5)).store.op = none ∧
    (after (.compactionStepComplete (some 2)) (doing .compaction 3)).store.op = none := by
  refine ⟨?_, ?_, ?_, ?_, ?_, rfl⟩ <;> decide +kernel

/-- A compaction of segment 1 into another segment is in flight. -/
def compacting (target step : Nat) : State :=
  { recorded with store := { recorded.store with active := some 1, op := some ⟨.compaction, target, 5, 0x31, [1, 2], step, 2⟩ } }

theorem test_compaction_copies : compactionCopies recorded.store.mem 1 = [[5, 2, 0x88, 0x13, 0x5E]] ∧
    lookup (after (.compactionStepComplete none) (compacting 2 2)).store.mem 5 = some (1, [0x88, 0x13]) ∧
    (after (.compactionStepComplete none) (compacting 2 2)).store.mem
      = segWrite recorded.store.mem 2 2 [5, 2, 0x88, 0x13, 0x5E] ∧
    (after (.compactionStepComplete none) (compacting 2 2)).store.append = [some 2, some 7, some 7, some 2] ∧
    (after (.compactionStepComplete none) (compacting 2 5)).store.mem = [] ∧
    (after (.compactionStepComplete none) (compacting 3 5)).store.append = [some 2, some 2, some 2, some 2] := by
  decide +kernel

theorem test_read_backs_differ :
    (after (.storeEraseComplete false) (doing .erase 0)).ctl.ring.map (fun e => (e.code, e.value, e.second))
      = [(.verify, .num 5, some (.num 1))] ∧
    (after (.compactionStepComplete (some 3)) (compacting 2 2)).ctl.ring.map (fun e => (e.code, e.value, e.second))
      = [(.verify, .num 5, some (.num 2))] ∧
    (after (.compactionStepComplete (some 3)) (compacting 2 5)).ctl.ring.map (fun e => (e.code, e.value, e.second))
      = [(.verify, .num 5, some (.num 3))] := ⟨rfl, rfl, rfl⟩

theorem test_append_hypotheses : memWf recorded.store.mem = true ∧ (scanSegment recorded.store.mem 1).2 = some 7 ∧
    (∀ i, i < 512 → 7 ≤ i → segByte recorded.store.mem 1 i = 0xFF) ∧ tagLength 0xFE 1 = true ∧
    generation recorded.store.mem 1 = some 1 ∧
    (∀ other ∈ [1, 2, 3], other ≠ 1 → (generation recorded.store.mem other).getD 0 < 1) ∧
    lookup (segWrite recorded.store.mem 1 7 (recordBytes 5 [1, 2])) 5 = some (1, [1, 2]) := by decide +kernel

end Sys2Proof.Tests
end

/-! The limit lock set by LOCK_LIMITS (R47), through the common taking of a request (R159, R160). -/

namespace Sys2Proof.Machine

open Sys2Proof

/-! ### A request taken from the head of the receive queue -/

/-- A request that heads the queue is judged after the taking has begun, and its reply is formed from that. -/
theorem request_of_heads {q : RequestSpec} {s : State} {kind : Byte} {p : List Byte} {rest : List HostFrame}
    (h : Spec.Heads s q.code kind p rest) :
    request q s = .next (settle (replyTo q kind (judge q p (beginTaking rest s)))) :=
  have hcan : s.canTake = true := by simp [State.canTake, h.room, h.link]
  request_taken (f := ⟨kind, p⟩) h.head h.code hcan h.awake

/-- The reply of a request that neither always carries a summary nor asks for a reset. -/
theorem replyTo_eq_specReply {q : RequestSpec} (kind : Byte) (j : Judged) (hs : q.alwaysSummary = false)
    (hr : q.resets = false) : replyTo q kind j = Spec.reply kind (resultCode j.result) j.fields j.state := by
  by_cases hk : 0x40 ≤ kind.toNat
  · simp [replyTo, Spec.reply, asksSummary, hs, hr, hk, u8]
  · simp [replyTo, Spec.reply, asksSummary, hs, hr, hk, u8]

/-- A request accepted in the part's role is refused BAD_LENGTH when its length stage fails. -/
theorem judge_badLength (q : RequestSpec) (p : List Byte) (s : State) (hr : q.accepts s.ctl.role = true)
    (hl : q.lengthOk p = false) : judge q p s = refuse .badLength s := by
  simp [judge, hr, hl]

/-! ### A request with an empty payload, accepted in both roles -/

@[simp] theorem plainRequest_accepts (code : Nat) (act : State → Judged) (r : Role) :
    (plainRequest code act).accepts r = true := by
  cases r <;> rfl

theorem judge_plainRequest_nil (code : Nat) (act : State → Judged) (s : State) :
    judge (plainRequest code act) [] s = act s :=
  judge_act _ _ _ (plainRequest_accepts code act _) rfl rfl

theorem judge_plainRequest_of_ne_nil (code : Nat) (act : State → Judged) {p : List Byte} (s : State) (hp : p ≠ []) :
    judge (plainRequest code act) p s = refuse .badLength s :=
  judge_badLength _ _ _ (plainRequest_accepts code act _) (List.isEmpty_eq_false_iff.mpr hp)

/-- The taking of a plain request: with an empty payload its own stage gives the reply and the state. -/
theorem plainRequest_taken {code : Nat} {act : State → Judged} {s : State} {kind : Byte} {rest : List HostFrame}
    (h : Spec.Heads s code kind [] rest) :
    request (plainRequest code act) s
      = .next (settle (Spec.reply kind (resultCode (act (beginTaking rest s)).result)
          (act (beginTaking rest s)).fields (act (beginTaking rest s)).state)) := by
  rw [request_of_heads (q := plainRequest code act) h, judge_plainRequest_nil,
    replyTo_eq_specReply _ _ rfl rfl]

/-- The taking of a plain request whose payload is not empty: BAD_LENGTH, and only the taking itself has acted. -/
theorem plainRequest_badLength {code : Nat} {act : State → Judged} {s : State} {kind : Byte} {p : List Byte}
    {rest : List HostFrame} (h : Spec.Heads s code kind p rest) (hp : p ≠ []) :
    request (plainRequest code act) s = .next (settle (Spec.reply kind 0x12 [] (beginTaking rest s))) := by
  rw [request_of_heads (q := plainRequest code act) h, judge_plainRequest_of_ne_nil _ _ _ hp,
    replyTo_eq_specReply _ _ rfl rfl]
  rfl

/-! ### The limit lock -/

theorem exec_lockLimits (s : State) :
    exec .lockLimits s = request (plainRequest 0x14 (fun s => ⟨.ok, lockLimits s, []⟩)) s := rfl

/-- A clear limit lock captures the limits and the supervision period in force. -/
theorem lockLimits_of_clear {s : State} (h : s.ctl.lock = none) :
    lockLimits s = { s with ctl := { s.ctl with lock := some ⟨s.gov.limits, s.host.supPeriod⟩ } } := by
  simp [lockLimits, h]

/-- A limit lock that is set keeps what it captured first. -/
theorem lockLimits_of_set {s : State} (h : s.ctl.lock.isSome = true) : lockLimits s = s := by
  simp [lockLimits, h]

/-- Settles O27: the lock is judged after the taking has begun, which leaves it and the five values as they are. -/
theorem lockLimitsCaptures : Obligations.LockLimitsCaptures := by
  intro s kind rest p heads b
  have hlock : b.ctl.lock = s.ctl.lock := beginTaking_ctl_lock rest s
  refine ⟨?clear, ?set, ?badLength⟩
  case clear =>
    rintro rfl hclear
    rw [exec_lockLimits, plainRequest_taken heads, lockLimits_of_clear (hlock.trans hclear)]
    rfl
  case set =>
    rintro rfl hset
    rw [exec_lockLimits, plainRequest_taken heads, lockLimits_of_set (hlock ▸ hset)]
    rfl
  case badLength =>
    intro hp
    rw [exec_lockLimits, plainRequest_badLength heads hp]

end Sys2Proof.Machine

/-! The AUTO power and the demand of the selected mode (R30, R31). -/

namespace Sys2Proof.Machine

open Sys2Proof

/-! ### Which matches let AUTO follow the dirt index -/

theorem matched_of_bare {s : State} (h : s.att.result = .bare) : s.matched = none := by
  simp [State.matched, h]

theorem matched_of_unknown {s : State} (h : s.att.result = .unknown) : s.matched = none := by
  simp [State.matched, h]

theorem matched_of_entry {s : State} {i : Nat} (h : s.att.result = .entry i) :
    s.matched = s.att.entries[i]? := by
  simp [State.matched, h]

/-- Without a matched entry nothing forbids AUTO to follow. -/
theorem autoFollows_of_unmatched {s : State} (h : s.matched = none) : s.autoFollows = true := by
  simp [State.autoFollows, h]

/-- A matched entry decides by its auto_allowed. -/
theorem autoFollows_of_matched {s : State} {e : AttEntry} (h : s.matched = some e) :
    s.autoFollows = e.autoAllowed := by
  simp [State.autoFollows, h]

/-! ### The AUTO power -/

@[simp] theorem modePower_auto (p : ModePowers) (d : Option Nat) (follows : Bool) :
    modePower p .auto d follows = autoPower p d follows := rfl

@[simp] theorem autoPower_absent (p : ModePowers) (follows : Bool) : autoPower p none follows = p.med * 1000 := rfl

@[simp] theorem autoPower_not_following (p : ModePowers) (d : Option Nat) :
    autoPower p d false = p.med * 1000 := by
  cases d <;> rfl

@[simp] theorem autoPower_following (p : ModePowers) (d : Nat) :
    autoPower p (some d) true = p.eco * 1000 + (p.autoMax * 1000 - p.eco * 1000) * d / 255 := rfl

/-- At the highest dirt index the formula reaches AUTO_MAX, as ECO lies at or below it. -/
theorem autoPower_following_255 {p : ModePowers} (h : p.eco ≤ p.autoMax) :
    autoPower p (some 255) true = p.autoMax * 1000 := by
  rw [autoPower_following, Nat.mul_div_cancel _ (by decide : 0 < 255)]
  omega

/-! ### The demand of the selected mode -/

theorem modeDemand_le_attachmentCap (s : State) : s.modeDemand ≤ s.attachmentCap :=
  Nat.le_trans (Nat.min_le_right _ _) (Nat.min_le_left _ _)

theorem attachmentCap_of_unknown {s : State} (h : s.att.result = .unknown) :
    s.attachmentCap = s.gov.powers.eco * 1000 := by
  simp [State.attachmentCap, h]

/-- Settles O42, by whether AUTO follows the dirt index under the match. -/
theorem autoPowerFollowsDirt : Obligations.AutoPowerFollowsDirt := by
  intro s dirt hpowers hmode eco auto
  have hauto : auto = autoPower s.gov.powers dirt s.autoFollows := by simp only [auto, hmode, modePower_auto]
  refine ⟨?absent, ?notAllowed, ?follows, ?unknown, ?run⟩
  case absent =>
    rintro rfl
    rw [hauto, autoPower_absent]
  case notAllowed =>
    intro i e hresult hentry hallowed
    have hmatched := (matched_of_entry hresult).trans hentry
    rw [hauto, autoFollows_of_matched hmatched, hallowed, autoPower_not_following]
  case follows =>
    rintro d rfl hmatch
    have hfollows : s.autoFollows = true := by
      rcases hmatch with hbare | hunknown | ⟨i, e, hresult, hentry, hallowed⟩
      · exact autoFollows_of_unmatched (matched_of_bare hbare)
      · exact autoFollows_of_unmatched (matched_of_unknown hunknown)
      · rw [autoFollows_of_matched ((matched_of_entry hresult).trans hentry), hallowed]
    rw [hauto, hfollows]
    refine ⟨autoPower_following _ _, Nat.le_add_right _ _, ?zero, ?highest⟩
    case zero =>
      rintro rfl
      simp [eco]
    case highest =>
      rintro rfl
      exact autoPower_following_255 hpowers
  case unknown =>
    intro hunknown
    calc s.modeDemand ≤ s.attachmentCap := modeDemand_le_attachmentCap s
      _ = eco := attachmentCap_of_unknown hunknown
  case run =>
    rintro - rfl
    rfl

end Sys2Proof.Machine

/-! The requests that empty the fault ring and clear the reset cause flags (R177, R178). -/

namespace Sys2Proof.Machine

open Sys2Proof

/-! ### A request whose reply neither always carries a summary nor asks for a reset -/

/-- The taking of such a request, with its stages still to be judged. -/
theorem request_eq_specReply {q : RequestSpec} {s : State} {kind : Byte} {p : List Byte} {rest : List HostFrame}
    (h : Spec.Heads s q.code kind p rest) (hs : q.alwaysSummary = false) (hr : q.resets = false) :
    request q s = .next (settle (Spec.reply kind (resultCode (judge q p (beginTaking rest s)).result)
      (judge q p (beginTaking rest s)).fields (judge q p (beginTaking rest s)).state)) := by
  rw [request_of_heads h, replyTo_eq_specReply _ _ hs hr]

/-! ### CLEAR_FAULTS -/

theorem exec_clearFaults (s : State) : exec .clearFaults s = request clearFaultsSpec s := rfl

/-- With an empty payload the ring is emptied; the next sequence number and FAULT_NEW stand in the state that the reply is
formed in as the beginning of the taking left them. -/
theorem exec_clearFaults_nil {s : State} {kind : Byte} {rest : List HostFrame} (h : Spec.Heads s 0x06 kind [] rest) :
    exec .clearFaults s = .next (settle (Spec.reply kind 0x00 []
      { beginTaking rest s with ctl := { (beginTaking rest s).ctl with ring := [] } })) :=
  (exec_clearFaults s).trans (plainRequest_taken h)

theorem exec_clearFaults_badLength {s : State} {kind : Byte} {p : List Byte} {rest : List HostFrame}
    (h : Spec.Heads s 0x06 kind p rest) (hp : p ≠ []) :
    exec .clearFaults s = .next (settle (Spec.reply kind 0x12 [] (beginTaking rest s))) :=
  (exec_clearFaults s).trans (plainRequest_badLength h hp)

/-! ### CLEAR_CAUSE -/

theorem exec_clearCause (s : State) : exec .clearCause s = request clearCauseSpec s := rfl

theorem clearCauseSpec_accepts (r : Role) : clearCauseSpec.accepts r = true := by
  cases r <;> rfl

/-- The cause flags cleared by a mask byte: each flag falls with its bit, and the last kind stays (R172). -/
theorem causeRecord_clear_toNat (c : CauseRecord) (m : Byte) :
    c.clear m.toNat =
      { powerOn := c.powerOn && !m.getLsbD 0, pin := c.pin && !m.getLsbD 1,
        request := c.request && !m.getLsbD 2, shipWake := c.shipWake && !m.getLsbD 3, lastKind := c.lastKind } := by
  simp only [CauseRecord.clear, BitVec.testBit_toNat]

/-- A payload of one byte reaches the request's own stage. -/
theorem judge_clearCause_singleton (m : Byte) (s : State) :
    judge clearCauseSpec [m] s = clearCauseSpec.act [m] s :=
  judge_act _ _ _ (clearCauseSpec_accepts _) rfl rfl

theorem judge_clearCause_of_flags {m : Byte} (s : State) (hm : m.toNat < 16) :
    judge clearCauseSpec [m] s
      = ⟨.ok, { s with ctl := { s.ctl with cause := s.ctl.cause.clear m.toNat } }, []⟩ := by
  rw [judge_clearCause_singleton]
  exact if_neg (Nat.not_le.mpr hm)

theorem judge_clearCause_outOfRange {m : Byte} (s : State) (hm : 16 ≤ m.toNat) :
    judge clearCauseSpec [m] s = refuse .outOfRange s := by
  rw [judge_clearCause_singleton]
  exact if_pos hm

theorem judge_clearCause_badLength {p : List Byte} (s : State) (hp : p.length ≠ 1) :
    judge clearCauseSpec p s = refuse .badLength s :=
  judge_badLength _ _ _ (clearCauseSpec_accepts _) (decide_eq_false hp)

/-- CLEAR_CAUSE at the head of the queue: its stages give the result and the state that the reply is formed in. -/
theorem exec_clearCause_taken {s : State} {kind : Byte} {p : List Byte} {rest : List HostFrame}
    (h : Spec.Heads s 0x07 kind p rest) {j : Judged} (hj : judge clearCauseSpec p (beginTaking rest s) = j) :
    exec .clearCause s = .next (settle (Spec.reply kind (resultCode j.result) j.fields j.state)) := by
  rw [exec_clearCause, request_eq_specReply (q := clearCauseSpec) h rfl rfl, hj]

/-- Settles O32, by the stage at which each payload is judged. -/
theorem clearRequestsClear : Obligations.ClearRequestsClear := by
  intro s kind rest p b
  refine ⟨?faults, exec_clearFaults_badLength, ?flags, ?outOfRange, ?badLength⟩
  case faults =>
    rintro heads rfl
    exact exec_clearFaults_nil heads
  case flags =>
    rintro heads m rfl hm
    rw [exec_clearCause_taken heads (judge_clearCause_of_flags b hm), causeRecord_clear_toNat]
    rfl
  case outOfRange =>
    rintro heads m rfl hm
    rw [exec_clearCause_taken heads (judge_clearCause_outOfRange b hm)]
    rfl
  case badLength =>
    intro heads hp
    rw [exec_clearCause_taken heads (judge_clearCause_badLength b hp)]
    rfl

end Sys2Proof.Machine

/-! What one operation of the part keeps: the relations `Calm`, `Tame` and `Kept` between the state before an operation and
the one after it, each closed under composition. Every operation is shown once to stand in one of them, and the invariants
of the step are read off at the end. -/

namespace Sys2Proof.Machine

open Sys2Proof

/-- The CELLS strap is valid, or the part has no pack (R67). -/
def State.strapValid (s : State) : Prop := ¬ (s.ctl.role = .stick ∧ s.ctl.cells = 3)

/-- What every operation between the beginning of an event and `settle` keeps: the straps, part time, the waiting commands,
the bounds of the link, and every invariant but the motor's interlock, the permissions and the charge of a
pack with an invalid strap. -/
structure Calm (s t : State) : Prop where
  role : t.ctl.role = s.ctl.role := by rfl
  cells : t.ctl.cells = s.ctl.cells := by rfl
  partTime : t.ctl.partTime = s.ctl.partTime := by rfl
  pending : t.pending = s.pending := by rfl
  replies : t.host.replies.length ≤ s.host.replies.length := by exact Nat.le_refl _
  rxq : s.host.rxq.length ≤ 4 → t.host.rxq.length ≤ 4 := by exact id
  reports : s.host.reports.length ≤ 8 → t.host.reports.length ≤ 8 := by exact id
  errors : s.host.errors ≤ 65535 → t.host.errors ≤ 65535 := by exact id
  store : Safety.storeCanonical s → Safety.storeCanonical t := by exact id
  ring : Safety.ringConsecutive s → Safety.ringConsecutive t := by exact id
  limits : Safety.limitsBounded s → Safety.limitsBounded t := by exact id
  duty : Safety.limitsBounded s → Safety.dutyBounded s → Safety.dutyBounded t := by exact fun _ => id
  charger : Safety.chargerBounded s → Safety.chargerBounded t := by exact id
  dirt : Safety.dirtBounded s → Safety.dirtBounded t := by exact id
  charge : s.strapValid → Safety.chargeBounded s → Safety.chargeBounded t := by exact fun _ => id
  balance : Safety.balanceAllowed s → Safety.balanceAllowed t := by exact id

/-- A calm operation that keeps the motor's interlock too. -/
structure Tame (s t : State) : Prop extends Calm s t where
  motor : Safety.motorPermitted s → Safety.motorPermitted t := by exact id

/-- An operation that keeps every invariant. -/
structure Kept (s t : State) : Prop extends Tame s t where
  perms : Safety.permissionsFollow s → Safety.permissionsFollow t := by exact id
  strapped : ¬ s.strapValid → Safety.chargeBounded s → Safety.chargeBounded t := by exact fun _ => id

theorem limitsInRange_dutyMax {l : Limits} (h : Safety.limitsInRange l) : 1024 ≤ l.dutyMax := by
  obtain ⟨-, -, -, -, -, -, hlo, -⟩ := h
  exact hlo

/-- With an invalid CELLS strap the pack monitor does not run (R67). -/
theorem chargeBounded_strapped {s : State} (h : Safety.chargeBounded s) (hrole : s.ctl.role = .stick)
    (hcells : s.ctl.cells = 3) : s.pack.q = 0 ∧ s.pack.valid = false ∧ s.pack.balance = [] ∧ s.pack.scanTimer = none ∧
      s.pack.scanning = false := by
  obtain ⟨-, -, -, hidle⟩ := h
  exact hidle hrole hcells

theorem Calm.strapValid {s t : State} (h : Calm s t) : t.strapValid ↔ s.strapValid := by
  simp only [State.strapValid, h.role, h.cells]

theorem Calm.trans {s t u : State} (h : Calm s t) (k : Calm t u) : Calm s u where
  role := k.role.trans h.role
  cells := k.cells.trans h.cells
  partTime := k.partTime.trans h.partTime
  pending := k.pending.trans h.pending
  replies := Nat.le_trans k.replies h.replies
  rxq := k.rxq ∘ h.rxq
  reports := k.reports ∘ h.reports
  errors := k.errors ∘ h.errors
  store := k.store ∘ h.store
  ring := k.ring ∘ h.ring
  limits := k.limits ∘ h.limits
  duty hl hd := k.duty (h.limits hl) (h.duty hl hd)
  charger := k.charger ∘ h.charger
  dirt := k.dirt ∘ h.dirt
  charge hv hc := k.charge (h.strapValid.mpr hv) (h.charge hv hc)
  balance := k.balance ∘ h.balance

theorem Tame.trans {s t u : State} (h : Tame s t) (k : Tame t u) : Tame s u where
  toCalm := h.toCalm.trans k.toCalm
  motor := k.motor ∘ h.motor

theorem Kept.trans {s t u : State} (h : Kept s t) (k : Kept t u) : Kept s u where
  toTame := h.toTame.trans k.toTame
  perms := k.perms ∘ h.perms
  strapped hv hc := k.strapped (fun hv' => hv (h.strapValid.mp hv')) (h.strapped hv hc)

theorem Kept.refl (s : State) : Kept s s := {}

/-- Of two branches of an operation, each kept. -/
theorem Kept.ite {c : Prop} [Decidable c] {s t u : State} (h : c → Kept s t) (k : ¬ c → Kept s u) :
    Kept s (if c then t else u) := by
  split
  · exact h ‹_›
  · exact k ‹_›

/-! ### Blocks that no invariant speaks of -/

theorem kept_setContact (s : State) (k : Contact) : Kept s { s with contact := k } := {}
theorem kept_setAtt (s : State) (a : Att) : Kept s { s with att := a } := {}
theorem kept_setEvac (s : State) (e : Evac) : Kept s { s with evac := e } := {}
theorem kept_setEvacSet (s : State) (e : EvacSettings) : Kept s { s with evacSet := e } := {}
theorem kept_nextFree (s : State) : Kept s (nextFree s) := {}
theorem kept_clearSticky (s : State) : Kept s (clearSticky s) := {}
theorem kept_restartStandby (s : State) : Kept s (restartStandby s) := {}

/-! ### A block replaced, with what the invariants read in it as before -/

theorem kept_setGov (s : State) (g : Gov) (hl : g.limits = s.gov.limits) (hp : g.prev = s.gov.prev) :
    Kept s { s with gov := g } where
  limits h := ⟨hl ▸ h.1, h.2⟩
  duty _ h := by
    obtain ⟨hduty, hprev, hheld, hrest⟩ := h
    refine ⟨?_, ?_, ?_, ?_⟩
    · simpa only [hl] using hduty
    · simpa only [hl, hp] using hprev
    · simpa only [hp] using hheld
    · simpa only [hp] using hrest

theorem kept_setDrive (s : State) (d : Drive) (hs : d.state = s.drive.state) (hd : d.duty = s.drive.duty)
    (hh : d.heldDuty = s.drive.heldDuty) (hc : d.catchCount = s.drive.catchCount) :
    Kept s { s with drive := d } where
  duty _ h := by
    obtain ⟨hduty, hprev, hheld, hrest⟩ := h
    refine ⟨?_, hprev, ?_, ?_⟩
    · simpa only [hd] using hduty
    · simpa only [hh] using hheld
    · simpa only [hs, hd, hh] using hrest
  motor h := by
    obtain ⟨hcatch, hpermit, hroll⟩ := h
    refine ⟨?_, ?_, ?_⟩
    · simpa only [hc, hs] using hcatch
    · simpa only [hc, hs] using hpermit
    · simpa only [hs] using hroll
  balance h := ⟨h.1, fun hdrives => h.2 (by simpa only [hs] using hdrives)⟩

/-- The dirt figures of a debris record lie in their ranges, and BIN_FULL follows the load (`Safety.dirtBounded`). -/
def Debris.Bounded (d : Debris) : Prop :=
  d.s ≤ 1023 ∧ (∀ i ∈ d.d, i ≤ 255) ∧ d.b ≤ 1000000 ∧ d.binFull = decide (d.levels.binThreshold ≤ d.b)

theorem kept_setDebris (s : State) (d : Debris) (h : s.debris.Bounded → d.Bounded) : Kept s { s with debris := d } where
  dirt := h

theorem kept_setRoll (s : State) (r : Roll) (h : r.state.runs = true → s.roll.state.runs = true) :
    Kept s { s with roll := r } where
  motor hm := ⟨hm.1, hm.2.1, fun hr => hm.2.2 (h hr)⟩

/-- A stick off the dock stays off it. -/
theorem kept_setStick (s : State) (k : Stick) (h : s.stick.state = .detached → k.state = .detached) :
    Kept s { s with stick := k } where
  motor hm := ⟨hm.1, fun hr hd => ⟨(hm.2.1 hr hd).1, h (hm.2.1 hr hd).2⟩, hm.2.2⟩

/-- A session that charges goes on charging while the stage switches. -/
theorem kept_setDock (s : State) (k : Dock)
    (h : s.charger.state.switches = true → s.dock.state.charges = true → k.state.charges = true) :
    Kept s { s with dock := k } where
  charger hc := ⟨hc.1, hc.2.1, fun hs => h hs (hc.2.2 hs)⟩

theorem kept_setCharger (s : State) (c : Charger) (hs : c.state = s.charger.state)
    (hp : c.setpoint = s.charger.setpoint) (hl : c.needLimit = s.charger.needLimit) :
    Kept s { s with charger := c } where
  charger h := by
    obtain ⟨hset, hzero, hcharges⟩ := h
    refine ⟨?_, ?_, ?_⟩
    · simpa only [hp, hl] using hset
    · simpa only [hs, hp] using hzero
    · simpa only [hs] using hcharges

theorem kept_setProt (s : State) (p : Prot) (hd : p.dischargeOk = s.prot.dischargeOk)
    (hc : p.chargeOk = s.prot.chargeOk) (ha : p.active = s.prot.active) (hl : p.lockedOut = s.prot.lockedOut)
    (he : p.evaluated = s.prot.evaluated) : Kept s { s with prot := p } where
  motor h := ⟨h.1, by simpa only [hd] using h.2.1, h.2.2⟩
  perms h := by simpa only [Safety.permissionsFollow, hd, hc, ha, hl, he] using h

/-- The causes change; the permissions do not follow them yet. -/
theorem tame_setProt (s : State) (p : Prot) (hd : p.dischargeOk = s.prot.dischargeOk) : Tame s { s with prot := p } where
  motor h := ⟨h.1, by simpa only [hd] using h.2.1, h.2.2⟩

/-- The receiver's or the settings' part of the link replaced, within its bounds. -/
theorem kept_setHost (s : State) (l : HostLink) (hr : l.replies = s.host.replies) (hp : l.reports = s.host.reports)
    (hq : s.host.rxq.length ≤ 4 → l.rxq.length ≤ 4) (he : s.host.errors ≤ 65535 → l.errors ≤ 65535) :
    Kept s { s with host := l } where
  replies := hr ▸ Nat.le_refl _
  reports h := by simpa only [hp] using h
  rxq := hq
  errors := he

/-! ### Reports and fault entries -/

theorem handReport_kept (r : Report) (s : State) : Kept s (handReport r s) := by
  rcases handReport_cases r s with e | ⟨hl, e⟩ | ⟨-, e⟩
  · rw [e]; exact .refl s
  · rw [e]
    exact { reports := fun _ => by simp only [List.length_append, List.length_singleton]; omega }
  · rw [e]; exact {}

/-- The ring with an entry placed last is a tail of the ring and the entry (R169). -/
theorem ringAppend_eq_drop (ring : List FaultEntry) (e : FaultEntry) :
    ∃ k, k ≤ ring.length ∧ ringAppend ring e = ring.drop k ++ [e] := by
  unfold ringAppend
  split
  · exact ⟨0, Nat.zero_le _, rfl⟩
  · exact ⟨ring.length - 15, Nat.sub_le _ _, rfl⟩

/-- The sequence number of an entry, counted back from the next one. -/
theorem ringConsecutive_seq {s : State} (h : Safety.ringConsecutive s) (i : Nat) (hi : i < s.ctl.ring.length) :
    s.ctl.ring[i].seq = s.ctl.nextSeq - BitVec.ofNat 32 (s.ctl.ring.length - i) := by
  have hget := congrArg (fun l => l[i]?) h.2
  simpa [hi] using hget

/-- An entry with the next sequence number keeps the ring consecutive (R169). -/
theorem ringConsecutive_append {s : State} (e : FaultEntry) (he : e.seq = s.ctl.nextSeq)
    (h : Safety.ringConsecutive s) :
    Safety.ringConsecutive
      { s with ctl := { s.ctl with ring := ringAppend s.ctl.ring e, nextSeq := s.ctl.nextSeq + 1 } } := by
  refine ⟨ringAppend_length_le _ _, ?_⟩
  obtain ⟨k, hk, hring⟩ := ringAppend_eq_drop s.ctl.ring e
  simp only [hring]
  refine List.ext_getElem (by simp) (fun i hi _ => ?_)
  simp only [List.length_map, List.length_append, List.length_drop, List.length_singleton] at hi
  simp only [List.getElem_map, List.getElem_range, List.length_append, List.length_drop, List.length_singleton,
    List.getElem_append]
  split
  · next hlt =>
    rw [List.getElem_drop, ringConsecutive_seq h]
    have hback : s.ctl.ring.length - k + 1 - i = s.ctl.ring.length - (k + i) + 1 := by omega
    rw [hback, BitVec.ofNat_add]
    bv_omega
  · next hlt =>
    have hback : s.ctl.ring.length - k + 1 - i = 1 := by omega
    rw [hback, List.getElem_singleton, he]
    bv_omega

theorem appendFault_kept (src : FaultSource) (code : FaultCode) (v : Reading) (w : Option Reading) (s : State) :
    Kept s (appendFault src code v w s) := by
  let e : FaultEntry := ⟨s.ctl.nextSeq, s.now, src, code, v.fit16, w.map Reading.fit16⟩
  have entered : Kept s
      { s with ctl := { s.ctl with ring := ringAppend s.ctl.ring e, nextSeq := s.ctl.nextSeq + 1 },
               host := { s.host with faultNew := true } } :=
    { ring := fun h => ringConsecutive_append e rfl h }
  exact entered.trans (handReport_kept _ _)

/-! ### The power mode -/

/-- The scan timer set where the pack monitor runs, and stopped where it does not. -/
theorem kept_setScanTimer (s : State) (due : Ms) :
    Kept s { s with pack := { s.pack with scanTimer := if s.packRuns then some due else none } } where
  strapped hv hc := by
    obtain ⟨hq, hlo, hhi, hstrap⟩ := hc
    refine ⟨hq, hlo, hhi, fun hr (hcells : s.ctl.cells = 3) => ?_⟩
    obtain ⟨h0, hvalid, hbal, -, hscan⟩ := hstrap hr hcells
    have hruns : s.packRuns = false := by simp [State.packRuns, hcells]
    exact ⟨h0, hvalid, hbal, by simp [hruns], hscan⟩
  charge hv hc := by
    obtain ⟨hq, hlo, hhi, -⟩ := hc
    exact ⟨hq, hlo, hhi, fun hr hcells => absurd ⟨hr, hcells⟩ hv⟩

theorem enterActive_kept (c : ModeCause) (s : State) : Kept s (enterActive c s) := by
  refine .ite (fun _ => ?_) (fun _ => .refl s)
  have woken : Kept (s.withPending s.pending) { s with ctl := { s.ctl with power := .active, lowCells := 0 } } := {}
  exact (woken.trans (kept_setScanTimer _ _)).trans (handReport_kept _ _)

theorem enterStandby_kept (c : ModeCause) (s : State) : Kept s (enterStandby c s) := by
  have slept : Kept s { s with ctl := { s.ctl with power := .standby, standbyTimer := none } } := {}
  exact (slept.trans (kept_setScanTimer _ _)).trans (handReport_kept _ _)

theorem shipDecision_kept (c : ModeCause) (s : State) : Kept s (shipDecision c s) := by
  have decided : Kept s
      { s with ctl := { s.ctl with shipDecided := true, standbyTimer := none },
               pack := { s.pack with scanTimer := none, scanning := false },
               host := { s.host with supTimer := none } } :=
    { charge := fun hv hc => ⟨hc.1, hc.2.1, hc.2.2.1, fun hr hcells => absurd ⟨hr, hcells⟩ hv⟩
      strapped := fun hv hc => ⟨hc.1, hc.2.1, hc.2.2.1, fun hr hcells =>
        have ⟨h0, hvalid, hbal, _, _⟩ := chargeBounded_strapped hc hr hcells
        ⟨h0, hvalid, hbal, rfl, rfl⟩⟩ }
  exact decided.trans (handReport_kept _ _)

/-! ### What follows an event -/

theorem followTimers_kept (s : State) : Kept s (followTimers s) := by
  have governed := kept_setGov s (s.gov.follow s.govRuns (s.after 1)) (Gov.follow_limits _ _ _) (Gov.follow_prev _ _ _)
  exact governed.trans {}

theorem startFrame_kept (s : State) : Kept s (startFrame s) := by
  unfold startFrame
  split
  · exact .refl s
  · next r rest _ hr =>
    exact { replies := by simp [hr] }
  · next r rest _ _ hr =>
    exact { reports := fun h => by simp only [hr, List.length_cons] at h; simp only; omega }
  · exact .refl s

theorem enterShipIfDrained_kept (s : State) : Kept s (enterShipIfDrained s) := by
  refine .ite (fun _ => ?_) (fun _ => .refl s)
  exact
    { balance := fun _ => ⟨Nat.zero_le _, fun _ => rfl⟩
      charge := fun hv hc => ⟨hc.1, hc.2.1, hc.2.2.1, fun hr hcells => absurd ⟨hr, hcells⟩ hv⟩
      strapped := fun _ hc => ⟨hc.1, hc.2.1, hc.2.2.1, fun hr hcells =>
        have ⟨h0, hvalid, _, hscan⟩ := chargeBounded_strapped hc hr hcells
        ⟨h0, hvalid, rfl, hscan⟩⟩ }

theorem settle_kept (s : State) : Kept s (settle s) :=
  ((followTimers_kept s).trans (startFrame_kept _)).trans (enterShipIfDrained_kept _)

/-- A transmitter left idle by `startFrame` has no frame to send. -/
theorem startFrame_idle {s : State} (h : (startFrame s).host.tx = none) :
    (startFrame s).host.replies = [] ∧ (startFrame s).host.reports = [] := by
  unfold startFrame at h ⊢
  split at h <;> simp_all

/-- After an event a SHIP decision stands only while a frame is being sent (R175). -/
theorem settle_sends (s : State) : (settle s).ctl.shipDecided = true → (settle s).host.tx.isSome = true := by
  unfold settle
  generalize followTimers s = u
  unfold enterShipIfDrained
  split
  · exact fun h => by cases h
  · next hbusy =>
    intro hship
    refine Classical.byContradiction fun hidle => ?_
    have htx : (startFrame u).host.tx = none := by simpa using hidle
    obtain ⟨hreplies, hreports⟩ := startFrame_idle htx
    rw [startFrame_ctl] at hship
    simp [hship, htx, hreplies, hreports] at hbusy

end Sys2Proof.Machine

/-! What the operations of the roll drive and of the suction drive keep. -/

namespace Sys2Proof.Machine

open Sys2Proof

/-! ### The roll drive (sections 5.3 to 5.5) -/

theorem rollEnterOff_kept (clear : Bool) (s : State) : Kept s (rollEnterOff clear s) :=
  kept_setRoll s _ (fun h => by cases h)

/-- SPINUP is entered from a state that runs, or while the suction drive is in RUN (R107, R108). -/
theorem rollEnterSpinup_kept (s : State) (h : s.roll.state.runs = true ∨ s.drive.state = .run) :
    Kept s (rollEnterSpinup s) where
  motor hm := ⟨hm.1, hm.2.1, fun _ => h.elim hm.2.2 id⟩

theorem reportRoll_kept (c : DriveCause) (s : State) : Kept s (reportRoll c s) := handReport_kept _ s

theorem rollEvaluate_kept (s : State) : Kept s (rollEvaluate s) :=
  .ite (fun _ => rollEnterOff_kept _ s) (fun _ => .refl s)

theorem rollRelease_kept (c : DriveCause) (s : State) : Kept s (rollRelease c s) :=
  .ite (fun _ => (rollEnterOff_kept _ s).trans (reportRoll_kept _ _)) (fun _ => .refl s)

theorem rollSilence_kept (s : State) : Kept s (rollSilence s) :=
  .ite (fun _ => rollRelease_kept _ s) (fun _ => .ite (fun _ => rollEnterOff_kept _ s) (fun _ => .refl s))

theorem rollJam_kept (s : State) (h : s.roll.state.runs = true) : Kept s (rollJam s) := by
  refine .ite (fun _ => ?_) (fun _ => ?_)
  · have waits : Kept s { rollStop .jamWait s with
        roll := { (rollStop .jamWait s).roll with jamCount := s.roll.jamCount + 1, waitTimer := some (s.after 2000) } } :=
      kept_setRoll s _ (fun _ => h)
    exact waits.trans (reportRoll_kept _ _)
  · have latched : Kept s { rollStop .jamLatched s with roll := { (rollStop .jamLatched s).roll with jamCount := 3 } } :=
      kept_setRoll s _ (fun h => by cases h)
    exact (latched.trans (appendFault_kept _ _ _ _ _)).trans (reportRoll_kept _ _)

theorem rollRunStep_kept (s : State) (h : s.roll.state.runs = true) : Kept s (rollRunStep s) :=
  have applied := kept_setRoll s _ (fun _ => h)
  .ite (fun _ => applied.trans (rollJam_kept _ h)) (fun _ => applied)

theorem rollSpinStep_kept (s : State) (h : s.roll.state.runs = true) : Kept s (rollSpinStep s) :=
  .ite (fun _ => kept_setRoll s _ (fun _ => h)) (fun _ => kept_setRoll s _ (fun _ => h))

/-- The run condition holds only while the suction drive is in RUN (R107). -/
theorem rollCondition_run {s : State} (h : s.rollCondition = true) : s.drive.state = .run := by
  simp only [State.rollCondition, Bool.and_eq_true, decide_eq_true_eq] at h
  exact h.1.1.1

theorem rollHandOver_kept (grant duty : Nat) (s : State) : Kept s (rollHandOver grant duty s) := by
  have handed : Kept s { s with roll := { s.roll with grant := grant, grantedDuty := duty } } :=
    kept_setRoll s _ id
  refine handed.trans ?_
  unfold rollHandOver
  generalize { s with roll := { s.roll with grant := grant, grantedDuty := duty } } = t
  dsimp only
  split
  case h_1 => exact .ite (fun hc => rollEnterSpinup_kept t (.inr (rollCondition_run hc))) (fun _ => .refl t)
  case h_2 hst => exact .ite (fun _ => rollSpinStep_kept t (by rw [hst]; rfl)) (fun _ => rollEnterOff_kept _ t)
  case h_3 hst => exact .ite (fun _ => rollRunStep_kept t (by rw [hst]; rfl)) (fun _ => rollEnterOff_kept _ t)
  case h_4 => exact rollEvaluate_kept t
  case h_5 => exact .refl t
  case h_6 => exact .refl t

theorem rollTakeMean_kept (s : State) : Kept s (rollTakeMean s) :=
  (kept_setRoll s { s.roll with current := meanReading s.gov.rollSamples } id).trans (kept_setGov _ _ rfl rfl)

theorem rollShort_kept (r : Reading) (s : State) : Kept s (rollShort r s) := by
  have stopped : Kept s { rollStop .fault s with roll := { (rollStop .fault s).roll with faultCause := some .short } } :=
    kept_setRoll s _ (fun h => by cases h)
  exact (stopped.trans (appendFault_kept _ _ _ _ _)).trans (reportRoll_kept _ _)

theorem rollSample_kept (r : Reading) (s : State) : Kept s (rollSample r s) := kept_setGov s _ rfl rfl

theorem rollReadingTaken_kept (r : Reading) (s : State) : Kept s (rollReadingTaken r s) :=
  .ite (fun _ => (rollSample_kept _ s).trans (rollShort_kept _ _)) (fun _ => rollSample_kept _ s)

/-! ### Reports of the drive, the debris sensor and the dock -/

theorem reportDrive_kept (c : DriveCause) (s : State) : Kept s (reportDrive c s) := handReport_kept _ s

theorem reportMove_kept (c : DriveCause) (before s : State) : Kept s (reportMove c before s) :=
  .ite (fun _ => reportDrive_kept _ s) (fun _ => .refl s)

theorem reportDirt_kept (before s : State) : Kept s (reportDirt before s) :=
  .ite (fun _ => handReport_kept _ s) (fun _ => .ite (fun _ => handReport_kept _ s) (fun _ => .refl s))

theorem reportDock_kept (c : DockCause) (before s : State) : Kept s (reportDock c before s) :=
  .ite (fun _ => handReport_kept _ s) (fun _ => .refl s)

theorem reportStart_kept (before s : State) : Kept s (reportStart before s) :=
  .ite (fun _ => reportDrive_kept _ s) (fun _ => .refl s)

theorem reportRun_kept (k : Option RunKind) (r : RunResult) (s : State) : Kept s (reportRun k r s) :=
  .ite (fun _ => handReport_kept _ s) (fun _ => .refl s)

/-! ### Where the motor may drive -/

/-- In STICK role discharge is permitted and the stick is off the dock (R8). -/
def State.motorAllowed (s : State) : Prop :=
  s.ctl.role = .stick → s.prot.dischargeOk = true ∧ s.stick.state = .detached

theorem startOk_allowed {s : State} (h : s.startOk = true) : s.motorAllowed := by
  intro hr
  simp only [State.startOk, hr, Bool.and_eq_true, decide_eq_true_eq] at h
  exact ⟨h.2.1.2, h.2.1.1⟩

/-- Outside RUN the roll drive does not run. -/
theorem motorPermitted_roll {s : State} (hm : Safety.motorPermitted s) (h : s.drive.state ≠ .run) :
    s.roll.state.runs = false := by
  refine Classical.byContradiction fun hr => ?_
  exact h (hm.2.2 (by simpa using hr))

/-- Outside COAST no catch is in progress. -/
theorem motorPermitted_catch {s : State} (hm : Safety.motorPermitted s) (h : s.drive.state ≠ .coast) :
    s.drive.catchCount = none := by
  refine Classical.byContradiction fun hc => ?_
  exact h (hm.1 (Option.isSome_iff_ne_none.mpr hc))

/-! ### Entries to the states (section 1.3) -/

theorem kept_emptyBalance (s : State) : Kept s { s with pack := { s.pack with balance := [] } } where
  balance _ := ⟨Nat.zero_le _, fun _ => rfl⟩
  charge _ hc := ⟨hc.1, hc.2.1, hc.2.2.1, fun hr hcells =>
    have ⟨h0, hvalid, _, htimer, hscan⟩ := chargeBounded_strapped hc hr hcells
    ⟨h0, hvalid, rfl, htimer, hscan⟩⟩
  strapped _ hc := ⟨hc.1, hc.2.1, hc.2.2.1, fun hr hcells =>
    have ⟨h0, hvalid, _, htimer, hscan⟩ := chargeBounded_strapped hc hr hcells
    ⟨h0, hvalid, rfl, htimer, hscan⟩⟩

/-- A drive outside RUN that comes to rest, or goes on resting, with no catch or with the catch of COAST. -/
theorem kept_restDrive (s : State) (d : Drive) (hrun : s.drive.state ≠ .run) (hstate : d.state.drives = false)
    (hduty : d.duty = 0) (hheld : d.heldDuty = none)
    (hcatch : d.catchCount = none ∨ (d.state = .coast ∧ d.catchCount = s.drive.catchCount)) :
    Kept s { s with drive := d } where
  duty _ h := by
    obtain ⟨-, hprev, -, hrest⟩ := h
    obtain ⟨-, -, hzero⟩ := hrest hrun
    refine ⟨hduty ▸ Nat.zero_le _, hprev, ?_, fun _ => ⟨hduty ▸ Nat.zero_le _, hheld, hzero⟩⟩
    intro x hx
    rw [hheld] at hx
    cases hx
  motor hm := by
    refine ⟨fun hc => ?_, fun hr hd => ?_, fun hr => absurd hr (by simp [motorPermitted_roll hm hrun])⟩
    · rcases hcatch with hnone | ⟨hcoast, -⟩
      · rw [hnone] at hc; cases hc
      · exact hcoast
    · rcases hcatch with hnone | ⟨-, hsame⟩
      · simp [hstate, hnone] at hd
      · exact hm.2.1 hr (.inr (by simpa [hstate, hsame] using hd))
  balance h := ⟨h.1, fun hdrives => by rw [hstate] at hdrives; cases hdrives⟩

/-- A drive that comes to rest with the PI state at 0 and no roll drive running. -/
theorem kept_leaveToRest {s t : State} (ctl : t.ctl = s.ctl) (host : t.host = s.host) (pack : t.pack = s.pack)
    (prot : t.prot = s.prot) (dock : t.dock = s.dock) (charger : t.charger = s.charger)
    (store : t.store = s.store) (pending : t.pending = s.pending) (debris : s.debris.Bounded → t.debris.Bounded)
    (limits : t.gov.limits = s.gov.limits) (prev : t.gov.prev = 0) (state : t.drive.state.drives = false)
    (duty : t.drive.duty = 0) (held : t.drive.heldDuty = none)
    (catching : (s.drive.state ≠ .coast ∧ t.drive.catchCount = s.drive.catchCount) ∨ t.drive.catchCount = none)
    (roll : t.roll.state.runs = false) : Kept s t where
  role := by rw [ctl]
  cells := by rw [ctl]
  partTime := by rw [ctl]
  pending := pending
  replies := Nat.le_of_eq (by rw [host])
  rxq := by rw [host]; exact id
  reports := by rw [host]; exact id
  errors := by rw [host]; exact id
  store := by simp only [Safety.storeCanonical, store]; exact id
  ring := by simp only [Safety.ringConsecutive, ctl]; exact id
  limits := by simp only [Safety.limitsBounded, limits, ctl]; exact id
  duty _ _ := by
    refine ⟨by simp [duty], by simp [prev], ?_, fun _ => ⟨by simp [duty], held, prev⟩⟩
    intro x hx
    rw [held] at hx
    cases hx
  charger := by simp only [Safety.chargerBounded, charger, dock]; exact id
  dirt := debris
  charge := by simp only [Safety.chargeBounded, pack, ctl]; exact fun _ => id
  strapped := by simp only [Safety.chargeBounded, pack, ctl]; exact fun _ => id
  balance h := ⟨by rw [pack]; exact h.1, fun hd => by rw [state] at hd; cases hd⟩
  motor hm := by
    have hnone : t.drive.catchCount = none := by
      rcases catching with ⟨hcoast, hsame⟩ | h
      · rw [hsame, motorPermitted_catch hm hcoast]
      · exact h
    exact ⟨by simp [hnone], by simp [hnone, state], by simp [roll]⟩
  perms := by simp only [Safety.permissionsFollow, prot]; exact id

/-- A drive in OFF whose start conditions hold begins ALIGN. -/
theorem enterAlign_kept (s : State) (hoff : s.drive.state = .off) (hallowed : s.motorAllowed) : Kept s (enterAlign s) where
  duty hl h := by
    obtain ⟨-, hprev, -, hrest⟩ := h
    obtain ⟨-, -, hzero⟩ := hrest (by rw [hoff]; decide)
    have hmax : 1024 ≤ s.gov.limits.dutyMax := limitsInRange_dutyMax hl.1
    refine ⟨Nat.le_trans (by decide : 330 ≤ 1024) hmax, hprev, ?_, fun _ => ⟨(by decide : 330 ≤ 410), rfl, hzero⟩⟩
    intro x hx
    cases hx
  motor hm := by
    have hcatch := motorPermitted_catch hm (by rw [hoff]; decide)
    have hroll := motorPermitted_roll hm (by rw [hoff]; decide)
    refine ⟨fun hc => ?_, fun hr _ => hallowed hr, fun hr => ?_⟩
    · simp [enterAlign, hcatch] at hc
    · simp [hroll] at hr
  balance _ := ⟨Nat.zero_le _, fun _ => rfl⟩
  charge := (kept_emptyBalance s).charge
  strapped := (kept_emptyBalance s).strapped

theorem serveWaiting_kept (s : State) (hoff : s.drive.state = .off) : Kept s (serveWaiting s) := by
  refine .ite (fun h => ?_) (fun _ => kept_setDrive s _ rfl rfl rfl rfl)
  simp only [Bool.and_eq_true] at h
  exact enterAlign_kept s hoff (startOk_allowed h.2)

theorem enterOff_kept (s : State) (hrun : s.drive.state ≠ .run) : Kept s (enterOff s) := by
  have off : Kept s { s with drive := offRecord s.now s.drive } := kept_restDrive s _ hrun rfl rfl rfl (.inl rfl)
  exact off.trans (serveWaiting_kept _ rfl)

/-- The exit from RUN stops a roll drive that runs (R107). -/
theorem leaveRun_roll {next : DriveState} (h : next ≠ .run) (s : State) : (leaveRun next s).roll.state.runs = false := by
  unfold leaveRun rollEvaluate
  split
  · rfl
  · next hkeep =>
    simp only [State.rollCondition, Bool.and_eq_true, Bool.not_eq_true', not_and, Bool.not_eq_false] at hkeep
    refine Classical.byContradiction fun hruns => ?_
    have := hkeep (by simpa using hruns)
    simp [h] at this

@[simp] theorem leaveRun_gov (next : DriveState) (s : State) : (leaveRun next s).gov = s.gov.leaveRun := by
  simp [leaveRun]

@[simp] theorem leaveRun_debris (next : DriveState) (s : State) :
    (leaveRun next s).debris = { s.debris with windowTimer := none, c := 0 } := by
  simp [leaveRun]

@[simp] theorem leaveRun_drive (next : DriveState) (s : State) :
    (leaveRun next s).drive
      = { s.drive with state := next, lastRunDuty := s.drive.duty, speedAtStop := s.drive.speed, blocked := false } := by
  simp [leaveRun]

theorem leaveIfRun_of_run (next : DriveState) {s : State} (h : s.drive.state = .run) :
    leaveIfRun next s = leaveRun next s := if_pos h

theorem leaveIfRun_of_not_run (next : DriveState) {s : State} (h : s.drive.state ≠ .run) :
    leaveIfRun next s = s := if_neg h

/-- The stop of a drive that drives: COAST, by way of the exit from RUN (R14, R16). -/
theorem coastFrom_kept (s : State) : Kept s (enterCoast (leaveIfRun .coast s)) := by
  by_cases hrun : s.drive.state = .run
  · rw [leaveIfRun_of_run _ hrun]
    exact kept_leaveToRest (by simp) (by simp) (by simp) (by simp) (by simp) (by simp) (by simp) (by simp)
      (by simp [Debris.Bounded]) (by simp [Gov.leaveRun]) (by simp [Gov.leaveRun]) rfl rfl rfl
      (.inl ⟨by rw [hrun]; decide, by simp [enterCoast]⟩) (leaveRun_roll (by decide) s)
  · rw [leaveIfRun_of_not_run _ hrun]
    exact kept_restDrive s _ hrun rfl rfl rfl (.inr ⟨rfl, rfl⟩)

theorem stopDriving_kept (s : State) : Kept s (stopDriving s) :=
  (coastFrom_kept s).trans (kept_setDrive _ _ rfl rfl rfl rfl)

theorem startSpell_kept (s : State) : Kept s (startSpell s) :=
  .ite (fun _ => kept_setEvac s _) (fun _ => .refl s)

theorem Debris.enterRun_bounded (d : Debris) (window band : Ms) (h : d.Bounded) : (d.enterRun window band).Bounded := by
  obtain ⟨-, -, hb, hfull⟩ := h
  exact ⟨Nat.zero_le _, by simp [Debris.enterRun], hb, hfull⟩

theorem runBegins_kept (s : State) : Kept s (runBegins s) := by
  unfold runBegins
  split
  · exact (kept_setDebris s _ (Debris.enterRun_bounded _ _ _)).trans (reportDirt_kept _ _)
  · exact startSpell_kept s

/-- The entry to RUN of a drive that drives or catches, with a duty within duty_max. -/
theorem enterRun_kept (d0 : Nat) (s : State)
    (hdriving : s.drive.state.drives = true ∨ s.drive.catchCount.isSome = true)
    (hd : Safety.limitsBounded s → d0 ≤ s.gov.limits.dutyMax) : Kept s (enterRun d0 s) := by
  refine Kept.trans (t := _) ?_ (runBegins_kept _)
  exact
    { duty := fun hl _ => ⟨hd hl, hd hl, fun x hx => (by cases hx), fun h => absurd rfl h⟩
      motor := fun hm => ⟨fun hc => (by cases hc), fun hr _ => hm.2.1 hr hdriving, fun _ => rfl⟩
      balance := fun _ => ⟨Nat.zero_le _, fun _ => rfl⟩
      charge := (kept_emptyBalance s).charge
      strapped := (kept_emptyBalance s).strapped }

/-! ### Start requests (R8, R17) -/

theorem beginCatch_kept (s : State) (hcoast : s.drive.state = .coast) (hallowed : s.motorAllowed) :
    Kept s (beginCatch s) where
  motor hm := ⟨fun _ => hcoast, fun hr _ => hallowed hr, hm.2.2⟩

theorem startInCoast_kept (s : State) (hcoast : s.drive.state = .coast) (hallowed : s.motorAllowed) :
    Kept s (startInCoast s) :=
  .ite (fun _ => .refl s) (fun _ => .ite (fun _ => beginCatch_kept s hcoast hallowed)
    (fun _ => kept_setDrive s _ rfl rfl rfl rfl))

theorem startInOff_kept (s : State) (hoff : s.drive.state = .off) : Kept s (startInOff s) :=
  .ite (fun h => enterAlign_kept s hoff (startOk_allowed h)) (fun _ => kept_setDrive s _ rfl rfl rfl rfl)

theorem startRequest_kept (owner : Owner) (s : State) (hallowed : s.motorAllowed) : Kept s (startRequest owner s) := by
  have owned : Kept s { s with drive := { s.drive with owner := owner, attempts := 0, retryPending := false } } :=
    kept_setDrive s _ rfl rfl rfl rfl
  have hallowed' : (enterActive .drive
      { s with drive := { s.drive with owner := owner, attempts := 0, retryPending := false } }).motorAllowed := by
    simpa [State.motorAllowed] using hallowed
  refine (owned.trans (enterActive_kept .drive _)).trans ?_
  unfold startRequest
  dsimp only
  split
  case h_1 hst => exact startInOff_kept _ hst
  case h_2 hst => exact startInCoast_kept _ hst hallowed'
  all_goals exact .refl _

/-! ### Stop requests (R14, R18) -/

theorem releaseFault_kept (s : State) (h : s.drive.state = .fault) : Kept s (releaseFault s) := by
  refine .ite (fun _ => .refl s) (fun _ => ?_)
  have released := kept_setDrive s { s.drive with released := some true, owner := .none } rfl rfl rfl rfl
  exact .ite (fun _ => released.trans (enterOff_kept _ (by rw [h]; decide))) (fun _ => released)

theorem driveStop_kept (s : State) : Kept s (driveStop s) := by
  unfold driveStop
  split
  case h_1 => exact .refl s
  case h_2 | h_3 | h_4 => exact stopDriving_kept s
  case h_5 hst =>
    exact
      { motor := fun hm => ⟨fun hc => (by cases hc), fun hr hd => (by simp [hst, DriveState.drives] at hd), hm.2.2⟩ }
  case h_6 hst => exact releaseFault_kept s hst

/-- A drive whose owner's claim has ended starts nothing at the entry to OFF. -/
theorem enterOff_unowned {s : State} (h : s.drive.owner = .none) : (enterOff s).drive.state = .off := by
  have hok : ({ s with drive := offRecord s.now s.drive } : State).startOk = false := by
    simp [State.startOk, State.runRequest, offRecord, h]
  unfold enterOff serveWaiting
  rw [hok, Bool.and_false]
  rfl

theorem enterOff_catchCount (s : State) : (enterOff s).drive.catchCount = none := by
  unfold enterOff serveWaiting
  split <;> rfl

/-- After a stop request the motor does not drive, no catch goes on and the roll drive does not run. -/
structure AtRest (t : State) : Prop where
  state : t.drive.state.drives = false
  catching : t.drive.catchCount = none
  roll : t.roll.state.runs = false

/-- A stopped motor needs no permission. -/
theorem AtRest.motorPermitted {t : State} (h : AtRest t) : Safety.motorPermitted t :=
  ⟨by simp [h.catching], by simp [h.state, h.catching], by simp [h.roll]⟩

theorem driveStop_rests (s : State) (hcatch : s.drive.catchCount.isSome = true → s.drive.state = .coast)
    (hroll : s.roll.state.runs = true → s.drive.state = .run) : AtRest (driveStop s) := by
  have noRoll : s.drive.state ≠ .run → s.roll.state.runs = false := fun h => by
    refine Classical.byContradiction fun hr => ?_; exact h (hroll (by simpa using hr))
  have noCatch : s.drive.state ≠ .coast → s.drive.catchCount = none := fun h => by
    refine Classical.byContradiction fun hc => ?_; exact h (hcatch (Option.isSome_iff_ne_none.mpr hc))
  have stopped : s.drive.state ≠ .coast → AtRest (stopDriving s) := fun h => by
    by_cases hrun : s.drive.state = .run
    · refine ⟨rfl, ?_, ?_⟩
      · simp [stopDriving, enterCoast, leaveIfRun_of_run _ hrun, noCatch h]
      · simpa [stopDriving, leaveIfRun_of_run _ hrun] using leaveRun_roll (by decide) s
    · refine ⟨rfl, ?_, ?_⟩
      · simp [stopDriving, enterCoast, leaveIfRun_of_not_run _ hrun, noCatch h]
      · simpa [stopDriving, leaveIfRun_of_not_run _ hrun] using noRoll hrun
  unfold driveStop
  split
  case h_1 hst => exact ⟨by rw [hst]; rfl, noCatch (by rw [hst]; decide), noRoll (by rw [hst]; decide)⟩
  case h_2 hst | h_3 hst | h_4 hst => exact stopped (by rw [hst]; decide)
  case h_5 hst => exact ⟨by simp [hst, DriveState.drives], rfl, noRoll (by rw [hst]; decide)⟩
  case h_6 hst =>
    have hr := noRoll (by rw [hst]; decide)
    have hc := noCatch (by rw [hst]; decide)
    unfold releaseFault
    split
    · exact ⟨by rw [hst]; rfl, hc, hr⟩
    · dsimp only
      split
      · exact ⟨by rw [enterOff_unowned rfl]; rfl, enterOff_catchCount _, by simpa using hr⟩
      · exact ⟨by simp [hst, DriveState.drives], hc, hr⟩

/-! ### Ends of the operations that hold the drive, and faults -/

theorem endCalibration_kept (r : DoneResult) (s : State) : Kept s (endCalibration r s) := by
  unfold endCalibration
  split
  · exact .refl s
  · exact ((kept_setDebris s { s.debris with cal := none } id).trans
      (kept_setGov _ { s.gov with pHold := none } rfl rfl)).trans (handReport_kept _ _)

/-- The session after a run's end charges while the stage switches (R134). -/
theorem Dock.afterRun_charges (d : Dock) (c : ChargerState) (now : Ms) (hs : c.switches = true)
    (hd : d.state.charges = true) : (d.afterRun (decide (c ≠ .off)) now).state.charges = true := by
  have hon : c ≠ .off := by rintro rfl; cases hs
  unfold Dock.afterRun
  split
  · simp [hon, DockState.charges]
  · exact hd

theorem Dock.recordResult_state (d : Dock) (k : Option RunKind) (r : RunResult) : (d.recordResult k r).state = d.state := by
  unfold Dock.recordResult
  split <;> rfl

theorem endRunRecords_kept (r : RunResult) (s : State) : Kept s (endRunRecords r s) := by
  refine .ite (fun _ => .refl s) (fun _ => ?_)
  refine Kept.trans ?_ (reportRun_kept s.evac.kind r _)
  exact
    { charger := fun hc => ⟨hc.1, hc.2.1, fun hs =>
        Dock.afterRun_charges _ s.charger.state _ hs (by rw [Dock.recordResult_state]; exact hc.2.2 hs)⟩ }

theorem endRun_kept (r : RunResult) (s : State) : Kept s (endRun r s) :=
  .ite (fun _ => .refl s) (fun _ => (endRunRecords_kept r s).trans (driveStop_kept _))

theorem decideReleased_kept (s : State) : Kept s (decideReleased s) :=
  .ite (fun _ => kept_setDrive s _ rfl rfl rfl rfl) (fun _ => kept_setDrive s _ rfl rfl rfl rfl)

theorem faultFrom_kept (c : DriveFault) (due : Ms) (s : State) :
    Kept s { leaveIfRun .fault s with drive := faultRecord c s.now due (leaveIfRun .fault s).drive } := by
  by_cases hrun : s.drive.state = .run
  · rw [leaveIfRun_of_run _ hrun]
    exact kept_leaveToRest (by simp) (by simp) (by simp) (by simp) (by simp) (by simp) (by simp) (by simp)
      (by simp [Debris.Bounded]) (by simp [Gov.leaveRun]) (by simp [Gov.leaveRun]) rfl rfl rfl
      (.inr rfl) (leaveRun_roll (by decide) s)
  · rw [leaveIfRun_of_not_run _ hrun]
    exact kept_restDrive s _ hrun rfl rfl rfl (.inl rfl)

/-- What a drive fault does after the entry to FAULT. -/
theorem afterFault_kept (c : DriveFault) (v : Reading) (w : Option Reading) (before s : State) :
    Kept s (reportDock .evacuation before (reportDrive (driveFaultCause c)
      (decideReleased (endRunRecords .failed (endCalibration .driveFault
        (appendFault .channelA (driveFaultEntry c) v w s)))))) :=
  (((((appendFault_kept _ _ _ _ _).trans (endCalibration_kept _ _)).trans (endRunRecords_kept _ _)).trans
    (decideReleased_kept _)).trans (reportDrive_kept _ _)).trans (reportDock_kept _ _ _)

theorem driveFault_kept (c : DriveFault) (v : Reading) (w : Option Reading) (s : State) : Kept s (driveFault c v w s) :=
  (faultFrom_kept c (s.after 3000) s).trans (afterFault_kept c v w s _)

/-- A fault taken from a drive put back in RUN, whatever state it had before: FAULT leaves nothing of RUN (R152). -/
theorem driveFault_kept_of_run (c : DriveFault) (v : Reading) (w : Option Reading) (s : State) (d : Drive) (k : Nat)
    (hrun : d.state = .run) : Kept s (driveFault c v w { s with drive := d, freeCount := k }) := by
  refine Kept.trans ?_ (afterFault_kept c v w { s with drive := d, freeCount := k } _)
  rw [leaveIfRun_of_run _ (by exact hrun)]
  exact kept_leaveToRest (by simp) (by simp) (by simp) (by simp) (by simp) (by simp) (by simp) (by simp)
    (by simp [Debris.Bounded]) (by simp [Gov.leaveRun]) (by simp [Gov.leaveRun]) rfl rfl rfl (.inr rfl)
    (leaveRun_roll (by decide) _)

/-! ### Forcing of the mode to OFF (R7, R15) -/

theorem forceOff_kept (c : DriveCause) (s : State) : Kept s (forceOff c s) := by
  have stopped := (((kept_setDrive s { s.drive with mode := .off } rfl rfl rfl rfl).trans
    (endCalibration_kept .aborted _)).trans (driveStop_kept _)).trans (rollRelease_kept .release _)
  exact .ite (fun _ => stopped.trans (reportDrive_kept _ _)) (fun _ => stopped)

theorem rollRelease_runs (c : DriveCause) {s : State} (h : s.roll.state.runs = false) :
    (rollRelease c s).roll.state.runs = false := by
  unfold rollRelease
  split
  · simp [rollEnterOff, rollStop, RollState.runs]
  · exact h

theorem forceOff_rests (c : DriveCause) (s : State)
    (hcatch : s.drive.catchCount.isSome = true → s.drive.state = .coast)
    (hroll : s.roll.state.runs = true → s.drive.state = .run) : AtRest (forceOff c s) := by
  have stopped := driveStop_rests (endCalibration .aborted { s with drive := { s.drive with mode := .off } })
    (by simpa using hcatch) (by simpa using hroll)
  unfold forceOff
  dsimp only
  split
  · exact ⟨by simpa using stopped.state, by simpa using stopped.catching, by simpa using rollRelease_runs _ stopped.roll⟩
  · exact ⟨by simpa using stopped.state, by simpa using stopped.catching, rollRelease_runs _ stopped.roll⟩

end Sys2Proof.Machine

/-! What the crossings, timers, readings and requests of the suction drive keep. -/

namespace Sys2Proof.Machine

open Sys2Proof

/-! ### Crossings (R2 to R5, R16 to R18) -/

/-- An accepted crossing moves the ring, the reference and the speed, and nothing else but the counter of free values. -/
theorem acceptCrossing_eq (ts : Ticks) (i : Nat) (s : State) :
    ∃ k, acceptCrossing ts i s = { s with
      drive := { s.drive with ring := ringPush s.drive.ring i, xref := some ⟨ts, i⟩,
                              speed := ringSpeed s.freeCount (ringPush s.drive.ring i) },
      freeCount := k } := by
  unfold acceptCrossing
  dsimp only
  split
  · exact ⟨s.freeCount + 1, rfl⟩
  · exact ⟨s.freeCount, rfl⟩

/-- A drive moved by a crossing, with what the invariants read in it as before. -/
theorem kept_setDriveFree (s : State) (d : Drive) (k : Nat) (hs : d.state = s.drive.state) (hd : d.duty = s.drive.duty)
    (hh : d.heldDuty = s.drive.heldDuty) (hc : d.catchCount = s.drive.catchCount) :
    Kept s { s with drive := d, freeCount := k } :=
  have moved : Kept s { s with drive := d } := kept_setDrive s d hs hd hh hc
  moved.trans {}

theorem acceptCrossing_kept (ts : Ticks) (i : Nat) (s : State) : Kept s (acceptCrossing ts i s) := by
  obtain ⟨k, h⟩ := acceptCrossing_eq ts i s
  rw [h]
  exact kept_setDriveFree s _ k rfl rfl rfl rfl

theorem rampValid_kept (ts : Ticks) (i : Nat) (s : State) (hramp : s.drive.state = .ramp) :
    Kept s (rampValid ts i s) := by
  obtain ⟨k, h⟩ := acceptCrossing_eq ts i s
  unfold rampValid
  rw [h]
  have counted : Kept s { s with
      drive := { s.drive with ring := ringPush s.drive.ring i, xref := some ⟨ts, i⟩,
                              speed := ringSpeed s.freeCount (ringPush s.drive.ring i),
                              validCount := s.drive.validCount + 1 },
      freeCount := k } := kept_setDriveFree s _ k rfl rfl rfl rfl
  refine .ite (fun _ => ?_) (fun _ => counted)
  have entered := enterRun_kept 410 { s with
      drive := { s.drive with ring := ringPush s.drive.ring i, xref := some ⟨ts, i⟩,
                              speed := ringSpeed s.freeCount (ringPush s.drive.ring i),
                              validCount := s.drive.validCount + 1 },
      freeCount := k } (.inl (by simp [hramp, DriveState.drives]))
    (fun hl => Nat.le_trans (by decide : 410 ≤ 1024) (limitsInRange_dutyMax hl.1))
  refine ((counted.trans entered).trans ?_).trans (reportDrive_kept _ _)
  exact kept_setDrive _ _ rfl rfl rfl rfl

theorem crossInRamp_kept (ts : Ticks) (s : State) (hramp : s.drive.state = .ramp) : Kept s (crossInRamp ts s) := by
  unfold crossInRamp
  split
  · exact kept_setDrive s _ rfl rfl rfl rfl
  · exact .ite (fun _ => rampValid_kept _ _ s hramp) (fun _ => .refl s)

theorem blockedSet_kept (s : State) : Kept s (blockedSet s) := by
  have blocked : Kept s { s with drive := { s.drive with blocked := true } } := kept_setDrive s _ rfl rfl rfl rfl
  exact .ite (fun _ => blocked.trans (endRun_kept _ _)) (fun _ => blocked)

theorem judgeBlocked_kept (s : State) : Kept s (judgeBlocked s) := by
  unfold judgeBlocked
  dsimp only
  generalize (holdTimer s.now s.drive.blockTimer _ _) = j
  have timed : Kept s { s with drive := { s.drive with blockTimer := j.1 } } := kept_setDrive s _ rfl rfl rfl rfl
  exact .ite (fun _ => ((timed.trans (blockedSet_kept _)).trans (reportDrive_kept _ _)).trans (reportDock_kept _ _ _))
    (fun _ => timed)

theorem judgeSpeed_kept (s : State) : Kept s (judgeSpeed s) := by
  unfold judgeSpeed
  dsimp only
  generalize (holdTimer s.now s.drive.stallTimer _ _) = stall
  generalize (holdTimer s.now s.drive.overTimer _ _) = fast
  have timed : Kept s { s with drive := { s.drive with stallTimer := stall.1, overTimer := fast.1 } } :=
    kept_setDrive s _ rfl rfl rfl rfl
  exact .ite (fun _ => timed.trans (driveFault_kept _ _ _ _))
    (fun _ => .ite (fun _ => timed.trans (driveFault_kept _ _ _ _)) (fun _ => timed.trans (judgeBlocked_kept _)))

theorem runValid_kept (ts : Ticks) (i : Nat) (s : State) : Kept s (runValid ts i s) := by
  obtain ⟨k, h⟩ := acceptCrossing_eq ts i s
  unfold runValid
  rw [h]
  exact (kept_setDriveFree s { s.drive with
    ring := ringPush s.drive.ring i, xref := some ⟨ts, i⟩, speed := ringSpeed s.freeCount (ringPush s.drive.ring i),
    missCount := 0, commIn := some (i / 2) } k rfl rfl rfl rfl).trans (judgeSpeed_kept _)

theorem crossInRun_kept (ts : Ticks) (s : State) : Kept s (crossInRun ts s) := by
  unfold crossInRun
  split
  · exact runValid_kept _ _ s
  · exact .refl s

theorem coastToOff_kept (s : State) (hrun : s.drive.state ≠ .run) : Kept s (coastToOff s) :=
  (enterOff_kept s hrun).trans (reportDrive_kept _ _)

theorem coastIfSlow_kept (s : State) (hrun : s.drive.state ≠ .run) : Kept s (coastIfSlow s) :=
  .ite (fun _ => coastToOff_kept s hrun) (fun _ => .refl s)

theorem catchDuty_le (k : Nat) (d : Drive) (dutyMax : Nat) : catchDuty k d dutyMax ≤ dutyMax := by
  unfold catchDuty
  split <;> exact Nat.min_le_left _ _

theorem catchDone_kept (i : Nat) (s : State) (hcoast : s.drive.state = .coast) (hcatch : s.drive.catchCount.isSome = true) :
    Kept s (catchDone i s) := by
  unfold catchDone
  split
  · dsimp only
    generalize (if s.drive.speedAtStop.getD 0 = 0 then s.freeCount + 1 else s.freeCount) = k
    have stepped : Kept s { s with drive := { s.drive with step := nextBridgeStep s.drive.step }, freeCount := k } :=
      kept_setDriveFree s _ k rfl rfl rfl rfl
    have entered := enterRun_kept (catchDuty s.freeCount s.drive s.gov.limits.dutyMax)
      { s with drive := { s.drive with step := nextBridgeStep s.drive.step }, freeCount := k } (.inr hcatch)
      (fun _ => catchDuty_le _ _ _)
    refine ((stepped.trans entered).trans ?_).trans (reportDrive_kept _ _)
    exact kept_setDrive _ _ rfl rfl rfl rfl
  · have waits : Kept s { s with drive := { s.drive with catchCount := none, startPending := true } } :=
      { motor := fun hm => ⟨fun hc => (by cases hc), fun hr hd => (by simp [hcoast, DriveState.drives] at hd), hm.2.2⟩ }
    exact waits.trans (coastIfSlow_kept _ (by simp [hcoast]))

/-- A catch that goes on, in COAST. -/
theorem kept_setCatch (s : State) (d : Drive) (k : Nat) (hcoast : s.drive.state = .coast)
    (hcatch : s.drive.catchCount.isSome = true) (hs : d.state = s.drive.state) (hd : d.duty = s.drive.duty)
    (hh : d.heldDuty = s.drive.heldDuty) : Kept s { s with drive := d, freeCount := k } where
  duty _ h := by
    obtain ⟨hduty, hprev, hheld, hrest⟩ := h
    refine ⟨?_, hprev, ?_, ?_⟩
    · simpa only [hd] using hduty
    · simpa only [hh] using hheld
    · simpa only [hs, hd, hh] using hrest
  motor hm :=
    ⟨fun _ => hs.trans hcoast, fun hr _ => hm.2.1 hr (.inr hcatch), by simpa only [hs] using hm.2.2⟩
  balance h := ⟨h.1, fun hdrives => h.2 (by simpa only [hs] using hdrives)⟩

theorem catchValid_kept (ts : Ticks) (i count : Nat) (s : State) (hcoast : s.drive.state = .coast)
    (hcatch : s.drive.catchCount.isSome = true) : Kept s (catchValid ts i count s) := by
  obtain ⟨k, h⟩ := acceptCrossing_eq ts i s
  unfold catchValid
  rw [h]
  have counted : Kept s { s with
      drive := { s.drive with ring := ringPush s.drive.ring i, xref := some ⟨ts, i⟩,
                              speed := ringSpeed s.freeCount (ringPush s.drive.ring i), missCount := 0,
                              step := nextBridgeStep s.drive.step, catchCount := some (count + 1),
                              crossTimer := some (s.after 100) },
      freeCount := k } := kept_setCatch s _ k hcoast hcatch rfl rfl rfl
  exact .ite (fun _ => counted.trans (catchDone_kept _ _ hcoast rfl))
    (fun _ => counted.trans (coastIfSlow_kept _ (by simp [hcoast])))

theorem crossInCatch_kept (ts : Ticks) (count : Nat) (s : State) (hcoast : s.drive.state = .coast)
    (hcatch : s.drive.catchCount.isSome = true) : Kept s (crossInCatch ts count s) := by
  unfold crossInCatch
  split
  · exact catchValid_kept _ _ _ s hcoast hcatch
  · exact .refl s

/-- A crossing accepted with the bridge off moves only what no invariant reads. -/
theorem acceptFree_kept (ts : Ticks) (i : Nat) (s : State) : Kept s (acceptFree ts i s) := by
  have accepted : Kept s (if i ≤ 1000000 then acceptCrossing ts i s
      else { s with drive := { s.drive with ring := [], speed := none, xref := some ⟨ts, 0⟩ } }) :=
    .ite (fun _ => acceptCrossing_kept _ _ s) (fun _ => kept_setDrive s _ rfl rfl rfl rfl)
  exact accepted.trans (kept_setDrive _ _ rfl rfl rfl rfl)

theorem acceptFree_state (ts : Ticks) (i : Nat) (s : State) : (acceptFree ts i s).drive.state = s.drive.state := by
  obtain ⟨k, h⟩ := acceptCrossing_eq ts i s
  unfold acceptFree
  rw [h]
  dsimp only
  split <;> rfl

theorem firstReference_kept (ts : Ticks) (s : State) : Kept s (firstReference ts s) :=
  kept_setDrive s _ rfl rfl rfl rfl

theorem crossInCoast_kept (ts : Ticks) (s : State) (hrun : s.drive.state ≠ .run) : Kept s (crossInCoast ts s) := by
  unfold crossInCoast
  split
  · exact .refl s
  · exact (firstReference_kept ts s).trans (coastIfSlow_kept _ hrun)
  · have timed := (acceptFree_kept ts (freeInterval ts s.drive) s).trans (kept_setDrive _
      { (acceptFree ts (freeInterval ts s.drive) s).drive with crossTimer := some (s.after 100) } rfl rfl rfl rfl)
    exact timed.trans (coastIfSlow_kept _ (by simpa only [acceptFree_state] using hrun))

theorem faultToOff_kept (s : State) (hrun : s.drive.state ≠ .run) : Kept s (faultToOff s) :=
  (enterOff_kept s hrun).trans (reportDrive_kept _ _)

theorem releaseIfSlow_kept (s : State) (hrun : s.drive.state ≠ .run) : Kept s (releaseIfSlow s) :=
  .ite (fun _ => faultToOff_kept s hrun) (fun _ => .refl s)

theorem crossInFault_kept (ts : Ticks) (s : State) (hrun : s.drive.state ≠ .run) : Kept s (crossInFault ts s) := by
  unfold crossInFault
  split
  · exact .refl s
  · exact (firstReference_kept ts s).trans (releaseIfSlow_kept _ hrun)
  · exact (acceptFree_kept _ _ s).trans (releaseIfSlow_kept _ (by simpa only [acceptFree_state] using hrun))

/-! ### The window expiry (R3, R4) -/

/-- A commutation in RUN applies the held duty, which is the governor's prev (R13). -/
theorem kept_commutate (s : State) (d : Drive) (hrun : s.drive.state = .run) (hs : d.state = s.drive.state)
    (hd : d.duty = s.drive.heldDuty.getD s.drive.duty) (hh : d.heldDuty = none)
    (hc : d.catchCount = s.drive.catchCount) : Kept s { s with drive := d } where
  duty _ h := by
    obtain ⟨hduty, hprev, hheld, -⟩ := h
    have hd' : d.duty ≤ s.gov.limits.dutyMax := by
      rw [hd]
      cases hx : s.drive.heldDuty with
      | none => exact hduty
      | some x => exact hheld x hx ▸ hprev
    refine ⟨hd', hprev, ?_, fun hne => absurd (hs.trans hrun) hne⟩
    intro x hx
    rw [hh] at hx
    cases hx
  motor h := by
    obtain ⟨hcatch, hpermit, hroll⟩ := h
    refine ⟨?_, ?_, ?_⟩
    · simpa only [hc, hs] using hcatch
    · simpa only [hc, hs] using hpermit
    · simpa only [hs] using hroll
  balance h := ⟨h.1, fun hdrives => h.2 (by simpa only [hs] using hdrives)⟩

theorem missInRun_kept (ref : CrossRef) (s : State) (hrun : s.drive.state = .run) : Kept s (missInRun ref s) := by
  have missed : Kept s { s with
      drive := { commutate s.drive with xref := some (advanceRef ref), missCount := s.drive.missCount + 1 } } :=
    kept_commutate s _ hrun rfl rfl rfl rfl
  exact .ite (fun _ => missed.trans (driveFault_kept _ _ _ _)) (fun _ => missed)

theorem windowExpired_kept (ref : CrossRef) (s : State)
    (hcatch : s.drive.state = .coast → s.drive.catchCount.isSome = true) : Kept s (windowExpired ref s) := by
  unfold windowExpired
  split
  case h_1 => exact kept_setDrive s _ rfl rfl rfl rfl
  case h_2 hrun => exact missInRun_kept ref s hrun
  case h_3 hcoast => exact kept_setCatch s _ s.freeCount hcoast (hcatch hcoast) rfl rfl rfl
  all_goals exact .refl s

theorem expireWindow_kept (s : State) (hcatch : s.drive.state = .coast → s.drive.catchCount.isSome = true) :
    Kept s (expireWindow s) := by
  unfold expireWindow
  split
  · exact windowExpired_kept _ s hcatch
  · exact .refl s

/-! ### A fault taken at the instant at which a run ended (R152) -/

/-- A fan that leaves a judgement in RUN by a fault does so by `driveFault`. -/
def FaultsFromRun (judge : State → State) (s : State) : Prop :=
  ∀ d k, d.state = DriveState.run → (judge { s with drive := d, freeCount := k }).drive.state = .fault →
    ∃ c v w d' k', d'.state = DriveState.run ∧
      judge { s with drive := d, freeCount := k } = driveFault c v w { s with drive := d', freeCount := k' }

theorem judgeBlocked_state {s : State} (hphase : s.evac.phase = .none) :
    (judgeBlocked s).drive.state = s.drive.state := by
  have set : ∀ u : State, u.evac.phase = .none → (blockedSet u).drive.state = u.drive.state := fun u hu => by
    unfold blockedSet endRun
    dsimp only
    rw [if_pos hu, ite_self]
  unfold judgeBlocked
  dsimp only
  split
  · simp only [reportDock_drive, reportDrive_drive]
    exact set _ hphase
  · rfl

/-- The judgement of the speed faults the drive, or leaves its state. -/
theorem judgeSpeed_cases {s : State} (hphase : s.evac.phase = .none) :
    (∃ c v w d, d.state = s.drive.state ∧ judgeSpeed s = driveFault c v w { s with drive := d }) ∨
      (judgeSpeed s).drive.state = s.drive.state := by
  unfold judgeSpeed
  dsimp only
  generalize (holdTimer s.now s.drive.stallTimer _ _) = stall
  generalize (holdTimer s.now s.drive.overTimer _ _) = fast
  by_cases hs : stall.2 = true
  · rw [if_pos hs]
    exact .inl ⟨.stall, speedReading s.drive.speed, none,
      { s.drive with stallTimer := stall.1, overTimer := fast.1 }, rfl, rfl⟩
  · rw [if_neg hs]
    by_cases hf : fast.2 = true
    · rw [if_pos hf]
      exact .inl ⟨.overspeed, speedReading s.drive.speed, none,
        { s.drive with stallTimer := stall.1, overTimer := fast.1 }, rfl, rfl⟩
    · rw [if_neg hf]
      exact .inr (judgeBlocked_state (s := { s with
        drive := { s.drive with stallTimer := stall.1, overTimer := fast.1 } }) hphase)

theorem crossInRun_faults (ts : Ticks) (s : State) (hphase : s.evac.phase = .none) : FaultsFromRun (crossInRun ts) s := by
  intro d k hrun hfault
  unfold crossInRun at hfault ⊢
  cases hwin : d.xref.bind (fun ref => inWindow ref ts) with
  | none =>
    rw [hwin] at hfault
    exact absurd (hrun.symm.trans hfault) (by decide)
  | some i =>
    obtain ⟨k', h⟩ := acceptCrossing_eq ts i { s with drive := d, freeCount := k }
    rw [hwin] at hfault
    simp only [runValid, h] at hfault ⊢
    rcases judgeSpeed_cases (s := { s with
        drive := { d with ring := ringPush d.ring i, xref := some ⟨ts, i⟩, speed := ringSpeed k (ringPush d.ring i),
                          missCount := 0, commIn := some (i / 2) }, freeCount := k' }) hphase with
      ⟨c, v, w, d', hd', hj⟩ | hsame
    · exact ⟨c, v, w, d', k', hd'.trans hrun, hj⟩
    · exact absurd ((hsame.trans hrun).symm.trans hfault) (by decide)

theorem expireWindow_faults (s : State) : FaultsFromRun expireWindow s := by
  intro d k hrun hfault
  unfold expireWindow at hfault ⊢
  cases href : d.xref with
  | none =>
    rw [href] at hfault
    exact absurd (hrun.symm.trans hfault) (by decide)
  | some ref =>
    rw [href] at hfault
    simp only [windowExpired, hrun, missInRun] at hfault ⊢
    by_cases hfour : 4 ≤ d.missCount + 1
    · simp only [if_pos hfour]
      exact ⟨_, _, _, { commutate d with xref := some (advanceRef ref), missCount := d.missCount + 1 }, k, hrun, rfl⟩
    · rw [if_neg hfour] at hfault
      exact absurd (hrun.symm.trans hfault) (by decide)

theorem driveFault_state (c : DriveFault) (v : Reading) (w : Option Reading) (s : State) :
    (driveFault c v w s).drive.state = .fault := by
  have released : ∀ u : State, (decideReleased u).drive.state = u.drive.state := fun u => by
    unfold decideReleased
    split <;> rfl
  simp [driveFault, released, faultRecord]

/-- The fourth miss of a fan whose run has just ended is a fault (R3, R152). -/
theorem expireWindow_fourth (s : State) (d : Drive) (hrun : d.state = .run) (hmiss : 3 ≤ d.missCount)
    (href : d.xref.isSome = true) : (expireWindow { s with drive := d }).drive.state = .fault := by
  obtain ⟨ref, href⟩ := Option.isSome_iff_exists.mp href
  have hfour : 4 ≤ d.missCount + 1 := Nat.succ_le_succ hmiss
  simp only [expireWindow, href, windowExpired, hrun, missInRun, hfour, if_true]
  exact driveFault_state _ _ _ _

theorem judgeAtEnd_kept {judge otherwise : State → State} {s : State} (hfaults : s.evac.phase = .none → FaultsFromRun judge s)
    (hotherwise : (∀ misses, s.missesAtEnd = some misses →
        (judge { s with drive := { s.drive with state := .run, missCount := misses } }).drive.state ≠ .fault) →
      Kept s (otherwise s)) : Kept s (judgeAtEnd judge otherwise s) := by
  unfold judgeAtEnd
  split
  case h_1 hnone => exact hotherwise (fun m hm => by rw [hnone] at hm; cases hm)
  case h_2 misses hsome =>
    dsimp only
    split
    · next hfault =>
      obtain ⟨-, -, -, hphase, -⟩ := missesAtEnd_some hsome
      obtain ⟨c, v, w, d', k', hrun, hj⟩ :=
        hfaults hphase { s.drive with state := .run, missCount := misses } s.freeCount rfl hfault
      have faulted : Kept s (judge { s with drive := { s.drive with state := .run, missCount := misses } }) := by
        rw [hj]
        exact driveFault_kept_of_run c v w s d' k' hrun
      exact faulted.trans (kept_setDrive _ _ rfl rfl rfl rfl)
    · next hno => exact hotherwise (fun m hm => by rw [hsome] at hm; cases hm; exact hno)

theorem crossing_kept (ts : Ticks) (s : State) : Kept s (crossing ts s) := by
  have stamped : Kept s { s with drive := { s.drive with captureTimer := ts } } := kept_setDrive s _ rfl rfl rfl rfl
  unfold crossing
  dsimp only
  split
  case h_1 | h_2 => exact stamped
  case h_3 hst => exact stamped.trans (crossInRamp_kept ts _ hst)
  case h_4 => exact stamped.trans (crossInRun_kept ts _)
  case h_5 count hst hcatch => exact stamped.trans (crossInCatch_kept ts count _ hst (by simp [hcatch]))
  case h_6 hst hcatch =>
    exact stamped.trans (judgeAtEnd_kept (crossInRun_faults ts _)
      (fun _ => crossInCoast_kept ts _ (by simp [hst])))
  case h_7 hst => exact stamped.trans (crossInFault_kept ts _ (by simp [hst]))

/-- A window expiry that occurs (R3, R4, R152). -/
theorem windowExpiryTaken_kept (s : State)
    (hoccurs : ((s.drive.windowed || s.lastMissAtEnd) && s.drive.xref.isSome) = true) :
    Kept s (judgeAtEnd expireWindow expireWindow s) := by
  simp only [Bool.and_eq_true, Bool.or_eq_true] at hoccurs
  obtain ⟨hwindow, href⟩ := hoccurs
  refine judgeAtEnd_kept (fun _ => expireWindow_faults s) (fun hno => expireWindow_kept s (fun hcoast => ?_))
  rcases hwindow with hwindowed | hlast
  · simpa [Drive.windowed, hcoast] using hwindowed
  · unfold State.lastMissAtEnd at hlast
    split at hlast
    · next misses hm =>
      exact absurd (expireWindow_fourth s { s.drive with state := .run, missCount := misses } rfl
        (by simpa using hlast) href) (hno misses hm)
    · cases hlast

/-! ### Commutations, timers and readings -/

theorem commutation_kept (s : State) (hrun : s.drive.state = .run) :
    Kept s { s with drive := { commutate s.drive with commIn := none } } :=
  kept_commutate s _ hrun rfl rfl rfl rfl

theorem forceCommutation_kept (s : State) : Kept s (forceCommutation s) := kept_setDrive s _ rfl rfl rfl rfl

theorem enterRamp_kept (s : State) (halign : s.drive.state = .align) : Kept s (enterRamp s) where
  duty hl h := by
    obtain ⟨-, hprev, -, hrest⟩ := h
    obtain ⟨-, hheld, hzero⟩ := hrest (by rw [halign]; decide)
    have hmax : 1024 ≤ s.gov.limits.dutyMax := limitsInRange_dutyMax hl.1
    refine ⟨Nat.le_trans (by decide : 410 ≤ 1024) hmax, hprev, ?_, fun _ => ⟨Nat.le_refl _, hheld, hzero⟩⟩
    intro x (hx : s.drive.heldDuty = some x)
    rw [hheld] at hx
    cases hx
  motor hm := by
    have hcatch := motorPermitted_catch hm (by rw [halign]; decide)
    have hroll := motorPermitted_roll hm (by rw [halign]; decide)
    refine ⟨fun hc => ?_, fun hr _ => hm.2.1 hr (.inl (by rw [halign]; rfl)), fun hr => ?_⟩
    · simp [enterRamp, hcatch] at hc
    · simp [enterRamp, hroll] at hr
  balance h := ⟨h.1, fun _ => h.2 (by rw [halign]; rfl)⟩

theorem rampFailed_kept (s : State) (hramp : s.drive.state = .ramp) : Kept s (rampFailed s) := by
  have counted : Kept s { s with drive := { s.drive with attempts := s.drive.attempts + 1 } } :=
    kept_setDrive s _ rfl rfl rfl rfl
  refine .ite (fun _ => ?_) (fun _ => counted.trans (driveFault_kept _ _ _ _))
  have retried : Kept s (enterCoast { s with drive := { s.drive with attempts := s.drive.attempts + 1, retryPending := true } }) :=
    kept_restDrive s _ (by rw [hramp]; decide) rfl rfl rfl (.inr ⟨rfl, rfl⟩)
  exact retried.trans (reportDrive_kept _ _)

theorem faultTimeOver_kept (s : State) (hfault : s.drive.state = .fault) : Kept s (faultTimeOver s) :=
  .ite (fun _ => faultToOff_kept s (by rw [hfault]; decide)) (fun _ => kept_setDrive s _ rfl rfl rfl rfl)

theorem busReadingTaken_kept (r : Reading) (s : State) : Kept s (busReadingTaken r s) :=
  have sampled : Kept s (busSample r s) := kept_setGov s _ rfl rfl
  .ite (fun _ => sampled.trans (driveFault_kept _ _ _ _)) (fun _ => sampled)

/-! ### SET_SUCTION (R23) -/

theorem suctionOff_kept (s : State) : Kept s (suctionOff s) := by
  have off := (kept_setDrive s { s.drive with mode := .off } rfl rfl rfl rfl).trans (rollRelease_kept .release _)
  unfold suctionOff
  refine .ite (fun _ => ?_) (fun _ => .ite (fun hfault => ?_) (fun _ => .ite (fun _ => ?_) (fun _ => off)))
  · exact ((off.trans (endCalibration_kept _ _)).trans (driveStop_kept _)).trans (reportMove_kept _ _ _)
  · exact (off.trans (releaseFault_kept _ hfault)).trans (reportMove_kept _ _ _)
  · exact (off.trans (driveStop_kept _)).trans (reportMove_kept _ _ _)

theorem takeOverCalibration_kept (s : State) : Kept s (takeOverCalibration s) := by
  have owned := (endCalibration_kept .aborted s).trans (kept_setDrive (endCalibration .aborted s)
    { (endCalibration .aborted s).drive with owner := .host } rfl rfl rfl rfl)
  refine .ite (fun _ => ?_) (fun _ => owned)
  refine (owned.trans (kept_setDebris _ _ ?_)).trans (reportDirt_kept _ _)
  exact fun h => ⟨Nat.zero_le _, by simp [Debris.calibrationLeft], h.2.2⟩

theorem suctionOn_kept (mode : SuctionMode) (s : State) (hallowed : s.motorAllowed) : Kept s (suctionOn mode s) := by
  have moded : Kept s { s with drive := { s.drive with mode := mode } } := kept_setDrive s _ rfl rfl rfl rfl
  have taken : Kept s (if s.debris.cal.isSome then takeOverCalibration { s with drive := { s.drive with mode := mode } }
      else { s with drive := { s.drive with mode := mode } }) :=
    .ite (fun _ => moded.trans (takeOverCalibration_kept _)) (fun _ => moded)
  refine .ite (fun _ => ?_) (fun _ => taken)
  refine (taken.trans (startRequest_kept _ _ ?_)).trans (reportStart_kept _ _)
  unfold takeOverCalibration State.motorAllowed
  dsimp only
  split
  · split <;> simpa [State.motorAllowed] using hallowed
  · exact hallowed

end Sys2Proof.Machine

/-! What the pack monitor, protection and the power mode's work at a publication keep (chapter 3). -/

namespace Sys2Proof.Machine

open Sys2Proof

/-- An operation that keeps every invariant but the bounds of the charge under an invalid strap, under which it does not
occur. -/
structure Guarded (s t : State) : Prop extends Tame s t where
  perms : Safety.permissionsFollow s → Safety.permissionsFollow t := by exact id

theorem Kept.guarded {s t : State} (h : Kept s t) : Guarded s t := ⟨h.toTame, h.perms⟩

theorem Guarded.trans {s t u : State} (h : Guarded s t) (k : Guarded t u) : Guarded s u :=
  ⟨h.toTame.trans k.toTame, k.perms ∘ h.perms⟩

theorem Guarded.kept {s t : State} (h : Guarded s t) (hscan : s.pack.scanning = true) : Kept s t where
  toTame := h.toTame
  perms := h.perms
  strapped hv hc := by
    simp only [State.strapValid, Classical.not_not] at hv
    obtain ⟨-, -, -, -, hidle⟩ := chargeBounded_strapped hc hv.1 hv.2
    rw [hscan] at hidle
    cases hidle

/-! ### The allowance, the need record and the level -/

/-- The allowance computed again is the governor's alone, and neither its limits nor its PI state. -/
theorem recomputeAllowance_eq (s : State) :
    ∃ g, recomputeAllowance s = { s with gov := g } ∧ g.limits = s.gov.limits ∧ g.prev = s.gov.prev := by
  unfold recomputeAllowance
  split
  · exact ⟨_, rfl, rfl, rfl⟩
  · exact ⟨_, rfl, rfl, rfl⟩

theorem recomputeAllowance_kept (s : State) : Kept s (recomputeAllowance s) := by
  obtain ⟨g, h, hlimits, hprev⟩ := recomputeAllowance_eq s
  rw [h]
  exact kept_setGov s g hlimits hprev

theorem recomputeNeed_kept (s : State) : Kept s (recomputeNeed s) := {}

theorem reportProtection_kept (s : State) : Kept s (reportProtection s) := handReport_kept _ s

theorem evaluateLevel_kept (before : Prot) (s : State) : Kept s (evaluateLevel before s) := by
  have leveled : Kept s { s with prot := { s.prot with level := levelOf s.prot s.allowance s.gov.limits.discharge } } :=
    kept_setProt s _ rfl rfl rfl rfl rfl
  have dated : Kept s (if (Prot.sameStanding
        { s.prot with level := levelOf s.prot s.allowance s.gov.limits.discharge } before) = true
      then { s with prot := { s.prot with level := levelOf s.prot s.allowance s.gov.limits.discharge } }
      else { s with prot :=
        { s.prot with level := levelOf s.prot s.allowance s.gov.limits.discharge, lastChange := s.now } }) :=
    .ite (fun _ => leveled) (fun _ => kept_setProt s _ rfl rfl rfl rfl rfl)
  exact .ite (fun _ => dated) (fun _ => dated.trans (reportProtection_kept _))

/-! ### The permissions (R66) -/

theorem applyPermissions_prot (s : State) :
    (applyPermissions s).prot
      = { s.prot with dischargeOk := dischargePermitted s.prot, chargeOk := chargePermitted s.prot } := by
  unfold applyPermissions
  dsimp only
  split
  · rfl
  · obtain ⟨g, h, -⟩ := recomputeAllowance_eq { s with prot :=
      { s.prot with dischargeOk := dischargePermitted s.prot, chargeOk := chargePermitted s.prot } }
    rw [h]

/-- The permissions are what the causes make of them, whatever stood before. -/
theorem applyPermissions_perms (s : State) : Safety.permissionsFollow (applyPermissions s) := by
  simp [Safety.permissionsFollow, applyPermissions_prot, dischargePermitted, chargePermitted, and_assoc]

/-- The new permissions change no invariant but the motor's interlock and the permissions themselves. -/
structure Permits (s t : State) : Prop extends Calm s t where
  drive : t.drive = s.drive := by rfl
  stick : t.stick = s.stick := by rfl
  roll : t.roll = s.roll := by rfl
  pack : t.pack = s.pack := by rfl

theorem applyPermissions_permits (s : State) : Permits s (applyPermissions s) := by
  have applied : Permits s { s with prot :=
    { s.prot with dischargeOk := dischargePermitted s.prot, chargeOk := chargePermitted s.prot } } := {}
  unfold applyPermissions
  dsimp only
  split
  · exact applied
  · obtain ⟨g, h, hlimits, hprev⟩ := recomputeAllowance_eq { s with prot :=
      { s.prot with dischargeOk := dischargePermitted s.prot, chargeOk := chargePermitted s.prot } }
    rw [h]
    exact { toCalm := applied.toCalm.trans (kept_setGov _ g hlimits hprev).toCalm }

/-- The stop that a withdrawn discharge permission brings (R66). -/
def stopIfLost (before : Prot) (s : State) : State :=
  if before.dischargeOk && !s.prot.dischargeOk then forceOff .dischargeLost s else s

/-- What follows the stop: the need record and the level. -/
def settleLevel (before : Prot) (chargeOk : Bool) (s : State) : State :=
  evaluateLevel before (if chargeOk = before.chargeOk then s else recomputeNeed s)

theorem evaluateProtection_eq (before : Prot) (s : State) :
    evaluateProtection before s
      = settleLevel before (applyPermissions s).prot.chargeOk (stopIfLost before (applyPermissions s)) := rfl

theorem stopIfLost_kept (before : Prot) (s : State) : Kept s (stopIfLost before s) :=
  .ite (fun _ => forceOff_kept _ s) (fun _ => .refl s)

theorem settleLevel_kept (before : Prot) (chargeOk : Bool) (s : State) : Kept s (settleLevel before chargeOk s) := by
  have needed : Kept s (if chargeOk = before.chargeOk then s else recomputeNeed s) :=
    .ite (fun _ => .refl s) (fun _ => recomputeNeed_kept s)
  exact needed.trans (evaluateLevel_kept _ _)

theorem evaluateProtection_follows (before : Prot) (s : State) :
    Kept (applyPermissions s) (evaluateProtection before s) :=
  (stopIfLost_kept before _).trans (settleLevel_kept before _ _)

theorem evaluateProtection_perms (before : Prot) (s : State) : Safety.permissionsFollow (evaluateProtection before s) :=
  (evaluateProtection_follows before s).perms (applyPermissions_perms s)

/-- Where the motor was allowed to drive, either it still is or it has been stopped (R66). -/
theorem stopIfLost_motor (before : Prot) (s : State) (hbefore : before.dischargeOk = s.prot.dischargeOk)
    (hm : Safety.motorPermitted s) : Safety.motorPermitted (stopIfLost before (applyPermissions s)) := by
  have hp := applyPermissions_permits s
  obtain ⟨hcatch, hpermit, hroll⟩ := hm
  unfold stopIfLost
  split
  · exact (forceOff_rests _ _ (by rw [hp.drive]; exact hcatch) (by rw [hp.roll, hp.drive]; exact hroll)).motorPermitted
  · next hkept =>
    refine ⟨by rw [hp.drive]; exact hcatch, ?_, by rw [hp.roll, hp.drive]; exact hroll⟩
    rw [hp.role, hp.drive, hp.stick]
    intro hr hd
    obtain ⟨hok, hdet⟩ := hpermit hr hd
    rw [hbefore, hok] at hkept
    exact ⟨by simpa using hkept, hdet⟩

theorem evaluateProtection_guarded (before : Prot) (s : State) (hbefore : before.dischargeOk = s.prot.dischargeOk) :
    Guarded s (evaluateProtection before s) where
  toCalm := (applyPermissions_permits s).toCalm.trans (evaluateProtection_follows before s).toCalm
  motor hm := (settleLevel_kept before _ _).motor (stopIfLost_motor before s hbefore hm)
  perms _ := evaluateProtection_perms before s

theorem evaluateProtection_strapped (before : Prot) (s : State) (hv : ¬ s.strapValid) (hc : Safety.chargeBounded s) :
    Safety.chargeBounded (evaluateProtection before s) := by
  have hp := applyPermissions_permits s
  refine (evaluateProtection_follows before s).strapped (fun h => hv (hp.strapValid.mp h)) ?_
  simpa only [Safety.chargeBounded, hp.pack, hp.role, hp.cells] using hc

/-- The causes released, and what the release makes of the permissions. -/
theorem releaseThenEvaluate_kept (s : State) (p : Prot) (hp : p.dischargeOk = s.prot.dischargeOk) :
    Kept s (evaluateProtection s.prot { s with prot := p }) where
  toTame := (tame_setProt s p hp).trans (evaluateProtection_guarded s.prot { s with prot := p } hp.symm).toTame
  perms _ := evaluateProtection_perms _ _
  strapped hv hc := evaluateProtection_strapped _ _ hv hc

theorem dsgOcCleared_kept (s : State) : Kept s (dsgOcCleared s) := releaseThenEvaluate_kept s _ rfl

theorem releaseLockout_kept (s : State) : Kept s (releaseLockout s) := releaseThenEvaluate_kept s _ rfl

theorem releaseChgOc_kept (s : State) : Kept s (releaseChgOc s) :=
  .ite (fun _ => (releaseThenEvaluate_kept s
      { s.prot with tChgCeiling := none, tChgNeed := none, active := { s.prot.active with chgOc := false } } rfl).trans
      (recomputeNeed_kept _))
    (fun _ => kept_setProt s _ rfl rfl rfl rfl rfl)

/-! ### The charge counter (R53 to R57) -/

/-- Interpolation stays at or below the higher of its two points. -/
theorem interpolate_le {v sa v' sb avg : Nat} (hs : sa ≤ sb) (h : avg < v') : interpolate v sa v' sb avg ≤ sb := by
  unfold interpolate
  have hfrac : (sb - sa) * (avg - v) / (v' - v) ≤ sb - sa := by
    refine Nat.div_le_of_le_mul ?_
    rw [Nat.mul_comm]
    exact Nat.mul_le_mul_right _ (by omega)
  omega

/-- A search among points of at most 1,000 permille in rising order gives at most 1,000 permille. -/
theorem ocvSearch_le (points : List (Nat × Nat)) (avg : Nat) (hle : ∀ p ∈ points, p.2 ≤ 1000)
    (hsorted : (points.map Prod.snd).Pairwise (· ≤ ·)) : ocvSearch points avg ≤ 1000 := by
  induction points with
  | nil => exact Nat.le_refl _
  | cons a rest ih =>
    cases rest with
    | nil => exact Nat.le_refl _
    | cons b rest =>
      unfold ocvSearch
      split
      · next hlt =>
        have hab : a.2 ≤ b.2 := (List.pairwise_cons.mp hsorted).1 _ (by simp)
        exact Nat.le_trans (interpolate_le hab hlt) (hle b (by simp))
      · exact ih (fun p hp => hle p (List.mem_cons_of_mem _ hp)) (List.pairwise_cons.mp hsorted).2

theorem zip_snd_sublist {α β : Type} (xs : List α) (ys : List β) : ((xs.zip ys).map Prod.snd).Sublist ys := by
  induction xs generalizing ys with
  | nil => exact List.nil_sublist _
  | cons x xs ih =>
    cases ys with
    | nil => exact List.nil_sublist _
    | cons y ys => exact (ih ys).cons_cons y

theorem ocvToSoc_le (table : List Nat) (avg : Nat) : ocvToSoc table avg ≤ 1000 := by
  unfold ocvToSoc
  split
  · exact Nat.zero_le _
  · refine ocvSearch_le _ _ (fun p hp => ?_) ?_
    · have hmem : p.2 ∈ ocvPoints := (List.of_mem_zip hp).2
      revert hmem
      generalize p.2 = n
      simp only [ocvPoints, List.mem_cons, List.not_mem_nil, or_false]
      omega
    · exact List.Pairwise.sublist (zip_snd_sublist table ocvPoints) (by decide)

theorem restEstimate_le (p : Pack) (r : PackRecord) : restEstimate p r ≤ p.fullCharge := by
  have hsoc := ocvToSoc_le p.ocv ((cellSum r.cells).toNat / r.cells.length)
  unfold restEstimate Pack.fullCharge
  generalize ocvToSoc p.ocv ((cellSum r.cells).toNat / r.cells.length) = soc at hsoc ⊢
  calc soc * p.capacity * 36 / 10 ≤ 1000 * p.capacity * 36 / 10 :=
        Nat.div_le_div_right (Nat.mul_le_mul_right _ (Nat.mul_le_mul_right _ hsoc))
    _ = p.capacity * 3600 := by omega

theorem Pack.integrate_q_le (p : Pack) (i : Reading) (dt : Nat) : (p.integrate i dt).q ≤ p.fullCharge := by
  unfold Pack.integrate clampInt
  dsimp only
  omega

theorem Pack.rest_q_le (p : Pack) (r : PackRecord) (now : Ms) (h : p.q ≤ p.fullCharge) :
    (p.rest r now).q ≤ p.fullCharge := by
  unfold Pack.rest
  dsimp only
  split
  · exact h
  · split
    · exact restEstimate_le p r
    · exact h

/-- A record replaced in the pack monitor with a charge within the full charge. -/
theorem guarded_setPack (s : State) (p : Pack) (hq : Safety.chargeBounded s → p.q ≤ p.capacity * 3600)
    (hc : p.capacity = s.pack.capacity) (hb : p.balance = s.pack.balance) : Guarded s { s with pack := p } where
  charge hv h := ⟨hq h, by simpa only [hc] using h.2.1, by simpa only [hc] using h.2.2.1,
    fun hr hcells => absurd ⟨hr, hcells⟩ hv⟩
  balance h := by simpa only [Safety.balanceAllowed, hb] using h

theorem Pack.rest_capacity (p : Pack) (r : PackRecord) (now : Ms) : (p.rest r now).capacity = p.capacity := by
  unfold Pack.rest Pack.calibrate
  dsimp only
  split
  · rfl
  · split <;> rfl

theorem Pack.rest_balance (p : Pack) (r : PackRecord) (now : Ms) : (p.rest r now).balance = p.balance := by
  unfold Pack.rest Pack.calibrate
  dsimp only
  split
  · rfl
  · split <;> rfl

theorem takeRecord_guarded (r : PackRecord) (s : State) : Guarded s (takeRecord r s) := by
  refine (guarded_setPack s { (s.pack.integrate r.packI s.sincePublication).rest r s.now with
    record := some r, scanning := false } (fun _ => ?_) ?_ ?_).trans (recomputeAllowance_kept _).guarded
  · have h := Pack.rest_q_le (s.pack.integrate r.packI s.sincePublication) r s.now (Pack.integrate_q_le _ _ _)
    simpa only [Pack.rest_capacity, Pack.fullCharge] using h
  · simp [Pack.rest_capacity, Pack.integrate]
  · simp [Pack.rest_balance, Pack.integrate]

/-! ### The causes (R59 to R65, R68) -/

theorem packFault_kept (code : FaultCode) (v : Reading) (w : Option Nat) (s : State) : Kept s (packFault code v w s) :=
  appendFault_kept _ _ _ _ s

@[simp] theorem packFault_prot (code : FaultCode) (v : Reading) (w : Option Nat) (s : State) :
    (packFault code v w s).prot = s.prot := appendFault_prot _ _ _ _ _

/-- A judgement of a cause: it changes no permission yet, and no invariant but the permissions'. -/
structure Judges (s t : State) : Prop extends Tame s t where
  permit : t.prot.dischargeOk = s.prot.dischargeOk := by rfl

theorem Judges.refl (s : State) : Judges s s := {}

theorem Judges.trans {s t u : State} (h : Judges s t) (k : Judges t u) : Judges s u :=
  ⟨h.toTame.trans k.toTame, k.permit.trans h.permit⟩

theorem Judges.ite {c : Prop} [Decidable c] {s t u : State} (h : c → Judges s t) (k : ¬ c → Judges s u) :
    Judges s (if c then t else u) := by
  split
  · exact h ‹_›
  · exact k ‹_›

theorem judges_setProt (s : State) (p : Prot) (h : p.dischargeOk = s.prot.dischargeOk) : Judges s { s with prot := p } :=
  ⟨tame_setProt s p h, h⟩

theorem packFault_judges (code : FaultCode) (v : Reading) (w : Option Nat) (s : State) :
    Judges s (packFault code v w s) := ⟨(packFault_kept code v w s).toTame, by simp⟩

theorem judgeCellOv_judges (r : PackRecord) (s : State) : Judges s (judgeCellOv r s) :=
  .ite (fun _ => .ite (fun _ => judges_setProt s _ rfl) (fun _ => .refl s))
    (fun _ => .ite (fun _ => (judges_setProt s
        { s.prot with tOv := (qualify s.now s.prot.tOv (highestAbove r.cells 4250) 100).1,
                      active := { s.prot.active with cellOv := true } } rfl).trans (packFault_judges _ _ _ _))
      (fun _ => judges_setProt s _ rfl))

theorem judgeCellUv_judges (r : PackRecord) (s : State) : Judges s (judgeCellUv r s) := by
  have emptied : ∀ u : State, Judges u { u with pack := u.pack.calibrate 0 } := fun u =>
    ⟨(guarded_setPack u (u.pack.calibrate 0) (fun _ => Nat.zero_le _) rfl rfl).toTame, rfl⟩
  refine .ite (fun _ => .ite (fun _ => judges_setProt s _ rfl) (fun _ => .refl s))
    (fun _ => .ite (fun _ => ?_) (fun _ => judges_setProt s _ rfl))
  exact ((judges_setProt s { s.prot with
    tUv := (qualify s.now s.prot.tUv (lowestBelow r.cells 2900) 500).1,
    active := { s.prot.active with cellUv := true } } rfl).trans (emptied _)).trans (packFault_judges _ _ _ _)

theorem judgeDsgOt_judges (r : PackRecord) (s : State) : Judges s (judgeDsgOt r s) :=
  .ite (fun _ => .ite (fun _ => judges_setProt s _ rfl) (fun _ => .refl s))
    (fun _ => .ite (fun _ => (judges_setProt s
        { s.prot with tOt := (qualify s.now s.prot.tOt (r.tPack.ge 600) 1000).1,
                      active := { s.prot.active with dsgOt := true } } rfl).trans (packFault_judges _ _ _ _))
      (fun _ => judges_setProt s _ rfl))

theorem judgeRepeat_judges (r : PackRecord) (s : State) : Judges s (judgeRepeat r s) :=
  .ite (fun _ => (judges_setProt s { s.prot with
      lockedOut := true, lockout := { s.prot.lockout with ocRepeat := true } } rfl).trans (packFault_judges _ _ _ _))
    (fun _ => .refl s)

theorem assertDsgOc_judges (r : PackRecord) (s : State) : Judges s (assertDsgOc r s) :=
  ((judges_setProt s { s.prot with
      active := { s.prot.active with dsgOc := true },
      ocEvents := ocAppend s.prot.ocEvents r.scanTime, ocClear := some (s.after 5000) } rfl).trans
    (packFault_judges _ _ _ _)).trans (judgeRepeat_judges r _)

theorem judgeDsgOc_judges (r : PackRecord) (s : State) : Judges s (judgeDsgOc r s) :=
  .ite (fun _ => .refl s) (fun _ => .ite (fun _ => (judges_setProt s
      { s.prot with tOc := (qualify s.now s.prot.tOc (r.packI.lt (-40000)) 20).1 } rfl).trans (assertDsgOc_judges r _))
    (fun _ => judges_setProt s _ rfl))

theorem judgeChgOc_judges (r : PackRecord) (limit : Nat) (s : State) : Judges s (judgeChgOc r limit s) := by
  unfold judgeChgOc
  dsimp only
  generalize (qualify s.now s.prot.tChgCeiling _ _) = ceiling
  generalize (qualify s.now s.prot.tChgNeed _ _) = need
  refine .ite (fun _ => .refl s) (fun _ => .ite (fun _ => judges_setProt s _ rfl)
    (fun _ => .ite (fun _ => ?_) (fun _ => judges_setProt s _ rfl)))
  exact (judges_setProt s { s.prot with
    tChgCeiling := ceiling.1, tChgNeed := need.1, active := { s.prot.active with chgOc := true } } rfl).trans (packFault_judges _ _ _ _)

theorem judgeSense_judges (r : PackRecord) (s : State) : Judges s (judgeSense r s) := by
  unfold judgeSense
  split
  · exact judges_setProt s _ rfl
  · exact (judges_setProt s { s.prot with active := { s.prot.active with sense := true } } rfl).trans
      (packFault_judges _ _ _ _)
  · exact .refl s

theorem judgeOvSevere_judges (r : PackRecord) (s : State) : Judges s (judgeOvSevere r s) :=
  .ite (fun _ => (judges_setProt s { s.prot with
        tOvSevere := (qualify s.now s.prot.tOvSevere (highestAbove r.cells 4400) 100).1,
        lockedOut := true, lockout := { s.prot.lockout with ovSevere := true } } rfl).trans (packFault_judges _ _ _ _))
    (fun _ => judges_setProt s _ rfl)

theorem judgeUvSevere_judges (r : PackRecord) (s : State) : Judges s (judgeUvSevere r s) :=
  .ite (fun _ => (judges_setProt s { s.prot with
        tUvSevere := (qualify s.now s.prot.tUvSevere (lowestBelow r.cells 1500) 1000).1,
        lockedOut := true, lockout := { s.prot.lockout with uvSevere := true } } rfl).trans (packFault_judges _ _ _ _))
    (fun _ => judges_setProt s _ rfl)

theorem judgeCauses_judges (r : PackRecord) (limit : Nat) (s : State) : Judges s (judgeCauses r limit s) :=
  (((((((judgeCellOv_judges r s).trans (judgeCellUv_judges r _)).trans (judgeDsgOt_judges r _)).trans
    (judgeDsgOc_judges r _)).trans (judgeChgOc_judges r limit _)).trans (judgeSense_judges r _)).trans
    (judgeOvSevere_judges r _)).trans (judgeUvSevere_judges r _)

theorem protect_guarded (r : PackRecord) (limit : Nat) (before : Prot) (s : State)
    (hbefore : before.dischargeOk = s.prot.dischargeOk) : Guarded s (protect r limit before s) := by
  have judged := (judges_setProt s { s.prot with evaluated := true } rfl).trans (judgeCauses_judges r limit _)
  have evaluated := evaluateProtection_guarded before (judgeCauses r limit { s with prot := { s.prot with evaluated := true } })
    (hbefore.trans judged.permit.symm)
  exact ⟨judged.toTame.trans evaluated.toTame, fun _ => evaluateProtection_perms _ _⟩

/-! ### Balancing, FULL and the publication -/

theorem rebalance_guarded (r : PackRecord) (s : State) : Guarded s (rebalance r s) where
  charge hv h := ⟨h.1, h.2.1, h.2.2.1, fun hr hcells => absurd ⟨hr, hcells⟩ hv⟩
  balance _ := by
    unfold rebalance
    dsimp only [Safety.balanceAllowed]
    split
    · next hactive =>
      refine ⟨by rw [selectBalance, List.length_map]; exact List.length_take_le _ _, fun hdrives => ?_⟩
      simp [balancingActive, State.bridgeOff, hdrives] at hactive
    · exact ⟨Nat.zero_le _, fun _ => rfl⟩

theorem judgeFull_guarded (r : PackRecord) (need : Need) (s : State) : Guarded s (judgeFull r need s) := by
  unfold judgeFull
  dsimp only
  split
  · exact guarded_setPack s _ (fun h => h.1) rfl rfl
  · split
    · exact guarded_setPack s _ (fun _ => Nat.le_refl _) rfl rfl
    · exact guarded_setPack s _ (fun h => h.1) rfl rfl

theorem autoShip_kept (r : PackRecord) (s : State) : Kept s (autoShip r s) :=
  (appendFault_kept _ _ _ _ s).trans (shipDecision_kept _ _)

theorem judgeLowCells_kept (r : PackRecord) (s : State) : Kept s (judgeLowCells r s) := by
  have counted : Kept s { s with ctl := { s.ctl with lowCells := lowCellCount s r } } := {}
  exact .ite (fun _ => .ite (fun _ => counted.trans (autoShip_kept r _)) (fun _ => counted)) (fun _ => .refl s)

theorem takeRecord_prot (r : PackRecord) (s : State) : (takeRecord r s).prot = s.prot := by
  unfold takeRecord
  obtain ⟨g, h, -⟩ := recomputeAllowance_eq { s with pack :=
    { (s.pack.integrate r.packI s.sincePublication).rest r s.now with record := some r, scanning := false } }
  rw [h]

theorem publish_kept (scan : RawScan) (s : State) (hscan : s.pack.scanning = true) : Kept s (publish scan s) := by
  have published := ((((takeRecord_guarded (formRecord s scan) s).trans
    (protect_guarded (formRecord s scan) s.pack.need.limit s.prot _ (by rw [takeRecord_prot]))).trans
    (rebalance_guarded (formRecord s scan) _)).trans (judgeFull_guarded (formRecord s scan) s.pack.need _)).trans
    (recomputeNeed_kept _).guarded
  exact (published.kept hscan).trans (judgeLowCells_kept (formRecord s scan) _)

/-- The scan timer runs with a valid CELLS strap alone (R67). -/
theorem scanExpired_kept (s : State) (htimer : s.pack.scanTimer.isSome = true) : Kept s (scanExpired s) := by
  have strapped : ¬ s.strapValid → ¬ Safety.chargeBounded s := fun hv hc => by
    simp only [State.strapValid, Classical.not_not] at hv
    obtain ⟨-, -, -, hnone, -⟩ := chargeBounded_strapped hc hv.1 hv.2
    rw [hnone] at htimer
    cases htimer
  have started : ∀ p : Pack, p.q = s.pack.q → p.capacity = s.pack.capacity → p.balance = s.pack.balance →
      Kept s { s with pack := p } := fun p hq hc hb =>
    { (guarded_setPack s p (fun h => by simpa only [hq, hc] using h.1) hc hb) with
      strapped := fun hv hcb => absurd hcb (strapped hv) }
  exact .ite (fun _ => started _ rfl rfl rfl) (fun _ => started _ rfl rfl rfl)

end Sys2Proof.Machine

/-! What the calibration store, the attachment identifier and the debris sensor keep (chapters 4, 5 and 10). -/

namespace Sys2Proof.Machine

open Sys2Proof

/-! ### The calibration store (chapter 10) -/

theorem kept_setStore (s : State) (st : Store) (h : memWf s.store.mem = true → memWf st.mem = true) :
    Kept s { s with store := st } where
  store := h

theorem endOp_kept (op : StoreOp) (r : DoneResult) (s : State) : Kept s (endOp op r s) :=
  (kept_setStore s { s.store with op := none } id).trans (handReport_kept _ _)

theorem storeFault_kept (code : FaultCode) (tag seg : Nat) (s : State) : Kept s (storeFault code tag seg s) :=
  appendFault_kept _ _ _ _ s

theorem failOp_kept (op : StoreOp) (code : FaultCode) (seg : Nat) (s : State) : Kept s (failOp op code seg s) :=
  (storeFault_kept _ _ _ s).trans (endOp_kept _ _ _)

theorem beginOp_kept (op : StoreOp) (s : State) : Kept s (beginOp op s) := kept_setStore s _ id

theorem zeroHeader_kept (seg : Nat) (s : State) : Kept s (zeroHeader seg s) :=
  kept_setStore s _ (writeHeader_wf _ _ _)

theorem startCompaction_kept (target gen origin tag : Nat) (value : List Byte) (s : State) :
    Kept s (startCompaction target gen origin tag value s) :=
  (zeroHeader_kept _ s).trans (beginOp_kept _ _)

theorem startUserWrite_kept (origin tag : Nat) (value : List Byte) (s : State) :
    Kept s (startUserWrite origin tag value s) := by
  unfold startUserWrite
  split
  · exact startCompaction_kept _ _ _ _ _ s
  · exact .ite (fun _ => beginOp_kept _ s)
      (fun _ => .ite (fun _ => failOp_kept _ _ _ s) (fun _ => startCompaction_kept _ _ _ _ _ s))

theorem startFactoryWrite_kept (origin tag : Nat) (value : List Byte) (s : State) :
    Kept s (startFactoryWrite origin tag value s) :=
  .ite (fun _ => beginOp_kept _ s) (fun _ => failOp_kept _ _ _ s)

theorem startErase_kept (origin seg : Nat) (s : State) : Kept s (startErase origin seg s) :=
  (zeroHeader_kept _ s).trans (beginOp_kept _ _)

theorem keepWrite_kept (keep origin tag : Nat) (value : List Byte) (s : State) :
    Kept s (keepWrite keep origin tag value s) :=
  .ite (fun _ => startUserWrite_kept _ _ _ s) (fun _ => .refl s)

theorem Store.appendBytes_wf {st : Store} (seg : Nat) (bytes : List Byte) (h : memWf st.mem = true) :
    memWf (st.appendBytes seg bytes).mem = true := by
  unfold Store.appendBytes
  split
  · exact segWrite_wf _ _ _ _ h
  · exact h

theorem Store.clear_wf {st : Store} (seg : Nat) (h : memWf st.mem = true) : memWf (st.clear seg).mem = true :=
  segClear_wf _ _ h

theorem Store.clears_wf (segs : List Nat) {st : Store} (h : memWf st.mem = true) :
    memWf (segs.foldl Store.clear st).mem = true := by
  induction segs generalizing st with
  | nil => exact h
  | cons seg segs ih => exact ih (Store.clear_wf seg h)

theorem Store.scramble_wf {st : Store} (k seg : Nat) (h : memWf st.mem = true) : memWf (st.scramble k seg).mem = true := by
  unfold Store.scramble
  generalize freeBytes k segSize = bytes
  exact segWrite_wf _ _ _ _ h

theorem Store.lockIf_mem (st : Store) (seg tag : Nat) : (st.lockIf seg tag).mem = st.mem := by
  unfold Store.lockIf
  split <;> rfl

theorem compactionDamage_wf (op : StoreOp) (bad k : Nat) {st : Store} (h : memWf st.mem = true) :
    memWf (compactionDamage op bad k st).mem = true := by
  unfold compactionDamage
  split
  · exact Store.scramble_wf _ _ h
  · exact Store.appendBytes_wf _ _ h
  · exact Store.appendBytes_wf _ _ h
  · exact segWrite_wf _ _ _ _ h
  · exact Store.scramble_wf _ _ (Store.clears_wf _ h)

/-- A store damaged by a failed read-back, with the counter of free values moved on. -/
theorem kept_damagedStore (s : State) (st : Store) (h : memWf s.store.mem = true → memWf st.mem = true) :
    Kept s (nextFree { s with store := st }) :=
  (kept_setStore s st h).trans (kept_nextFree _)

theorem completeWrite_kept (op : StoreOp) (matched : Bool) (s : State) : Kept s (completeWrite op matched s) := by
  have written := kept_setStore s ((s.store.appendBytes op.segment (recordBytes op.tag op.value)).lockIf op.segment op.tag)
    (fun h => by rw [Store.lockIf_mem]; exact Store.appendBytes_wf _ _ h)
  exact .ite (fun _ => written.trans (endOp_kept _ _ _))
    (fun _ => (kept_damagedStore s _ (Store.appendBytes_wf _ _)).trans (failOp_kept _ _ _ _))

theorem completeErase_kept (op : StoreOp) (matched : Bool) (s : State) : Kept s (completeErase op matched s) :=
  .ite (fun _ => (kept_setStore s (s.store.clear op.segment) (Store.clear_wf _)).trans (endOp_kept _ _ _))
    (fun _ => (kept_damagedStore s _ (Store.scramble_wf _ _)).trans (failOp_kept _ _ _ _))

theorem nextStep_kept (op : StoreOp) (s : State) : Kept s (nextStep op s) := beginOp_kept _ s

theorem compactionStepOk_kept (op : StoreOp) (s : State) : Kept s (compactionStepOk op s) := by
  unfold compactionStepOk
  split
  · exact (kept_setStore s (s.store.clear op.segment) (Store.clear_wf _)).trans (nextStep_kept _ _)
  · exact (kept_setStore s (s.store.appendBytes op.segment (copiesOf s.store)) (Store.appendBytes_wf _ _)).trans
      (nextStep_kept _ _)
  · exact (kept_setStore s (s.store.appendBytes op.segment (recordBytes op.tag op.value)) (Store.appendBytes_wf _ _)).trans
      (nextStep_kept _ _)
  · exact (kept_setStore s (s.store.setMem (writeHeader s.store.mem op.segment op.generation)) (writeHeader_wf _ _ _)).trans
      (nextStep_kept _ _)
  · exact (kept_setStore s ((otherSegments op.segment).foldl Store.clear s.store) (Store.clears_wf _)).trans
      (endOp_kept _ _ _)

theorem compactionStepBad_kept (op : StoreOp) (seg : Nat) (s : State) : Kept s (compactionStepBad op seg s) :=
  (kept_damagedStore s _ (compactionDamage_wf _ _ _)).trans (failOp_kept _ _ _ _)

theorem withOp_kept {f : StoreOp → State → State} (h : ∀ op s, Kept s (f op s)) (s : State) : Kept s (withOp f s) := by
  unfold withOp
  split
  · exact h _ s
  · exact .refl s

/-! ### The attachment identifier (chapter 5) -/

theorem clearJams_kept (s : State) : Kept s (clearJams s) := kept_setRoll s _ id

theorem attachmentChange_kept (result : MatchResult) (v : Reading) (c : AttCause) (s : State) :
    Kept s (attachmentChange result v c s) := by
  have changed := kept_setAtt s { s.att with result := result, voltage := v, candidate := none, count := 0 }
  exact (((changed.trans (handReport_kept _ _)).trans (rollRelease_kept _ _)).trans (clearJams_kept _)).trans
    (rollEvaluate_kept _)

theorem candidateCounted_kept (result : MatchResult) (n : Nat) (r : Reading) (s : State) :
    Kept s (candidateCounted result n r s) :=
  .ite (fun _ => attachmentChange_kept _ _ _ s) (fun _ => kept_setAtt s _)

theorem judgeSample_kept (result : MatchResult) (r : Reading) (s : State) : Kept s (judgeSample result r s) :=
  .ite (fun _ => kept_setAtt s _)
    (fun _ => .ite (fun _ => candidateCounted_kept _ _ _ s) (fun _ => candidateCounted_kept _ _ _ s))

theorem idSampled_kept (r : Reading) (s : State) : Kept s (idSampled r s) :=
  (kept_setAtt s { s.att with latest := r, sampleTimer := some (s.after 50) }).trans (judgeSample_kept _ _ _)

theorem reMatch_kept (s : State) : Kept s (reMatch s) := by
  have cleared := kept_setAtt s { s.att with candidate := none, count := 0 }
  exact .ite (fun _ => cleared)
    (fun _ => .ite (fun _ => cleared) (fun _ => cleared.trans (attachmentChange_kept _ _ _ _)))

theorem writeEntry_kept (i : Nat) (e : AttEntry) (s : State) : Kept s (writeEntry i e s) := by
  have matched := (kept_setAtt s { s.att with entries := s.att.entries.set i e }).trans (reMatch_kept _)
  exact .ite (fun _ => matched) (fun _ => matched.trans (rollEvaluate_kept _))

/-! ### The dirt reading (sections 4.2 to 4.4) -/

theorem deriveRequest_kept (s : State) : Kept s (deriveRequest s) := kept_setStick s _ id

theorem Debris.setLoad_bounded {d : Debris} (b : Nat) (hs : d.s ≤ 1023) (hd : ∀ i ∈ d.d, i ≤ 255) (hb : b ≤ 1000000) :
    (d.setLoad b).Bounded := ⟨hs, hd, hb, rfl⟩

theorem rawReading_le (n a : Option Nat) (ga go : Nat) : ∀ r ∈ rawReading n a ga go, r ≤ 255 := by
  intro r hr
  unfold rawReading at hr
  split at hr <;> cases hr
  all_goals exact Nat.min_le_left _ _

theorem filterStep_le {f r : Nat} (hf : f ≤ 1023) (hr : r ≤ 255) : filterStep f r ≤ 1023 := by
  unfold filterStep
  omega

theorem Debris.index_bounded {d : Debris} {r : Option Nat} (h : d.Bounded) (hr : ∀ x ∈ r, x ≤ 255) :
    (d.index r).Bounded := by
  obtain ⟨hs, -, hb, hfull⟩ := h
  unfold Debris.index
  split
  · next x =>
    have hf := filterStep_le hs (hr x rfl)
    refine ⟨hf, fun i hi => ?_, hb, hfull⟩
    cases hi
    omega
  · exact ⟨hs, (by simp), hb, hfull⟩

theorem Debris.drift_bounded {d : Debris} (diff : Nat) (h : d.Bounded) : (d.drift diff).Bounded := by
  unfold Debris.drift
  split
  · exact h
  · exact h

theorem Debris.collect_bounded {d : Debris} (r : Option Nat) (h : d.Bounded) : (d.collect r).Bounded := by
  unfold Debris.collect
  split
  · exact Debris.setLoad_bounded _ h.1 h.2.1 (Nat.min_le_left _ _)
  · exact h

theorem checkDirty_kept (diff : Nat) (s : State) : Kept s (checkDirty diff s) :=
  .ite (fun _ => (kept_setDebris s { s.debris with dirtyLogged := true } id).trans (appendFault_kept _ _ _ _ _))
    (fun _ => .refl s)

theorem dirtWindow_kept (c diff : Nat) (s : State) : Kept s (dirtWindow c diff s) := by
  unfold dirtWindow
  dsimp only
  refine (Kept.trans ?_ (deriveRequest_kept _)).trans (reportDirt_kept _ _)
  have indexed := kept_setDebris s
    (({ s.debris with last := windowFigures s.debris s.drive.speed c diff }.index
      (windowFigures s.debris s.drive.speed c diff).r).drift diff)
    (fun h => Debris.drift_bounded diff (Debris.index_bounded
      (d := { s.debris with last := windowFigures s.debris s.drive.speed c diff }) h (rawReading_le _ _ _ _)))
  exact (indexed.trans (checkDirty_kept diff _)).trans (kept_setDebris _ _ (Debris.collect_bounded _))

theorem emptyBin_kept (s : State) : Kept s (emptyBin s) :=
  ((kept_setDebris s (s.debris.setLoad 0) (fun h => Debris.setLoad_bounded 0 h.1 h.2.1 (Nat.zero_le _))).trans
    (deriveRequest_kept _)).trans (reportDirt_kept _ _)

theorem applyDirtLevels_kept (l : DirtLevels) (s : State) : Kept s (applyDirtLevels l s) :=
  (kept_setDebris s ({ s.debris with levels := l }.setLoad s.debris.b)
    (fun h => Debris.setLoad_bounded (d := { s.debris with levels := l }) _ h.1 h.2.1 h.2.2.1)).trans (reportDirt_kept _ _)

theorem piezoPulse_kept (s : State) : Kept s { s with debris := { s.debris with c := min 65535 (s.debris.c + 1) } } :=
  kept_setDebris s _ id

/-! ### The floor calibration (section 4.5) -/

theorem setCalibration_kept (k : FloorCal) (s : State) : Kept s (setCalibration k s) := kept_setDebris s _ id

theorem writeFloors_kept (s : State) : Kept s (writeFloors s) :=
  .ite (fun _ => handReport_kept _ s) (fun _ => startUserWrite_kept _ _ _ s)

theorem calibrationSucceeded_kept (k : FloorCal) (s : State) : Kept s (calibrationSucceeded k s) := by
  have committed := (kept_setDebris s (s.debris.commit k) id).trans (kept_setGov _ { s.gov with pHold := none } rfl rfl)
  exact ((committed.trans (driveStop_kept _)).trans (writeFloors_kept _)).trans (reportMove_kept _ _ _)

theorem countWindow_kept (c diff : Nat) (k : FloorCal) (s : State) : Kept s (countWindow c diff k s) :=
  .ite (fun _ => .ite (fun _ => setCalibration_kept _ s)
      (fun _ => .ite (fun _ => calibrationSucceeded_kept _ s) (fun _ => setCalibration_kept _ s)))
    (fun _ => setCalibration_kept _ s)

theorem calibrationWindow_kept (c diff : Nat) (k : FloorCal) (s : State) : Kept s (calibrationWindow c diff k s) := by
  unfold calibrationWindow
  split
  · exact .refl s
  · exact setCalibration_kept _ s
  · exact countWindow_kept _ _ _ s

theorem windowEnds_kept (ledOff ledOn : Nat) (s : State) : Kept s (windowEnds ledOff ledOn s) := by
  have taken := kept_setDebris s
    { s.debris with c := 0, windowTimer := if s.drive.state = .run then some (s.after 50) else none } id
  unfold windowEnds
  dsimp only
  split
  · exact taken.trans (calibrationWindow_kept _ _ _ _)
  all_goals exact taken.trans (dirtWindow_kept _ _ _)

theorem keepWindow_kept (before after : State) : Kept after (keepWindow before after) := by
  refine .ite (fun _ => ?_) (fun _ => .refl after)
  exact (kept_setDebris after
    { after.debris.calibrationLeft with c := before.debris.c, windowTimer := some before.now }
    (fun h => ⟨Nat.zero_le _, by simp [Debris.calibrationLeft], h.2.2⟩)).trans (reportDirt_kept _ _)

theorem bandExpired_kept (s : State) : Kept s (bandExpired s) :=
  (((endCalibration_kept _ s).trans (driveStop_kept _)).trans (keepWindow_kept s _)).trans (reportMove_kept _ _ _)

theorem startCalibration_kept (s : State) (hallowed : s.motorAllowed) : Kept s (startCalibration s) :=
  ((setCalibration_kept newCalibration s).trans (startRequest_kept .calibration _ hallowed)).trans (reportStart_kept _ _)

end Sys2Proof.Machine

/-! What the contact link, the sessions of stick and dock, the charger stage and the evacuation run keep (chapters 6, 7). -/

namespace Sys2Proof.Machine

open Sys2Proof

/-! ### The charger stage (R144 to R148) -/

/-- The setpoint lies within the need limit, is 0 while the stage does not switch, and the stage switches only in a session
that charges (`Safety.chargerBounded`). -/
def Charger.Bounded (c : Charger) (charges : Bool) : Prop :=
  c.setpoint ≤ c.needLimit ∧ (c.state.switches = false → c.setpoint = 0) ∧ (c.state.switches = true → charges = true)

theorem kept_setSession (s : State) (d : Dock) (c : Charger)
    (h : s.charger.Bounded s.dock.state.charges → c.Bounded d.state.charges) :
    Kept s { s with dock := d, charger := c } where
  charger := h

/-- The charger replaced with the session as it is. -/
theorem kept_setStage (s : State) (c : Charger)
    (h : s.charger.Bounded s.dock.state.charges → c.Bounded s.dock.state.charges) : Kept s { s with charger := c } where
  charger := h

theorem Charger.enterOff_bounded (c : Charger) (now : Ms) (b : Bool) : (c.enterOff now).Bounded b :=
  ⟨Nat.zero_le _, fun _ => rfl, fun h => by cases h⟩

/-- After an OFF command the stage does not switch, whatever the session. -/
theorem Charger.stop_bounded {c : Charger} {a : Bool} (h : c.Bounded a) (now : Ms) (b : Bool) :
    (c.stop now).Bounded b := by
  have kept : c.state.switches = false → c.Bounded b := fun hoff =>
    ⟨h.1, h.2.1, fun hon => by rw [hoff] at hon; cases hon⟩
  unfold Charger.stop
  split
  case h_1 hst => exact kept (by rw [hst]; rfl)
  case h_2 | h_3 | h_4 => exact Charger.enterOff_bounded c now b
  case h_5 hst =>
    split
    · exact kept (by rw [hst]; rfl)
    · exact Charger.enterOff_bounded c now b

theorem Charger.vacate_bounded {c : Charger} {a : Bool} (h : c.Bounded a) (now : Ms) (b : Bool) :
    (c.vacate now).Bounded b :=
  Charger.stop_bounded (c := { c with latched := false, faultCount := 0 }) (a := a) h now b

theorem Charger.take_bounded {c : Charger} {b : Bool} (h : c.Bounded b) (n : Need) : (c.take n).Bounded b :=
  ⟨Nat.min_le_right _ _, fun hoff => (by simp [Charger.take, h.2.1 hoff]), h.2.2⟩

theorem Charger.enterSoftstart_bounded (c : Charger) (now : Ms) : (c.enterSoftstart now).Bounded true :=
  ⟨Nat.zero_le _, fun _ => rfl, fun _ => rfl⟩

theorem Charger.run_bounded {c : Charger} (h : c.Bounded true) (n : Need) (now : Ms) : (c.run n now).Bounded true := by
  unfold Charger.run
  split
  case h_1 => exact Charger.enterSoftstart_bounded _ _
  case h_2 | h_3 | h_4 => exact Charger.take_bounded h n
  case h_5 =>
    split
    · exact Charger.take_bounded h n
    · exact Charger.take_bounded h n

theorem Charger.enterFault_bounded (c : Charger) (cause : ChargerFault) (now due : Ms) (b : Bool) :
    (c.enterFault cause now due).Bounded b := by
  unfold Charger.enterFault
  split
  all_goals exact ⟨Nat.zero_le _, fun _ => rfl, fun h => by cases h⟩

theorem Charger.regulate_bounded {c : Charger} {b : Bool} (h : c.Bounded b) (cap t : Nat) (now : Ms) :
    (c.regulate cap t now).Bounded b := by
  have hfull : min c.needLimit cap ≤ c.needLimit := Nat.min_le_left _ _
  unfold Charger.regulate
  dsimp only
  split
  case h_1 hst =>
    have hb : b = true := h.2.2 (by rw [hst]; rfl)
    split
    · next ht =>
      have hramp : min c.needLimit cap * t / 200 ≤ min c.needLimit cap :=
        Nat.div_le_of_le_mul (by rw [Nat.mul_comm]; exact Nat.mul_le_mul_right _ (Nat.le_of_lt ht))
      exact ⟨Nat.le_trans hramp hfull, fun hoff => (by simp [hst, ChargerState.switches] at hoff), fun _ => hb⟩
    · exact ⟨hfull, fun hoff => (by cases hoff), fun _ => hb⟩
  case h_2 hst =>
    have hb : b = true := h.2.2 (by rw [hst]; rfl)
    split
    · exact ⟨hfull, fun hoff => (by cases hoff), fun _ => hb⟩
    · exact ⟨hfull, fun hoff => (by simp [hst, ChargerState.switches] at hoff), fun _ => hb⟩
  case h_3 hst =>
    have hb : b = true := h.2.2 (by rw [hst]; rfl)
    split
    · exact ⟨hfull, fun hoff => (by cases hoff), fun _ => hb⟩
    · exact ⟨hfull, fun hoff => (by simp [hst, ChargerState.switches] at hoff), fun _ => hb⟩
  case h_4 => exact h
  case h_5 => exact h

theorem chargerFault_kept (cause : ChargerFault) (s : State) : Kept s (chargerFault cause s) :=
  (kept_setStage s _ (fun _ => Charger.enterFault_bounded _ _ _ _ _)).trans (appendFault_kept _ _ _ _ _)

theorem evaluateFaults_kept (s : State) : Kept s (evaluateFaults s) := by
  unfold evaluateFaults
  dsimp only
  generalize (holdTimer s.now s.charger.ovpTimer _ _) = ovp
  generalize (holdTimer s.now s.charger.ocpTimer _ _) = ocp
  have timed := kept_setCharger s { s.charger with ovpTimer := ovp.1, ocpTimer := ocp.1 } rfl rfl rfl
  refine .ite (fun _ => ?_) (fun _ => .refl s)
  split
  · exact timed.trans (chargerFault_kept _ _)
  · exact timed

theorem recordReadings_kept (r : ChargerReadings) (s : State) :
    Kept s { s with charger := recordReadings r s.charger } := kept_setCharger s _ rfl rfl rfl

theorem chargerPeriod_kept (means : ChargerReadings) (s : State) : Kept s (chargerPeriod means s) := by
  unfold chargerPeriod
  dsimp only
  refine ((recordReadings_kept means s).trans (evaluateFaults_kept _)).trans ?_
  generalize evaluateFaults { s with charger := recordReadings means s.charger } = t
  exact kept_setStage t _ (fun h => Charger.regulate_bounded h _ _ _)

theorem restart_kept (s : State) : Kept s (restart s) := by
  refine .ite (fun hcharges => ?_) (fun _ => kept_setStage s _ (fun _ => Charger.enterOff_bounded _ _ _))
  simp only [Bool.and_eq_true] at hcharges
  exact kept_setStage s _ (fun _ => by rw [hcharges.1]; exact Charger.enterSoftstart_bounded _ _)

/-! ### Evacuation runs (R149 to R152) -/

theorem Dock.runStarts_charges (d : Dock) (kind : RunKind) (now : Ms) (h : d.state.charges = true) :
    (d.runStarts kind now).state.charges = true := by
  unfold Dock.runStarts
  dsimp only
  split <;> first | rfl | exact h

/-- In DOCK role the motor needs no discharge permission. -/
theorem motorAllowed_of_dock {s : State} (h : s.ctl.role = .dock) : s.motorAllowed := by
  intro hr
  rw [h] at hr
  cases hr

theorem startRun_kept (kind : RunKind) (s : State) (hdock : s.ctl.role = .dock) : Kept s (startRun kind s) := by
  have begun := (kept_setEvac s { s.evac with phase := .spinning, kind := some kind, startTime := some s.now }).trans
    (kept_setDock _ (s.dock.runStarts kind s.now) (fun _ => Dock.runStarts_charges _ _ _))
  exact (begun.trans (startRequest_kept .evacuation _ (motorAllowed_of_dock hdock))).trans (reportStart_kept _ _)

theorem spellOver_kept (s : State) : Kept s (spellOver s) :=
  (((endRun_kept .done s).trans (kept_setEvac _ { (endRun .done s).evac with endMisses := s.drive.missesInRun })).trans
    (reportMove_kept _ _ _)).trans (reportDock_kept _ _ _)

/-! ### The contact link (section 6.1) -/

theorem endFrame_kept (s : State) : Kept s (endFrame s) := kept_setContact s _

theorem collectByte_kept (b : Byte) (s : State) : Kept s (collectByte b s) := by
  refine .ite (fun _ => .refl s) (fun _ => ?_)
  split
  · exact kept_setContact s _
  · exact .ite (fun _ => kept_setContact s _) (fun _ => .refl s)

theorem formReply_kept (kind : Byte) (p : List Byte) (s : State) : Kept s (formReply kind p s) := kept_setContact s _

theorem sendContact_kept (kind : DockFrame) (s : State) : Kept s (sendContact kind s) :=
  .ite (fun _ => kept_setContact s _) (fun _ => kept_setContact s _)

theorem sendHeld_kept (s : State) : Kept s (sendHeld s) := by
  unfold sendHeld
  split
  · exact .refl s
  · have dropped := kept_setContact s { s.contact with held := none }
    exact .ite (fun _ => dropped.trans (sendContact_kept _ _)) (fun _ => dropped)

theorem closeWindow_kept (s : State) : Kept s (closeWindow s) := kept_setDock s _ (fun _ => id)

theorem frameSent_kept (s : State) : Kept s (frameSent s) :=
  (kept_setContact s { s.contact with tx := none, txKind := none }).trans (kept_setDock _ _ (fun _ => id))

/-! ### The stick session (sections 6.2, 6.3) -/

theorem reportStick_kept (c : StickCause) (s : State) : Kept s (reportStick c s) := handReport_kept _ s

/-- The mode forced to OFF with the stick's session changed: the motor has stopped, so the session may be any. -/
theorem forceOffWith_kept (c : DriveCause) (s : State) (k : Stick) : Kept s (forceOff c { s with stick := k }) :=
  have h := forceOff_kept c { s with stick := k }
  { h with motor := fun hm => (forceOff_rests c { s with stick := k } hm.1 hm.2.2).motorPermitted }

theorem enterDocked_kept (s : State) : Kept s (enterDocked s) :=
  ((forceOffWith_kept .docked s { s.stick with state := .docked, presentTimer := none, enteredAt := s.now }).trans
    (enterActive_kept _ _)).trans (reportStick_kept _ _)

theorem enterDetached_kept (s : State) : Kept s (enterDetached s) := by
  have left := kept_setStick s
    { s.stick with state := .detached, silence := none, absentTimer := none, enteredAt := s.now } (fun _ => rfl)
  refine ((left.trans (releaseChgOc_kept _)).trans ?_).trans (reportStick_kept _ _)
  exact kept_setStick _ _ id

theorem sampleDetached_kept (mV : Nat) (s : State) : Kept s (sampleDetached mV s) := by
  have timed := kept_setStick s
    { s.stick with presentTimer := (qualify s.now s.stick.presentTimer (decide (9000 < mV)) 50).1 } id
  exact .ite (fun _ => timed.trans (enterDocked_kept _)) (fun _ => timed)

theorem sampleAttached_kept (mV : Nat) (s : State) : Kept s (sampleAttached mV s) := by
  have timed := kept_setStick s
    { s.stick with absentTimer := (qualify s.now s.stick.absentTimer (decide (mV < 3000)) 200).1 } id
  exact .ite (fun _ => timed.trans (enterDetached_kept _)) (fun _ => timed)

theorem voltageSampled_kept (mV : Nat) (s : State) : Kept s (voltageSampled mV s) := by
  have sampled := kept_setStick s { s.stick with contactV := some mV } id
  unfold voltageSampled
  dsimp only
  split
  · exact sampled.trans (sampleDetached_kept _ _)
  · exact sampled.trans (sampleAttached_kept _ _)
  · exact sampled.trans (sampleAttached_kept _ _)

theorem backToDocked_kept (s : State) (hst : s.stick.state = .charging) : Kept s (backToDocked s) :=
  kept_setStick s _ (fun h => by rw [hst] at h; cases h)

theorem silenceOver_kept (s : State) (hst : s.stick.state = .charging) :
    Kept s (reportStick .silence (backToDocked s)) := (backToDocked_kept s hst).trans (reportStick_kept _ _)

theorem answerHail_kept (m : HailMsg) (s : State) : Kept s (answerHail m s) := by
  unfold answerHail
  dsimp only
  by_cases hst : s.stick.state = .charging
  · rw [if_pos hst, if_pos hst]
    have bound := (backToDocked_kept s hst).trans (kept_setStick _
      { (backToDocked s).stick with binding := some ((StickBinding.orNew s.stick.binding).hail m) } id)
    exact ((bound.trans (deriveRequest_kept _)).trans (formReply_kept _ _ _)).trans (reportStick_kept _ _)
  · rw [if_neg hst, if_neg hst]
    have bound := kept_setStick s
      { s.stick with binding := some ((StickBinding.orNew s.stick.binding).hail m) } id
    exact (bound.trans (deriveRequest_kept _)).trans (formReply_kept _ _ _)

theorem takeHail_kept (m : HailMsg) (s : State) : Kept s (takeHail m s) :=
  .ite (fun _ => answerHail_kept m s) (fun _ => .refl s)

theorem enterCharging_kept (s : State) (hst : s.stick.state = .docked) : Kept s (enterCharging s) :=
  (kept_setStick s { s.stick with state := .charging, silence := some (s.after 2000), enteredAt := s.now }
    (fun h => by rw [hst] at h; cases h)).trans (enterActive_kept _ _)

theorem pollSession_kept (c : ChargerState) (s : State) : Kept s (pollSession c s) := by
  unfold pollSession
  split
  case h_1 hst => exact .ite (fun _ => enterCharging_kept s hst) (fun _ => .refl s)
  case h_2 hst => exact .ite (fun _ => kept_setStick s _ id) (fun _ => backToDocked_kept s hst)
  case h_3 => exact .refl s

theorem seeDone_kept (m : PollMsg) (seen : Bool) (s : State) : Kept s (seeDone m seen s) :=
  .ite (fun _ => emptyBin_kept s) (fun _ => .refl s)

theorem reportPoll_kept (before s : State) : Kept s (reportPoll before s) :=
  .ite (fun _ => reportStick_kept _ s) (fun _ => .ite (fun _ => reportStick_kept _ s) (fun _ => .refl s))

theorem takePoll_kept (m : PollMsg) (s : State) : Kept s (takePoll m s) := by
  have bound := kept_setStick s
    { s.stick with binding := some ((StickBinding.orNew s.stick.binding).poll m) } id
  exact ((((bound.trans (seeDone_kept m _ _)).trans (pollSession_kept _ _)).trans (deriveRequest_kept _)).trans
    (formReply_kept _ _ _)).trans (reportPoll_kept _ _)

theorem hailCompleted_kept (b : Byte) (s : State) : Kept s (hailCompleted b s) := by
  unfold hailCompleted
  split
  · exact (endFrame_kept s).trans (takeHail_kept _ _)
  · exact .refl s

theorem pollCompleted_kept (b : Byte) (s : State) : Kept s (pollCompleted b s) := by
  unfold pollCompleted
  split
  · exact (endFrame_kept s).trans (takePoll_kept _ _)
  · exact .refl s

/-! ### The dock session (section 6.4) -/

/-- The charger commanded OFF at a session change. -/
theorem offInSession_kept (state : DockState) (s : State) : Kept s (chargerOff (sessionTo state s)) :=
  kept_setSession s { s.dock with state := state, enteredAt := s.now } (s.charger.stop s.now)
    (fun h => Charger.stop_bounded h _ _)

theorem chargerOff_kept (s : State) : Kept s (chargerOff s) :=
  kept_setStage s _ (fun h => Charger.stop_bounded h _ _)

/-- A session that charges may be entered from any other. -/
theorem sessionTo_kept (state : DockState) (s : State) (h : state.charges = true) : Kept s (sessionTo state s) :=
  kept_setDock s _ (fun _ _ => h)

theorem chargerRun_kept (n : Need) (s : State) (h : s.dock.state.charges = true) : Kept s (chargerRun n s) :=
  kept_setStage s _ (fun hc => by rw [h] at hc ⊢; exact Charger.run_bounded hc _ _)

theorem enterHailing_kept (s : State) : Kept s (enterHailing s) := by
  have hailing := (offInSession_kept .hailing s).trans (kept_setDock _
    { (chargerOff (sessionTo .hailing s)).dock with hailCount := 0, noAnswerLogged := false, hailPeriod := 250,
                                                     presentTimer := none, hailTimer := some (s.after 250) }
    (fun _ => id))
  exact (hailing.trans (enterActive_kept _ _)).trans (sendContact_kept _ _)

theorem failRun_kept (s : State) : Kept s (failRun s) := (endRun_kept _ s).trans (reportMove_kept _ _ _)

theorem enterVacant_kept (s : State) : Kept s (enterVacant s) := by
  have vacated := kept_setSession s { s.dock with state := .vacant, enteredAt := s.now } (s.charger.vacate s.now)
    (fun h => Charger.vacate_bounded h _ _)
  refine ((vacated.trans (failRun_kept _)).trans ?_).trans (reportDock_kept _ _ _)
  exact { charger := id }

theorem enterHold_kept (s : State) : Kept s (enterHold s) :=
  (((offInSession_kept .hold s).trans (failRun_kept _)).trans (appendFault_kept _ _ _ _ _)).trans (reportDock_kept _ _ _)

theorem dropBinding_kept (s : State) : Kept s (dropBinding s) :=
  ((kept_setDock s { s.dock with binding := none, report := .idle, pollTimer := none } (fun _ => id)).trans
    (enterHailing_kept _)).trans (reportDock_kept _ _ _)

theorem sampleVacant_kept (mA : Nat) (s : State) : Kept s (sampleVacant mA s) := by
  have timed := kept_setDock s
    { s.dock with presentTimer := (qualify s.now s.dock.presentTimer (decide (1 ≤ mA)) 100).1 } (fun _ => id)
  exact .ite (fun _ => (timed.trans (enterHailing_kept _)).trans (reportDock_kept _ _ _)) (fun _ => timed)

theorem samplePresent_kept (mA : Nat) (s : State) : Kept s (samplePresent mA s) := by
  have timed := kept_setDock s
    { s.dock with absentTimer := (qualify s.now s.dock.absentTimer (decide (mA < 1)) 100).1 } (fun _ => id)
  exact .ite (fun _ => timed.trans (enterVacant_kept _)) (fun _ => timed)

theorem currentSampled_kept (mA : Nat) (s : State) : Kept s (currentSampled mA s) := by
  have sampled := kept_setDock s { s.dock with contactI := some mA } (fun _ => id)
  exact .ite (fun _ => sampled.trans (sampleVacant_kept _ _)) (fun _ => sampled.trans (samplePresent_kept _ _))

theorem sendHail_kept (s : State) :
    Kept s (sendContact .hail { s with dock := { s.dock with hailTimer := some (s.after s.dock.hailPeriod) } }) :=
  (kept_setDock s { s.dock with hailTimer := some (s.after s.dock.hailPeriod) } (fun _ => id)).trans (sendContact_kept _ _)

theorem sendPoll_kept (s : State) :
    Kept s (sendContact .poll { s with dock := { s.dock with pollTimer := some (s.after 500) } }) :=
  (kept_setDock s { s.dock with pollTimer := some (s.after 500) } (fun _ => id)).trans (sendContact_kept _ _)

theorem bindStick_kept (m : AnswerMsg) (s : State) : Kept s (bindStick m s) := by
  unfold bindStick
  dsimp only
  have bound := kept_setSession s
    { s.dock with binding := some (newBinding m s.now),
                  report := if decide (s.evac.phase ≠ .none) = true then .running else .idle, hailTimer := none,
                  pollTimer := some (s.after 500) } { s.charger with faultCount := 0 } id
  have entered := Kept.ite (c := decide (s.evac.phase ≠ .none) = true)
    (fun _ => bound.trans (sessionTo_kept .evacuating _ rfl)) (fun _ => bound.trans (offInSession_kept .bound _))
  exact (entered.trans (sendContact_kept _ _)).trans (reportDock_kept _ _ _)

theorem acceptAnswer_kept (m : AnswerMsg) (s : State) : Kept s (acceptAnswer m s) := by
  have closed := closeWindow_kept s
  have accepted := Kept.ite (c := s.dock.state = .hailing) (fun _ => closed.trans (bindStick_kept m _)) (fun _ => closed)
  exact accepted.trans (sendHeld_kept _)

theorem needInBound_kept (n : Need) (s : State) : Kept s (needInBound n s) :=
  .ite (fun _ => (sessionTo_kept .charging s rfl).trans (chargerRun_kept n _ rfl)) (fun _ => .refl s)

theorem needInEvacuating_kept (n : Need) (s : State) (hst : s.dock.state = .evacuating) :
    Kept s (needInEvacuating n s) :=
  .ite (fun _ => chargerRun_kept n s (by rw [hst]; rfl)) (fun _ => chargerOff_kept s)

theorem needSession_kept (n : Need) (s : State) : Kept s (needSession n s) := by
  unfold needSession
  split
  case h_1 => exact needInBound_kept n s
  case h_2 hst => exact .ite (fun _ => chargerRun_kept n s (by rw [hst]; rfl)) (fun _ => offInSession_kept .bound s)
  case h_3 hst => exact needInEvacuating_kept n s hst
  case h_4 =>
    exact .ite (fun _ => (offInSession_kept .bound s).trans (needInBound_kept n _))
      (fun _ => (sessionTo_kept .evacuating s rfl).trans (needInEvacuating_kept n _ rfl))
  all_goals exact .refl s

theorem recordNeed_kept (m : NeedMsg) (s : State) : Kept s (recordNeed m s) :=
  (closeWindow_kept s).trans (kept_setDock _ _ (fun _ => id))

theorem acceptNeed_kept (m : NeedMsg) (s : State) (hdock : s.ctl.role = .dock) : Kept s (acceptNeed m s) := by
  have stepped := (recordNeed_kept m s).trans (needSession_kept m.need _)
  have started := Kept.ite (c := (needSession m.need (recordNeed m s)).countedRunDue = true)
    (fun _ => stepped.trans (startRun_kept .counted _ (stepped.role.trans hdock))) (fun _ => stepped)
  exact (started.trans (reportDock_kept _ s _)).trans (sendHeld_kept _)

theorem hailUnanswered_kept (s : State) : Kept s (hailUnanswered s) := by
  have counted := kept_setDock s { s.dock with hailCount := min 20 (s.dock.hailCount + 1) } (fun _ => id)
  refine .ite (fun _ => ?_) (fun _ => counted)
  exact (counted.trans (kept_setDock _
    { s.dock with hailCount := min 20 (s.dock.hailCount + 1), noAnswerLogged := true, hailPeriod := 1000 }
    (fun _ => id))).trans (appendFault_kept _ _ _ _ _)

theorem missSession_kept (n : Nat) (s : State) : Kept s (missSession n s) := by
  unfold missSession
  split
  case h_1 | h_2 | h_3 => exact .ite (fun _ => enterHold_kept s) (fun _ => .refl s)
  case h_4 => exact .ite (fun _ => dropBinding_kept s) (fun _ => .refl s)
  all_goals exact .refl s

theorem pollMissed_kept (s : State) : Kept s (pollMissed s) :=
  (kept_setDock s { s.dock with
    binding := s.dock.binding.map (fun b => { b with missCount := min 20 (s.missCount + 1) }) } (fun _ => id)).trans
    (missSession_kept _ _)

theorem windowOver_kept (s : State) : Kept s (windowOver s) := by
  have closed := closeWindow_kept s
  unfold windowOver
  dsimp only
  refine Kept.trans ?_ (sendHeld_kept _)
  split
  · exact closed.trans (hailUnanswered_kept _)
  · exact closed.trans (pollMissed_kept _)
  · exact closed

theorem answerCompleted_kept (b : Byte) (s : State) : Kept s (answerCompleted b s) := by
  unfold answerCompleted
  split
  · exact (endFrame_kept s).trans (acceptAnswer_kept _ _)
  · exact .refl s

/-- Only a dock takes a NEED (R117). -/
theorem needTaken_role {s : State} {b : Byte} {m : NeedMsg} (h : s.needTaken b = some m) : s.ctl.role = .dock := by
  have hmsg : s.completesMessage b = some (.need m) := by
    unfold State.needTaken at h
    split at h <;> simp_all
  unfold State.completesMessage at hmsg
  obtain ⟨bytes, -, hframe⟩ := Option.bind_eq_some_iff.mp hmsg
  unfold frameMessage parseMessage at hframe
  cases hr : s.ctl.role with
  | dock => rfl
  | stick =>
    rw [hr] at hframe
    dsimp only at hframe
    repeat' split at hframe
    all_goals simp at hframe

theorem needCompleted_kept (b : Byte) (s : State) : Kept s (needCompleted b s) := by
  unfold needCompleted
  split
  · next h => exact (endFrame_kept s).trans (acceptNeed_kept _ _ (show s.ctl.role = .dock from needTaken_role h))
  · exact .refl s

theorem frameEnds_kept (b : Byte) (s : State) : Kept s (frameEnds b s) := by
  have ended := endFrame_kept s
  unfold frameEnds
  split
  case h_1 => exact ended.trans (takeHail_kept _ _)
  case h_2 => exact ended.trans (takePoll_kept _ _)
  case h_3 => exact ended.trans (acceptAnswer_kept _ _)
  case h_4 h => exact ended.trans (acceptNeed_kept _ _ (show s.ctl.role = .dock from needTaken_role h))
  case h_5 => exact ended

theorem contactByte_kept (b : Byte) (s : State) : Kept s (contactByte b s) :=
  .ite (fun _ => frameEnds_kept b s) (fun _ => collectByte_kept b s)

end Sys2Proof.Machine

/-! What a governor period, the host link's receiver, the loss of supervision and the warm resets keep (chapters 2, 8, 9). -/

namespace Sys2Proof.Machine

open Sys2Proof

/-! ### The governor period (R27) -/

theorem driveTakeMean_kept (s : State) : Kept s (driveTakeMean s) := by
  have taken := kept_setDrive s { s.drive with busCurrent := busMean s.gov.busSamples } rfl rfl rfl rfl
  refine taken.trans ?_
  exact kept_setGov _ _ rfl rfl

theorem stickGrants_kept (s : State) : Kept s (stickGrants s) := kept_setGov s _ rfl rfl

theorem dockStages_kept (rs : List ChargerReadings) (s : State) : Kept s (dockStages rs s) := by
  refine (chargerPeriod_kept (chargerMeans rs s.charger) s).trans ?_
  exact kept_setGov _ _ rfl rfl

theorem governorStages_kept (rs : List ChargerReadings) (s : State) : Kept s (governorStages rs s) := by
  have taken := driveTakeMean_kept s
  unfold governorStages
  split
  · exact ((taken.trans (rollTakeMean_kept _)).trans (recomputeAllowance_kept _)).trans (stickGrants_kept _)
  · exact taken.trans (dockStages_kept rs _)

/-- The duty of a step lies within duty_max (R39). -/
theorem clampDuty_le (d : Int) (prev dutyMax : Nat) (lifted : Bool) : clampDuty d prev dutyMax lifted ≤ dutyMax :=
  Nat.min_le_left _ _

theorem dutyStep_duty (g : Gov) (e : Int) (lifted : Bool) :
    (dutyStep g e lifted).duty
      = clampDuty ((stepSum g.kp e (nextIntegrator g.a g.ki e) g.residue).fdiv 65536) g.prev g.limits.dutyMax lifted := by
  unfold dutyStep
  dsimp only
  split
  · rfl
  · split <;> rfl

/-- In RUN the governor hands a duty within duty_max, which becomes prev (R13, R39). -/
theorem kept_handDuty (s : State) (d : Drive) (g : Gov) (l : HostLink) (hrun : s.drive.state = .run)
    (hstate : d.state = s.drive.state) (hduty : d.duty = s.drive.duty) (hheld : d.heldDuty = some g.prev)
    (hcatch : d.catchCount = s.drive.catchCount) (hlimits : g.limits = s.gov.limits)
    (hprev : g.prev ≤ s.gov.limits.dutyMax ∨ g.prev = s.gov.prev) (hl : l = { s.host with govSat := l.govSat }) :
    Kept s { s with drive := d, gov := g, host := l } where
  replies := Nat.le_of_eq (by rw [hl])
  reports := by rw [hl]; exact id
  rxq := by rw [hl]; exact id
  errors := by rw [hl]; exact id
  limits h := ⟨hlimits ▸ h.1, h.2⟩
  duty _ h := by
    obtain ⟨hmax, hpmax, -, -⟩ := h
    refine ⟨?_, ?_, ?_, fun hne => absurd (hstate.trans hrun) hne⟩
    · simpa only [hduty, hlimits] using hmax
    · rw [hlimits]
      exact hprev.elim id (fun h => h ▸ hpmax)
    · intro x hx
      simpa [hheld, eq_comm] using hx
  motor h := by
    obtain ⟨hcoast, hpermit, hroll⟩ := h
    refine ⟨?_, ?_, ?_⟩
    · simpa only [hcatch, hstate] using hcoast
    · simpa only [hcatch, hstate] using hpermit
    · simpa only [hstate] using hroll
  balance h := ⟨h.1, fun hdrives => h.2 (by simpa only [hstate] using hdrives)⟩

theorem firstHold_kept (s : State) (hrun : s.drive.state = .run) : Kept s (firstHold s) :=
  kept_handDuty s _ _ s.host hrun rfl rfl rfl rfl rfl (.inr rfl) rfl

theorem settleStep_kept (r : DutyStep) (s : State) (hrun : s.drive.state = .run) (hr : r.duty ≤ s.gov.limits.dutyMax) :
    Kept s (settleStep r s) :=
  kept_handDuty s _ _ { s.host with govSat := s.host.govSat || r.saturated } hrun rfl rfl rfl rfl rfl (.inl hr) rfl

theorem holdPi_kept (s : State) (hrun : s.drive.state ≠ .run) : Kept s (holdPi s) where
  duty _ h := by
    obtain ⟨hduty, -, -, hrest⟩ := h
    obtain ⟨h410, hheld, -⟩ := hrest hrun
    refine ⟨hduty, Nat.zero_le _, ?_, fun _ => ⟨h410, hheld, rfl⟩⟩
    intro x (hx : s.drive.heldDuty = some x)
    rw [hheld] at hx
    cases hx

theorem governorDuty_kept (first : Bool) (s : State) : Kept s (governorDuty first s) :=
  .ite (fun hrun => .ite (fun _ => firstHold_kept s hrun)
      (fun _ => settleStep_kept _ s hrun (by rw [dutyStep_duty]; exact clampDuty_le _ _ _ _)))
    (fun hrun => holdPi_kept s hrun)

theorem noGrantCoast_kept (s : State) : Kept s (noGrantCoast s) :=
  ((endCalibration_kept _ s).trans (driveStop_kept _)).trans (reportDrive_kept _ _)

theorem handGrant_kept (grant : Nat) (s : State) : Kept s (handGrant grant s) := by
  have counted := kept_setDrive s { s.drive with zeroGrant := if grant = 0 then s.drive.zeroGrant + 1 else 0 } rfl rfl rfl rfl
  exact .ite (fun _ => .ite (fun _ => counted.trans (noGrantCoast_kept _)) (fun _ => counted)) (fun _ => .refl s)

theorem governorHands_kept (s : State) : Kept s (governorHands s) := by
  unfold governorHands
  split
  · exact (handGrant_kept _ s).trans (rollHandOver_kept _ _ _)
  · exact handGrant_kept _ s

theorem governorEnds_kept (s : State) : Kept s (governorEnds s) := kept_setGov s _ rfl rfl

theorem governorPeriod_kept (rs : List ChargerReadings) (s : State) : Kept s (governorPeriod rs s) :=
  (((governorStages_kept rs s).trans (governorDuty_kept _ _)).trans (governorHands_kept _)).trans (governorEnds_kept _)

/-! ### The limits (R43, R44, R46) -/

theorem clampNat_range {lo hi n : Nat} (h : lo ≤ hi) : lo ≤ clampNat lo hi n ∧ clampNat lo hi n ≤ hi := by
  unfold clampNat
  omega

theorem clampLimits_inRange (a b c d : Nat) : Safety.limitsInRange (clampLimits a b c d) := by
  obtain ⟨ha, ha'⟩ := clampNat_range (n := a) (show 5000 ≤ 35000 by decide)
  obtain ⟨hb, hb'⟩ := clampNat_range (n := b) (show 200 ≤ 4000 by decide)
  obtain ⟨hc, hc'⟩ := clampNat_range (n := c) (show 4000 ≤ 4200 by decide)
  obtain ⟨hd, hd'⟩ := clampNat_range (n := d) (show 1024 ≤ 4032 by decide)
  exact ⟨ha, ha', hb, hb', hc, hc', hd, hd'⟩

/-- Limits within their ranges that do not lie below the duty of a running motor (R46). -/
theorem applyLimits_kept (l : Limits) (s : State) (hl : Safety.limitsInRange l)
    (hrun : s.drive.state = .run → s.drive.duty ≤ l.dutyMax ∧ s.gov.prev ≤ l.dutyMax) : Kept s (applyLimits l s) := by
  have set : Kept s { s with gov := { s.gov with limits := l } } :=
    { limits := fun h => ⟨hl, h.2⟩
      duty := fun _ h => by
        obtain ⟨-, -, hheld, hrest⟩ := h
        by_cases hr : s.drive.state = .run
        · exact ⟨(hrun hr).1, (hrun hr).2, hheld, hrest⟩
        · obtain ⟨h410, hnone, hzero⟩ := hrest hr
          have hmax : 1024 ≤ l.dutyMax := limitsInRange_dutyMax hl
          exact ⟨by show s.drive.duty ≤ l.dutyMax; omega, by show s.gov.prev ≤ l.dutyMax; omega, hheld, hrest⟩ }
  exact .ite (fun _ => set) (fun _ => set.trans (recomputeAllowance_kept _))

theorem lockLimits_kept (s : State) : Kept s (lockLimits s) :=
  .ite (fun _ => .refl s) (fun _ =>
    { limits := fun h => ⟨h.1, fun k hk => by
        cases hk
        exact h.1⟩ })

/-! ### The host link (R158, R161, R164) -/

theorem huntAgain_kept (s : State) : Kept s (huntAgain s) := kept_setHost s _ rfl rfl id id

theorem linkError_kept (s : State) : Kept s (linkError s) := kept_setHost s _ rfl rfl id id

theorem restartSupervision_kept (s : State) : Kept s (restartSupervision s) := kept_setHost s _ rfl rfl id id

theorem queueFrame_kept (f : HostFrame) (s : State) : Kept s (queueFrame f s) := by
  refine .ite (fun _ => .refl s) (fun _ => .ite (fun hroom => ?_) (fun _ => linkError_kept s))
  exact kept_setHost s { s.host with rxq := s.host.rxq ++ [f] } rfl rfl (fun _ => by
    rw [List.length_append]
    exact hroom) id

theorem badCheck_kept (s : State) : Kept s (badCheck s) :=
  (kept_setHost s { s.host with errors := min 65535 (s.host.errors + 1) } rfl rfl id (fun _ => Nat.min_le_left _ _)).trans
    (linkError_kept _)

theorem hostFrameEnds_kept (bytes : List Byte) (s : State) : Kept s (hostFrameEnds bytes s) :=
  .ite (fun _ => ((huntAgain_kept s).trans (restartSupervision_kept _)).trans (queueFrame_kept _ _))
    (fun _ => (huntAgain_kept s).trans (badCheck_kept _))

theorem assemble_kept (bytes : List Byte) (s : State) : Kept s (assemble bytes s) := kept_setHost s _ rfl rfl id id

theorem discardWithError_kept (s : State) : Kept s (linkError (huntAgain s)) :=
  (huntAgain_kept s).trans (linkError_kept _)

theorem hostByte_kept (b : Byte) (s : State) : Kept s (hostByte b s) := by
  unfold hostByte
  split
  · exact .ite (fun _ => assemble_kept _ s) (fun _ => .refl s)
  · exact .ite (fun _ => discardWithError_kept s) (fun _ => assemble_kept _ s)
  · exact .ite (fun _ => hostFrameEnds_kept _ s) (fun _ => assemble_kept _ s)

theorem supervisionLost_kept (s : State) : Kept s (supervisionLost s) := by
  have off := (kept_setHost s { s.host with supTimer := none } rfl rfl id id).trans
    (kept_setDrive _ { s.drive with mode := .off } rfl rfl rfl rfl)
  have logged := (((off.trans (rollSilence_kept _)).trans (endCalibration_kept .aborted _)).trans (driveStop_kept _)).trans
    (appendFault_kept .hostLink .hostSilent (.num s.host.supPeriod) (some (.num (driveStateCode s.drive.state))) _)
  exact .ite (fun _ => logged.trans (reportDrive_kept _ _)) (fun _ => logged)

theorem setSupervision_kept (period : Nat) (s : State) : Kept s (setSupervision period s) :=
  (kept_setHost s { s.host with supPeriod := period } rfl rfl id id).trans (restartSupervision_kept _)

/-! ### Resets (sections 9.2, 10.2) -/

theorem tornAppend_wf {st : Store} (seg k : Nat) (records : List (List Byte)) (h : memWf st.mem = true) :
    memWf (tornAppend st seg k records) = true := by
  unfold tornAppend
  split
  · unfold tearRecords tearRecord
    dsimp only
    split
    · exact segWrite_wf _ _ _ _ h
    · exact segWrite_wf _ _ _ _ (segWrite_wf _ _ _ _ h)
  · exact h

theorem tornErase_wf {mem : List Host.Cell} (k seg : Nat) (h : memWf mem = true) : memWf (tornErase mem k seg) = true := by
  unfold tornErase
  generalize u16 0 ++ (List.range 510).map (fun i => Config.freeByte k (seg * segSize + i)) = bytes
  exact segWrite_wf _ _ _ _ h

theorem eraseCutOff_wf {mem : List Host.Cell} (k seg : Nat) (h : memWf mem = true) :
    memWf (eraseCutOff k mem seg) = true := by
  unfold eraseCutOff
  split
  · exact h
  · exact segClear_wf _ _ h
  · exact tornErase_wf _ _ h

theorem tornErases_wf (k : Nat) (segs : List Nat) {mem : List Host.Cell} (h : memWf mem = true) :
    memWf (tornErases mem k segs) = true := by
  unfold tornErases
  induction segs generalizing mem with
  | nil => exact h
  | cons seg segs ih => exact ih (eraseCutOff_wf k seg h)

theorem abandonedMem_wf {st : Store} (k : Nat) (h : memWf st.mem = true) : memWf (abandonedMem st k) = true := by
  unfold abandonedMem
  split
  · exact h
  · split
    · exact tornAppend_wf _ _ _ h
    · exact tornErase_wf _ _ h
    · exact tornErase_wf _ _ h
    · exact tornAppend_wf _ _ _ h
    · exact tornAppend_wf _ _ _ h
    · exact h
    · exact tornErases_wf _ _ h

/-- A setting loaded by lookup has what the check gives and what the default has. -/
theorem loadSetting_has {α : Type} {P : α → Prop} (mem : List Host.Cell) (tag : Nat) (check : List Byte → Option α)
    (default : α) (hcheck : ∀ v, ∀ x ∈ check v, P x) (hdefault : P default) : P (loadSetting mem tag check default) := by
  unfold loadSetting
  split
  · next v _ =>
    cases hx : check v with
    | none => exact hdefault
    | some x => exact hcheck v x hx
  · exact hdefault

theorem loadCapacity_range (mem : List Host.Cell) : 500 ≤ loadCapacity mem ∧ loadCapacity mem ≤ 10000 := by
  refine loadSetting_has (P := fun c => 500 ≤ c ∧ c ≤ 10000) mem _ _ _ (fun v x hx => ?_) (by decide)
  cases hx
  exact clampNat_range (by decide)

theorem loadLimits_inRange (mem : List Host.Cell) (lock : Option LockRecord)
    (h : ∀ k ∈ lock, Safety.limitsInRange k.limits) : Safety.limitsInRange (loadLimits mem lock) := by
  unfold loadLimits
  split
  · exact h _ rfl
  · refine loadSetting_has (P := Safety.limitsInRange) mem _ _ _ (fun v x hx => ?_) (by decide)
    cases hx
    exact clampLimits_inRange _ _ _ _

/-- The charge that a reset leaves (R53, R67). -/
theorem packAfterReset_bounded (mem : List Host.Cell) (ctl : Ctl) (limits : Limits) (k : Retained) :
    (packAfterReset mem ctl limits k).q ≤ (packAfterReset mem ctl limits k).capacity * 3600 ∧
      500 ≤ (packAfterReset mem ctl limits k).capacity ∧ (packAfterReset mem ctl limits k).capacity ≤ 10000 :=
  ⟨Nat.min_le_right _ _, (loadCapacity_range mem).1, (loadCapacity_range mem).2⟩

/-- What a reset leaves under an invalid CELLS strap, from a retained charge of 0 (R67). -/
theorem packAfterReset_strapped (mem : List Host.Cell) (ctl : Ctl) (limits : Limits) (k : Retained) (hq : k.q = 0)
    (hvalid : k.valid = false) (hcells : ctl.cells = 3) :
    (packAfterReset mem ctl limits k).q = 0 ∧ (packAfterReset mem ctl limits k).valid = false ∧
      (packAfterReset mem ctl limits k).balance = [] ∧ (packAfterReset mem ctl limits k).scanTimer = none ∧
      (packAfterReset mem ctl limits k).scanning = false := by
  refine ⟨?_, hvalid, rfl, ?_, rfl⟩
  · simp [packAfterReset, hq]
  · simp [packAfterReset, hcells]

theorem warmReset_kept (kind : ResetKind) (s : State) : Kept s (warmReset kind s) where
  role := by cases kind <;> rfl
  cells := by cases kind <;> rfl
  partTime := by cases kind <;> rfl
  replies := Nat.zero_le _
  rxq _ := Nat.zero_le _
  reports _ := Nat.zero_le _
  errors _ := Nat.zero_le _
  store h := abandonedMem_wf _ h
  ring h := h
  limits h := ⟨loadLimits_inRange _ _ h.2, h.2⟩
  duty _ _ := ⟨Nat.zero_le _, Nat.zero_le _, fun x hx => (by cases hx), fun _ => ⟨Nat.zero_le _, rfl, rfl⟩⟩
  charger _ := ⟨Nat.zero_le _, fun _ => rfl, fun h => (by cases h)⟩
  dirt h := ⟨Nat.zero_le _, fun x hx => (by cases hx), h.2.2.1, rfl⟩
  charge hv _ := by
    obtain ⟨hq, hlo, hhi⟩ := packAfterReset_bounded s.storeAtReset { s.ctl with cause := s.ctl.cause.add kind }
      (loadLimits s.storeAtReset s.ctl.lock) s.retained
    exact ⟨hq, hlo, hhi, fun hr hcells => absurd ⟨hr, hcells⟩ hv⟩
  balance _ := ⟨Nat.zero_le _, fun _ => rfl⟩
  motor _ := ⟨fun h => (by cases h), fun _ h => (by rcases h with h | h <;> cases h), fun h => (by cases h)⟩
  perms _ := by
    refine ⟨⟨fun h => (by cases h), fun h => (by cases h.2.1)⟩, ⟨fun h => (by cases h), fun h => (by cases h.2.1)⟩⟩
  strapped _ h := by
    obtain ⟨hq, hlo, hhi⟩ := packAfterReset_bounded s.storeAtReset { s.ctl with cause := s.ctl.cause.add kind }
      (loadLimits s.storeAtReset s.ctl.lock) s.retained
    refine ⟨hq, hlo, hhi, fun hr hcells => ?_⟩
    obtain ⟨h0, hvalid, -⟩ := chargeBounded_strapped h hr hcells
    exact packAfterReset_strapped s.storeAtReset { s.ctl with cause := s.ctl.cause.add kind } _ s.retained h0 hvalid hcells

end Sys2Proof.Machine

/-! What every command and every step keep: the invariants of `Safety.Inv`, each by itself. -/

namespace Sys2Proof.Machine

open Sys2Proof

/-- The invariants kept from one state to another, each by itself. -/
structure Preserves (s t : State) : Prop where
  store : Safety.storeCanonical s → Safety.storeCanonical t
  link : Safety.linkBounded s → Safety.linkBounded t
  ring : Safety.ringConsecutive s → Safety.ringConsecutive t
  limits : Safety.limitsBounded s → Safety.limitsBounded t
  duty : Safety.limitsBounded s → Safety.dutyBounded s → Safety.dutyBounded t
  motor : Safety.motorPermitted s → Safety.motorPermitted t
  charger : Safety.chargerBounded s → Safety.chargerBounded t
  dirt : Safety.dirtBounded s → Safety.dirtBounded t
  charge : Safety.chargeBounded s → Safety.chargeBounded t
  balance : Safety.balanceAllowed s → Safety.balanceAllowed t
  permissions : Safety.permissionsFollow s → Safety.permissionsFollow t

/-- What a command other than a power-on reset keeps. -/
structure Commands (s t : State) : Prop extends Preserves s t where
  role : t.ctl.role = s.ctl.role
  cells : t.ctl.cells = s.ctl.cells
  partTime : t.ctl.partTime = s.ctl.partTime
  pending : t.pending = s.pending

theorem Preserves.refl (s : State) : Preserves s s :=
  ⟨id, id, id, id, fun _ => id, id, id, id, id, id, id⟩

theorem Commands.refl (s : State) : Commands s s := ⟨.refl s, rfl, rfl, rfl, rfl⟩

/-- The charge of the pack is kept whether or not the strap is valid. -/
theorem Kept.chargeBounded {s t : State} (h : Kept s t) (hc : Safety.chargeBounded s) : Safety.chargeBounded t := by
  by_cases hv : s.strapValid
  · exact h.charge hv hc
  · exact h.strapped hv hc

/-- What an event keeps: its effect, and what follows it. -/
theorem Kept.settled {s u : State} (h : Kept s u) : Commands s (settle u) where
  store := (h.trans (settle_kept u)).store
  link hl := by
    have k := h.trans (settle_kept u)
    obtain ⟨hrxq, hreplies, hreports, herrors, -⟩ := hl
    exact ⟨k.rxq hrxq, Nat.le_trans k.replies hreplies, k.reports hreports, k.errors herrors, settle_sends u⟩
  ring := (h.trans (settle_kept u)).ring
  limits := (h.trans (settle_kept u)).limits
  duty := (h.trans (settle_kept u)).duty
  motor := (h.trans (settle_kept u)).motor
  charger := (h.trans (settle_kept u)).charger
  dirt := (h.trans (settle_kept u)).dirt
  charge := (h.trans (settle_kept u)).chargeBounded
  balance := (h.trans (settle_kept u)).balance
  permissions := (h.trans (settle_kept u)).perms
  role := (h.trans (settle_kept u)).role
  cells := (h.trans (settle_kept u)).cells
  partTime := (h.trans (settle_kept u)).partTime
  pending := (h.trans (settle_kept u)).pending

/-- A reply that the reply queue has room for keeps its bound. -/
theorem Kept.replied {s u : State} (h : Kept s u) (r : Reply) (hroom : s.host.replies.length < 4) :
    Commands s (settle (pushReply r u)) := by
  have pushed : Kept (pushReply r s) (pushReply r u) :=
    { h with replies := by simpa [pushReply] using h.replies }
  have k := pushed.settled
  exact { k with
    link := fun hl => k.link ⟨hl.1, by
      show (s.host.replies ++ [r]).length ≤ 4
      rw [List.length_append]
      exact hroom, hl.2.2⟩ }

/-! ### Commands -/

/-- A command that answers a next state which keeps the invariants, and which in SHIP is the same state. -/
def Answers (o : Host.Outcome State Fault Refusal) (s : State) : Prop :=
  ∃ t, o = .next t ∧ Commands s t ∧ (s.ctl.power = .ship → t = s)

theorem unchanged_answers (s : State) : Answers (.next s) s := ⟨s, rfl, .refl s, fun _ => rfl⟩

theorem awake_answers {s t : State} (h : Commands s t) (hawake : s.ctl.power ≠ .ship) : Answers (.next t) s :=
  ⟨t, rfl, h, fun hship => absurd hship hawake⟩

/-- The first part of an event's condition. -/
theorem of_decide_and {P : Prop} [Decidable P] {b : Bool} (h : (decide P && b) = true) : P := by
  simp only [Bool.and_eq_true, decide_eq_true_eq] at h
  exact h.1

theorem event_answers {occurs : Bool} {effect : State → State} {s : State} (h : occurs = true → Kept s (effect s)) :
    Answers (event occurs effect s) s := by
  rcases event_cases (rfl : event occurs effect s = event occurs effect s) with e | ⟨hocc, hawake, e⟩
  · exact e ▸ unchanged_answers s
  · exact e ▸ awake_answers (h hocc).settled hawake

theorem beginTaking_kept (rest : List HostFrame) (s : State) (h : rest.length ≤ s.host.rxq.length) :
    Kept s (beginTaking rest s) :=
  ((kept_setHost s { s.host with rxq := rest } rfl rfl (Nat.le_trans h) id).trans (enterActive_kept _ _)).trans
    (kept_restartStandby _)

/-- A request whose own stage keeps the invariants in a role that accepts it. -/
def RequestSpec.Keeps (q : RequestSpec) : Prop :=
  ∀ p s, q.accepts s.ctl.role = true → Kept s (q.act p s).state

theorem judge_kept {q : RequestSpec} (hq : q.Keeps) (p : List Byte) (s : State) : Kept s (judge q p s).state := by
  unfold judge
  split
  · next hrole =>
    split
    · split
      · exact hq p s hrole
      · exact .refl s
    · exact .refl s
  · exact .refl s

theorem request_answers {q : RequestSpec} (hq : q.Keeps) (s : State) : Answers (request q s) s := by
  rcases request_cases (rfl : request q s = request q s) with e | ⟨f, rest, hrxq, -, htake, hawake, e⟩
  · exact e ▸ unchanged_answers s
  · rw [e]
    refine awake_answers ?_ hawake
    have judged := (beginTaking_kept rest s (by simp [hrxq])).trans (judge_kept hq f.payload _)
    have asked := Kept.ite (c := (q.alwaysSummary || asksSummary f.kind) = true)
      (fun _ => judged.trans (kept_clearSticky _)) (fun _ => judged)
    exact asked.replied _ (canTake_length htake)

theorem takeUnknown_answers (s : State) : Answers (execUnknownKind s) s := by
  rcases event_cases (rfl : execUnknownKind s = execUnknownKind s) with e | ⟨hocc, hawake, e⟩
  · exact e ▸ unchanged_answers s
  · simp only [Bool.and_eq_true] at hocc
    rw [e]
    refine awake_answers ?_ hawake
    unfold takeUnknown
    split
    · exact (Kept.refl s).settled
    · next f rest hrxq => exact (beginTaking_kept rest s (by simp [hrxq])).replied _ (canTake_length hocc.1)

/-! ### The requests -/

/-- A request that only returns a record. -/
theorem plainRequest_keeps {code : Nat} {act : State → Judged} (h : ∀ s, Kept s (act s).state) :
    (plainRequest code act).Keeps := fun _ s _ => h s

/-- Of the two outcomes of a guard, each keeps the invariants. -/
theorem Kept.iteJudged {c : Prop} [Decidable c] {s : State} {j k : Judged} (hj : c → Kept s j.state)
    (hk : ¬ c → Kept s k.state) : Kept s (if c then j else k).state := by
  split
  · exact hj ‹_›
  · exact hk ‹_›

/-- A guard that refuses. -/
theorem Kept.unless {c : Prop} [Decidable c] {s : State} {r : Result} {k : Judged} (hk : ¬ c → Kept s k.state) :
    Kept s (if c then refuse r s else k).state := .iteJudged (fun _ => .refl s) hk

theorem statusSpec_keeps : statusSpec.Keeps := fun _ s _ => .refl s

theorem subscribeSpec_keeps : subscribeSpec.Keeps := fun _ s _ => kept_setHost s _ rfl rfl id id

theorem superviseSpec_keeps : superviseSpec.Keeps := fun _ s _ => .unless (fun _ => setSupervision_kept _ s)

theorem readFaultsSpec_keeps : readFaultsSpec.Keeps := fun _ s _ => .unless (fun _ => .refl s)

theorem clearFaultsSpec_keeps : clearFaultsSpec.Keeps :=
  plainRequest_keeps (fun _ => { ring := fun _ => ⟨Nat.zero_le _, rfl⟩ })

theorem clearCauseSpec_keeps : clearCauseSpec.Keeps := fun _ _ _ => .unless (fun _ => {})

theorem resetPartSpec_keeps : resetPartSpec.Keeps := fun _ s _ => .refl s

theorem powerModeAct_kept (mode : PowerMode) (s : State) : Kept s (powerModeAct mode s).state := by
  cases mode with
  | active => exact .refl s
  | standby => exact .iteJudged (fun _ => enterStandby_kept _ s) (fun _ => .refl s)
  | ship => exact .unless (fun _ => .iteJudged (fun _ => shipDecision_kept _ s) (fun _ => .refl s))

theorem setPowerModeSpec_keeps : setPowerModeSpec.Keeps := by
  intro p s _
  simp only [setPowerModeSpec]
  split
  · exact powerModeAct_kept _ s
  · exact .refl s

theorem setSuctionSpec_keeps : setSuctionSpec.Keeps := by
  intro p s _
  simp only [setSuctionSpec]
  split
  · exact .refl s
  · exact suctionOff_kept s
  · refine .unless (fun hok => suctionOn_kept _ s (fun _ => ?_))
    simp only [not_or, Classical.not_not, Bool.not_eq_false] at hok
    exact ⟨hok.2.2, hok.2.1⟩

theorem setModePowerSpec_keeps : setModePowerSpec.Keeps := by
  intro p s _
  refine .unless (fun _ => .unless (fun _ => .unless (fun _ => ?_)))
  refine Kept.trans ?_ (keepWrite_kept _ _ _ _ _)
  exact kept_setGov s _ rfl rfl

theorem setLimitsSpec_keeps : setLimitsSpec.Keeps := by
  intro p s _
  refine .unless (fun _ => .unless (fun _ => .unless (fun hallowed => .unless (fun _ => ?_))))
  refine (applyLimits_kept _ s (clampLimits_inRange _ _ _ _) (fun hrun => ?_)).trans (keepWrite_kept _ _ _ _ _)
  simp only [hrun, true_and, not_or, Nat.not_lt] at hallowed
  exact hallowed

theorem lockLimitsSpec_keeps : lockLimitsSpec.Keeps := plainRequest_keeps lockLimits_kept

/-- The capacity set under an invalid CELLS strap, where Q is 0 (R67, R74). -/
theorem setStrappedCapacity_kept (c : Nat) (s : State) (hlo : 500 ≤ c) (hhi : c ≤ 10000) (hstick : s.ctl.role = .stick)
    (hcells : s.ctl.cells = 3) : Kept s { s with pack := { s.pack with capacity := c } } where
  charge hv _ := absurd ⟨hstick, hcells⟩ hv
  strapped _ hc := by
    obtain ⟨h0, hrest⟩ := chargeBounded_strapped hc hstick hcells
    exact ⟨by show s.pack.q ≤ c * 3600; omega, hlo, hhi, fun _ _ => ⟨h0, hrest⟩⟩

/-- A rescaled Q lies within the new full charge (R74). -/
theorem rescaled_le {q c capacity : Nat} (hq : q ≤ capacity * 3600) : q * c / capacity ≤ c * 3600 := by
  refine Nat.div_le_of_le_mul ?_
  calc q * c ≤ capacity * 3600 * c := Nat.mul_le_mul_right c hq
    _ = capacity * (c * 3600) := by rw [Nat.mul_assoc, Nat.mul_comm 3600 c]

theorem setCapacity_kept (c : Nat) (s : State) (hlo : 500 ≤ c) (hhi : c ≤ 10000) (hcells : s.ctl.cells ≠ 3) :
    Kept s (setCapacity c s) where
  charge hv hc := ⟨rescaled_le hc.1, hlo, hhi, fun _ h => absurd h hcells⟩
  strapped _ hc := ⟨rescaled_le hc.1, hlo, hhi, fun _ h => absurd h hcells⟩

theorem setPackSpec_keeps : setPackSpec.Keeps := by
  intro p s hrole
  have hstick : s.ctl.role = .stick := by
    cases hr : s.ctl.role with
    | stick => rfl
    | dock => rw [hr] at hrole; cases hrole
  obtain ⟨hlo, hhi⟩ := clampNat_range (n := u16At p 0) (show 500 ≤ 10000 by decide)
  refine .unless (fun _ => .unless (fun _ => ?_))
  exact .ite (fun hcells => setStrappedCapacity_kept _ s hlo hhi hstick hcells)
    (fun hcells => (setCapacity_kept _ s hlo hhi hcells).trans (keepWrite_kept _ _ _ _ _))

theorem clearProtectionSpec_keeps : clearProtectionSpec.Keeps := fun _ s _ =>
  .unless (fun _ => .unless (fun _ => .unless (fun _ => releaseLockout_kept s)))

theorem setDirtLevelsSpec_keeps : setDirtLevelsSpec.Keeps := fun _ s _ =>
  .unless (fun _ => .unless (fun _ => .unless (fun _ =>
    (applyDirtLevels_kept _ s).trans (keepWrite_kept _ _ _ _ _))))

theorem clearBinSpec_keeps : clearBinSpec.Keeps := fun _ s _ => emptyBin_kept s

theorem calibrateFloorSpec_keeps : calibrateFloorSpec.Keeps := fun _ s _ =>
  .unless (fun _ => .unless (fun hok => startCalibration_kept s (fun _ => by
    simp only [not_or, Classical.not_not, Bool.not_eq_false] at hok
    obtain ⟨hdetached, -, -, hpermitted⟩ := hok
    exact ⟨hpermitted, hdetached⟩)))

theorem setAttachmentSpec_keeps : setAttachmentSpec.Keeps := fun _ s _ =>
  .unless (fun _ => .unless (fun _ => .unless (fun _ => .unless (fun _ =>
    (writeEntry_kept _ _ s).trans (keepWrite_kept _ _ _ _ _)))))

theorem setEvacuationSpec_keeps : setEvacuationSpec.Keeps := by
  intro p s _
  simp only [setEvacuationSpec]
  split
  · exact .refl s
  · exact .unless (fun _ => .unless (fun _ =>
      ((kept_setEvacSet s _).trans (deriveRequest_kept _)).trans (keepWrite_kept _ _ _ _ _)))

theorem dockStatusSpec_keeps : dockStatusSpec.Keeps := plainRequest_keeps kept_nextFree

theorem setDockSupplySpec_keeps : setDockSupplySpec.Keeps := by
  intro p s _
  refine .unless (fun _ => .unless (fun _ => ?_))
  refine Kept.trans ?_ (keepWrite_kept _ _ _ _ _)
  exact kept_setCharger s _ rfl rfl rfl

theorem startEvacuationSpec_keeps : startEvacuationSpec.Keeps := by
  intro p s hrole
  have hdock : s.ctl.role = .dock := by
    cases hr : s.ctl.role with
    | dock => rfl
    | stick => rw [hr] at hrole; cases hrole
  exact .unless (fun _ => .unless (fun _ => (startRun_kept .manual s hdock).trans (reportDock_kept _ _ _)))

theorem storeReadSpec_keeps : storeReadSpec.Keeps := fun _ s _ => .iteJudged (fun _ => .refl s) (fun _ => .refl s)

theorem storeWriteSpec_keeps : storeWriteSpec.Keeps := fun _ s _ =>
  .unless (fun _ => .unless (fun _ => .unless (fun _ => .unless (fun _ => .unless (fun _ =>
    .iteJudged (fun _ => startFactoryWrite_kept _ _ _ s) (fun _ => startUserWrite_kept _ _ _ s))))))

theorem storeEraseSpec_keeps : storeEraseSpec.Keeps := fun _ s _ =>
  .unless (fun _ => .unless (fun _ => .unless (fun _ => startErase_kept _ _ s)))

theorem rollRestartSpec_keeps : rollRestartSpec.Keeps := fun _ s _ =>
  .iteJudged (fun _ => rollRelease_kept _ s) (fun _ => .refl s)

/-! ### The commands that are not requests -/

/-- The end of a frame sent: the next one, or the reset that RESET_PART asked for (R161, R179). -/
theorem transmitDone_kept (s : State) : Kept s (transmitDone s) := by
  unfold transmitDone frameSentOut
  split
  · exact .ite (fun _ => warmReset_kept _ s) (fun _ => {})
  · exact .refl s

theorem hostFrameArrival_answers (check : Byte) (s : State) : Answers (execHostFrameArrival check s) s := by
  unfold execHostFrameArrival
  refine event_answers (fun _ => ?_)
  split
  · exact hostFrameEnds_kept _ s
  · exact .refl s

theorem hostRxGapTimeout_answers (s : State) : Answers (execHostRxGapTimeout s) s := by
  unfold execHostRxGapTimeout
  exact event_answers (fun _ => huntAgain_kept s)

theorem hostRxFramingError_answers (s : State) : Answers (execHostRxFramingError s) s := by
  unfold execHostRxFramingError
  exact event_answers (fun _ => discardWithError_kept s)

theorem hostRxLenInvalid_answers (len : Byte) (s : State) : Answers (execHostRxLenInvalid len s) s := by
  unfold execHostRxLenInvalid
  exact event_answers (fun _ => discardWithError_kept s)

theorem frameTransmitDone_answers (s : State) : Answers (execFrameTransmitDone s) s := by
  unfold execFrameTransmitDone
  exact event_answers (fun _ => transmitDone_kept s)

theorem supervisionExpiry_answers (s : State) : Answers (execSupervisionExpiry s) s := by
  unfold execSupervisionExpiry
  exact event_answers (fun _ => supervisionLost_kept s)

theorem standbyTimerExpiry_answers (s : State) : Answers (execStandbyTimerExpiry s) s := by
  unfold execStandbyTimerExpiry
  exact event_answers (fun _ => enterStandby_kept _ s)

theorem zeroCrossing_answers (timestamp : Ticks) (s : State) : Answers (execZeroCrossing timestamp s) s := by
  unfold execZeroCrossing
  exact event_answers (fun _ => crossing_kept timestamp s)

theorem crossingWindowExpiry_answers (s : State) : Answers (execCrossingWindowExpiry s) s := by
  unfold execCrossingWindowExpiry
  exact event_answers (windowExpiryTaken_kept s)

theorem commutation_answers (s : State) : Answers (execCommutation s) s := by
  unfold execCommutation
  refine event_answers (fun h => commutation_kept s ?_)
  exact of_decide_and h

theorem forcedCommutation_answers (s : State) : Answers (execForcedCommutation s) s := by
  unfold execForcedCommutation
  exact event_answers (fun _ => forceCommutation_kept s)

theorem alignTimerExpiry_answers (s : State) : Answers (execAlignTimerExpiry s) s := by
  unfold execAlignTimerExpiry
  refine event_answers (fun h => (enterRamp_kept s ?_).trans (reportDrive_kept _ _))
  exact of_decide_and h

theorem rampTimerExpiry_answers (s : State) : Answers (execRampTimerExpiry s) s := by
  unfold execRampTimerExpiry
  refine event_answers (fun h => rampFailed_kept s ?_)
  exact of_decide_and h

theorem coastTimerExpiry_answers (s : State) : Answers (execCoastTimerExpiry s) s := by
  unfold execCoastTimerExpiry
  refine event_answers (fun h => coastToOff_kept s ?_)
  rw [of_decide_and h]
  decide

theorem crossingTimerExpiry_answers (s : State) : Answers (execCrossingTimerExpiry s) s := by
  unfold execCrossingTimerExpiry
  refine event_answers (fun h => coastToOff_kept s ?_)
  rw [of_decide_and h]
  decide

theorem faultTimerExpiry_answers (s : State) : Answers (execFaultTimerExpiry s) s := by
  unfold execFaultTimerExpiry
  refine event_answers (fun h => faultTimeOver_kept s ?_)
  exact of_decide_and h

theorem busCurrentReading_answers (reading : Reading) (s : State) : Answers (execBusCurrentReading reading s) s := by
  unfold execBusCurrentReading
  exact event_answers (fun _ => busReadingTaken_kept reading s)

theorem governorPeriod_answers (readings : List ChargerReadings) (s : State) : Answers (execGovernorPeriod readings s) s := by
  unfold execGovernorPeriod
  exact event_answers (fun _ => governorPeriod_kept readings s)

theorem scanTimerExpiry_answers (s : State) : Answers (execScanTimerExpiry s) s := by
  unfold execScanTimerExpiry
  exact event_answers (scanExpired_kept s)

theorem packRecordPublication_answers (scan : RawScan) (s : State) : Answers (execPackRecordPublication scan s) s := by
  unfold execPackRecordPublication
  exact event_answers (publish_kept scan s)

theorem dsgOcClearExpiry_answers (s : State) : Answers (execDsgOcClearExpiry s) s := by
  unfold execDsgOcClearExpiry
  exact event_answers (fun _ => dsgOcCleared_kept s)

theorem piezoPulse_answers (s : State) : Answers (execPiezoPulse s) s := by
  unfold execPiezoPulse
  exact event_answers (fun _ => piezoPulse_kept s)

theorem debrisWindow_answers (ledOff ledOn : Nat) (s : State) : Answers (execDebrisWindow ledOff ledOn s) s := by
  unfold execDebrisWindow
  exact event_answers (fun _ => windowEnds_kept ledOff ledOn s)

theorem bandTimerExpiry_answers (s : State) : Answers (execBandTimerExpiry s) s := by
  unfold execBandTimerExpiry
  exact event_answers (fun _ => bandExpired_kept s)

theorem idSample_answers (reading : Reading) (s : State) : Answers (execIdSample reading s) s := by
  unfold execIdSample
  exact event_answers (fun _ => idSampled_kept reading s)

theorem waitTimerExpiry_answers (s : State) : Answers (execWaitTimerExpiry s) s := by
  unfold execWaitTimerExpiry
  refine event_answers (fun h => rollEnterSpinup_kept s (.inl ?_))
  rw [of_decide_and h]
  rfl

theorem rollCurrentReading_answers (reading : Reading) (s : State) : Answers (execRollCurrentReading reading s) s := by
  unfold execRollCurrentReading
  exact event_answers (fun _ => rollReadingTaken_kept reading s)

theorem contactRxGapTimeout_answers (s : State) : Answers (execContactRxGapTimeout s) s := by
  unfold execContactRxGapTimeout
  exact event_answers (fun _ => endFrame_kept s)

theorem contactFrameInvalid_answers (check : Byte) (s : State) : Answers (execContactFrameInvalid check s) s := by
  unfold execContactFrameInvalid
  exact event_answers (fun _ => endFrame_kept s)

theorem hailTaken_answers (check : Byte) (s : State) : Answers (execHailTaken check s) s := by
  unfold execHailTaken
  exact event_answers (fun _ => hailCompleted_kept check s)

theorem pollTaken_answers (check : Byte) (s : State) : Answers (execPollTaken check s) s := by
  unfold execPollTaken
  exact event_answers (fun _ => pollCompleted_kept check s)

theorem stickReplyStart_answers (s : State) : Answers (execStickReplyStart s) s := by
  unfold execStickReplyStart
  exact event_answers (fun _ => kept_setContact s _)

theorem contactFrameSent_answers (s : State) : Answers (execContactFrameSent s) s := by
  unfold execContactFrameSent
  exact event_answers (fun _ => frameSent_kept s)

theorem contactVoltageSample_answers (mV : Nat) (s : State) : Answers (execContactVoltageSample mV s) s := by
  unfold execContactVoltageSample
  exact event_answers (fun _ => voltageSampled_kept mV s)

theorem silenceTimerExpiry_answers (s : State) : Answers (execSilenceTimerExpiry s) s := by
  unfold execSilenceTimerExpiry
  refine event_answers (fun h => silenceOver_kept s ?_)
  exact of_decide_and h

theorem contactCurrentSample_answers (mA : Nat) (s : State) : Answers (execContactCurrentSample mA s) s := by
  unfold execContactCurrentSample
  exact event_answers (fun _ => currentSampled_kept mA s)

theorem hailTimerExpiry_answers (s : State) : Answers (execHailTimerExpiry s) s := by
  unfold execHailTimerExpiry
  exact event_answers (fun _ => sendHail_kept s)

theorem pollTimerExpiry_answers (s : State) : Answers (execPollTimerExpiry s) s := by
  unfold execPollTimerExpiry
  exact event_answers (fun _ => sendPoll_kept s)

theorem replyWindowExpiry_answers (s : State) : Answers (execReplyWindowExpiry s) s := by
  unfold execReplyWindowExpiry
  exact event_answers (fun _ => windowOver_kept s)

theorem answerAccepted_answers (check : Byte) (s : State) : Answers (execAnswerAccepted check s) s := by
  unfold execAnswerAccepted
  exact event_answers (fun _ => answerCompleted_kept check s)

theorem needAccepted_answers (check : Byte) (s : State) : Answers (execNeedAccepted check s) s := by
  unfold execNeedAccepted
  exact event_answers (fun _ => needCompleted_kept check s)

theorem chargerReading_answers (readings : ChargerReadings) (s : State) : Answers (execChargerReading readings s) s := by
  unfold execChargerReading
  exact event_answers (fun _ => recordReadings_kept readings s)

theorem restartTimerExpiry_answers (s : State) : Answers (execRestartTimerExpiry s) s := by
  unfold execRestartTimerExpiry
  exact event_answers (fun _ => restart_kept s)

theorem durationTimerExpiry_answers (s : State) : Answers (execDurationTimerExpiry s) s := by
  unfold execDurationTimerExpiry
  exact event_answers (fun _ => spellOver_kept s)

theorem storeWriteComplete_answers (matched : Bool) (s : State) : Answers (execStoreWriteComplete matched s) s := by
  unfold execStoreWriteComplete
  exact event_answers (fun _ => withOp_kept (fun op => completeWrite_kept op matched) s)

theorem storeEraseComplete_answers (matched : Bool) (s : State) : Answers (execStoreEraseComplete matched s) s := by
  unfold execStoreEraseComplete
  exact event_answers (fun _ => withOp_kept (fun op => completeErase_kept op matched) s)

theorem compactionStepComplete_answers (mismatch : Option (Fin 4)) (s : State) : Answers (execCompactionStepComplete mismatch s) s := by
  unfold execCompactionStepComplete
  refine event_answers (fun _ => withOp_kept (fun op u => ?_) s)
  split
  · exact compactionStepOk_kept op u
  · exact compactionStepBad_kept op _ u

theorem hostByteArrival_answers (byte : Byte) (s : State) : Answers (execHostByteArrival byte s) s := by
  unfold execHostByteArrival
  exact event_answers (fun _ => hostByte_kept byte s)

theorem contactByteArrival_answers (byte : Byte) (s : State) : Answers (execContactByteArrival byte s) s := by
  unfold execContactByteArrival
  exact event_answers (fun _ => contactByte_kept byte s)

theorem stickReplySent_answers (s : State) : Answers (execStickReplySent s) s := by
  unfold execStickReplySent
  exact event_answers (fun _ => kept_setContact s _)

/-- Every command but a reset answers a next state that keeps the invariants, the straps, part time and the waiting
commands, and in SHIP it changes nothing. -/
theorem exec_answers (c : Instr) (s : State) (hc : Spec.isReset c = false) : Answers (exec c s) s := by
  cases c with
  | powerOnReset role cells => cases hc
  | pinReset => cases hc
  | shipWake source => cases hc
  | hostFrameArrival check => exact hostFrameArrival_answers check s
  | hostRxGapTimeout => exact hostRxGapTimeout_answers s
  | hostRxFramingError => exact hostRxFramingError_answers s
  | hostRxLenInvalid len => exact hostRxLenInvalid_answers len s
  | unknownKind => exact takeUnknown_answers s
  | identify => exact request_answers (plainRequest_keeps .refl) s
  | status => exact request_answers statusSpec_keeps s
  | subscribe => exact request_answers subscribeSpec_keeps s
  | supervise => exact request_answers superviseSpec_keeps s
  | readFaults => exact request_answers readFaultsSpec_keeps s
  | clearFaults => exact request_answers clearFaultsSpec_keeps s
  | clearCause => exact request_answers clearCauseSpec_keeps s
  | resetPart => exact request_answers resetPartSpec_keeps s
  | setPowerMode => exact request_answers setPowerModeSpec_keeps s
  | setSuction => exact request_answers setSuctionSpec_keeps s
  | driveStatus => exact request_answers (plainRequest_keeps .refl) s
  | setModePower => exact request_answers setModePowerSpec_keeps s
  | setLimits => exact request_answers setLimitsSpec_keeps s
  | lockLimits => exact request_answers lockLimitsSpec_keeps s
  | budgetStatus => exact request_answers (plainRequest_keeps .refl) s
  | packStatus => exact request_answers (fun _ s _ => .refl s) s
  | setPack => exact request_answers setPackSpec_keeps s
  | clearProtection => exact request_answers clearProtectionSpec_keeps s
  | dirtStatus => exact request_answers (fun _ s _ => .refl s) s
  | setDirtLevels => exact request_answers setDirtLevelsSpec_keeps s
  | clearBin => exact request_answers clearBinSpec_keeps s
  | calibrateFloor => exact request_answers calibrateFloorSpec_keeps s
  | attachmentStatus => exact request_answers (fun _ s _ => .refl s) s
  | setAttachment => exact request_answers setAttachmentSpec_keeps s
  | rollRestart => exact request_answers rollRestartSpec_keeps s
  | dockStatus => exact request_answers dockStatusSpec_keeps s
  | setEvacuation => exact request_answers setEvacuationSpec_keeps s
  | chargerStatus => exact request_answers (fun _ s _ => .refl s) s
  | setDockSupply => exact request_answers setDockSupplySpec_keeps s
  | startEvacuation => exact request_answers startEvacuationSpec_keeps s
  | storeRead => exact request_answers storeReadSpec_keeps s
  | storeWrite => exact request_answers storeWriteSpec_keeps s
  | storeErase => exact request_answers storeEraseSpec_keeps s
  | storeStatus => exact request_answers (plainRequest_keeps .refl) s
  | frameTransmitDone => exact frameTransmitDone_answers s
  | supervisionExpiry => exact supervisionExpiry_answers s
  | standbyTimerExpiry => exact standbyTimerExpiry_answers s
  | zeroCrossing timestamp => exact zeroCrossing_answers timestamp s
  | crossingWindowExpiry => exact crossingWindowExpiry_answers s
  | commutation => exact commutation_answers s
  | forcedCommutation => exact forcedCommutation_answers s
  | alignTimerExpiry => exact alignTimerExpiry_answers s
  | rampTimerExpiry => exact rampTimerExpiry_answers s
  | coastTimerExpiry => exact coastTimerExpiry_answers s
  | crossingTimerExpiry => exact crossingTimerExpiry_answers s
  | faultTimerExpiry => exact faultTimerExpiry_answers s
  | busCurrentReading reading => exact busCurrentReading_answers reading s
  | governorPeriod readings => exact governorPeriod_answers readings s
  | scanTimerExpiry => exact scanTimerExpiry_answers s
  | packRecordPublication scan => exact packRecordPublication_answers scan s
  | dsgOcClearExpiry => exact dsgOcClearExpiry_answers s
  | piezoPulse => exact piezoPulse_answers s
  | debrisWindow ledOff ledOn => exact debrisWindow_answers ledOff ledOn s
  | bandTimerExpiry => exact bandTimerExpiry_answers s
  | idSample reading => exact idSample_answers reading s
  | waitTimerExpiry => exact waitTimerExpiry_answers s
  | rollCurrentReading reading => exact rollCurrentReading_answers reading s
  | contactRxGapTimeout => exact contactRxGapTimeout_answers s
  | contactFrameInvalid check => exact contactFrameInvalid_answers check s
  | hailTaken check => exact hailTaken_answers check s
  | pollTaken check => exact pollTaken_answers check s
  | stickReplyStart => exact stickReplyStart_answers s
  | contactFrameSent => exact contactFrameSent_answers s
  | contactVoltageSample mV => exact contactVoltageSample_answers mV s
  | silenceTimerExpiry => exact silenceTimerExpiry_answers s
  | contactCurrentSample mA => exact contactCurrentSample_answers mA s
  | hailTimerExpiry => exact hailTimerExpiry_answers s
  | pollTimerExpiry => exact pollTimerExpiry_answers s
  | replyWindowExpiry => exact replyWindowExpiry_answers s
  | answerAccepted check => exact answerAccepted_answers check s
  | needAccepted check => exact needAccepted_answers check s
  | chargerReading readings => exact chargerReading_answers readings s
  | restartTimerExpiry => exact restartTimerExpiry_answers s
  | durationTimerExpiry => exact durationTimerExpiry_answers s
  | storeWriteComplete matched => exact storeWriteComplete_answers matched s
  | storeEraseComplete matched => exact storeEraseComplete_answers matched s
  | compactionStepComplete mismatch => exact compactionStepComplete_answers mismatch s
  | hostByteArrival byte => exact hostByteArrival_answers byte s
  | contactByteArrival byte => exact contactByteArrival_answers byte s
  | stickReplySent => exact stickReplySent_answers s

theorem shipWake_commands (source : WakeSource) (s : State) : ∃ t, execShipWake source s = .next t ∧ Commands s t := by
  unfold execShipWake
  split
  · exact ⟨_, rfl, (warmReset_kept _ s).settled⟩
  · exact ⟨s, rfl, .refl s⟩

/-- Every command but a power-on reset keeps the invariants, the straps, part time and the waiting commands. -/
theorem exec_commands (c : Instr) (s : State) (hc : Spec.isPowerOn c = false) : ∃ t, exec c s = .next t ∧ Commands s t := by
  cases hr : Spec.isReset c with
  | false =>
    obtain ⟨t, ht, hk, -⟩ := exec_answers c s hr
    exact ⟨t, ht, hk⟩
  | true =>
    cases c with
    | powerOnReset role cells => cases hc
    | pinReset => exact ⟨_, rfl, (warmReset_kept _ s).settled⟩
    | shipWake source => exact shipWake_commands source s
    | _ => cases hr

end Sys2Proof.Machine

/-! The steps, and the invariants that every step keeps. -/

namespace Sys2Proof.Machine

open Sys2Proof

/-! ### Power-on resets and idle steps -/

theorem Preserves.trans {s t u : State} (h : Preserves s t) (k : Preserves t u) : Preserves s u where
  store := k.store ∘ h.store
  link := k.link ∘ h.link
  ring := k.ring ∘ h.ring
  limits := k.limits ∘ h.limits
  duty hl hd := k.duty (h.limits hl) (h.duty hl hd)
  motor := k.motor ∘ h.motor
  charger := k.charger ∘ h.charger
  dirt := k.dirt ∘ h.dirt
  charge := k.charge ∘ h.charge
  balance := k.balance ∘ h.balance
  permissions := k.permissions ∘ h.permissions

/-- The blocks after a power-on reset meet every invariant, the store's memory by what stood before (R170, R171). -/
theorem powerOnBlocks_preserves (role : Role) (cells : BitVec 2) (s : State) :
    Preserves s (resetBlocks (Ctl.powerOn role cells) (Retained.cleared (strapInvalid role cells)) s.storeAtReset 0 s) where
  store h := abandonedMem_wf _ h
  link _ := ⟨Nat.zero_le _, Nat.zero_le _, Nat.zero_le _, Nat.zero_le _, fun h => by cases h⟩
  ring _ := ⟨Nat.zero_le _, rfl⟩
  limits _ := ⟨loadLimits_inRange _ none (fun k hk => by cases hk), fun k hk => by cases hk⟩
  duty _ _ := ⟨Nat.zero_le _, Nat.zero_le _, fun x hx => (by cases hx), fun _ => ⟨Nat.zero_le _, rfl, rfl⟩⟩
  motor _ := ⟨fun h => (by cases h), fun _ h => (by rcases h with h | h <;> cases h), fun h => (by cases h)⟩
  charger _ := ⟨Nat.zero_le _, fun _ => rfl, fun h => (by cases h)⟩
  dirt _ := ⟨Nat.zero_le _, fun x hx => (by cases hx), Nat.zero_le _, rfl⟩
  charge _ := by
    obtain ⟨hq, hlo, hhi⟩ := packAfterReset_bounded s.storeAtReset (Ctl.powerOn role cells)
      (loadLimits s.storeAtReset none) (Retained.cleared (strapInvalid role cells))
    exact ⟨hq, hlo, hhi, fun _ hcells => packAfterReset_strapped s.storeAtReset (Ctl.powerOn role cells) _ _ rfl rfl hcells⟩
  balance _ := ⟨Nat.zero_le _, fun _ => rfl⟩
  permissions _ := by
    exact ⟨⟨fun h => (by cases h), fun h => (by cases h.2.1)⟩, ⟨fun h => (by cases h), fun h => (by cases h.2.1)⟩⟩

theorem logStrap_kept (s : State) : Kept s (logStrap s) :=
  .ite (fun _ => appendFault_kept _ _ _ _ s) (fun _ => .refl s)

theorem powerOnReset_preserves (role : Role) (cells : BitVec 2) (s : State) :
    Preserves s (settle (powerOnReset role cells s)) ∧ (settle (powerOnReset role cells s)).pending = s.pending := by
  have settled := (logStrap_kept
    (resetBlocks (Ctl.powerOn role cells) (Retained.cleared (strapInvalid role cells)) s.storeAtReset 0 s)).settled
  exact ⟨(powerOnBlocks_preserves role cells s).trans settled.toPreserves, settled.pending⟩

theorem tick_preserves (s : State) : Preserves s (tick s) := by
  unfold tick
  split
  · exact .refl s
  · exact ⟨id, id, id, id, fun _ => id, id, id, id, id, id, id⟩

/-- Every command answers a next state, keeps every invariant, and lets the waiting commands stay. -/
theorem exec_preserves (c : Instr) (s : State) : ∃ t, exec c s = .next t ∧ Preserves s t ∧ t.pending = s.pending := by
  cases hc : Spec.isPowerOn c with
  | false =>
    obtain ⟨t, ht, hk⟩ := exec_commands c s hc
    exact ⟨t, ht, hk.toPreserves, hk.pending⟩
  | true =>
    cases c with
    | powerOnReset role cells => exact ⟨_, rfl, powerOnReset_preserves role cells s⟩
    | _ => cases hc

/-- Every step keeps every invariant. -/
theorem step_preserves {s t : State} (h : step s = .next t) : Preserves s t := by
  unfold step at h
  split at h
  · next c rest hq =>
    obtain ⟨u, hu, hk, -⟩ := exec_preserves c (s.withPending rest)
    rw [hu] at h
    cases h
    have queued : Preserves s (s.withPending rest) := ⟨id, id, id, id, fun _ => id, id, id, id, id, id, id⟩
    exact queued.trans hk
  · cases h
    exact tick_preserves s

/-! ### The settlements -/

/-- Settles O7: every operation on the store's memory is a write of bytes or an erase, which keep the canonical form. -/
theorem storeStaysCanonical : Obligations.StoreStaysCanonical := fun _ _ hs h => (step_preserves h).store hs

/-- Settles O8: a reply enters where there is room for it, and what follows an event enters SHIP or sends. -/
theorem linkStaysBounded : Obligations.LinkStaysBounded := fun _ _ hs h => (step_preserves h).link hs

/-- Settles O9: an entry takes the next sequence number and is placed last in a tail of the ring. -/
theorem ringStaysConsecutive : Obligations.RingStaysConsecutive := fun _ _ hs h => (step_preserves h).ring hs

/-- Settles O10: the duty step is clamped, the other entry duties are within every duty_max, and SET_LIMITS is denied below the
duty of a running motor. -/
theorem dutyStaysWithinMax : Obligations.DutyStaysWithinMax := fun _ _ hl hd h =>
  ⟨(step_preserves h).limits hl, (step_preserves h).duty hl hd⟩

/-- Settles O11: a start needs the permission, and the loss of the permission and the docking stop both drives. -/
theorem motorStaysPermitted : Obligations.MotorStaysPermitted := fun _ _ hs h => (step_preserves h).motor hs

/-- Settles O12: the stage is commanded off wherever the session leaves CHARGING and EVACUATING. -/
theorem chargerStaysBounded : Obligations.ChargerStaysBounded := fun _ _ hs h => (step_preserves h).charger hs

/-- Settles O13: the filter's step stays within 1,023 for raw readings of at most 255. -/
theorem dirtStaysBounded : Obligations.DirtStaysBounded := fun _ _ hs h => (step_preserves h).dirt hs

/-- The state of charge of a Q within the full charge is at most 1,000 permille. -/
theorem soc_le {q capacity : Nat} (hq : q ≤ capacity * 3600) : q * 1000 / (capacity * 3600) ≤ 1000 :=
  Nat.div_le_of_le_mul (Nat.mul_le_mul_right _ hq)

/-- Settles O14: Q is limited wherever it changes, and under an invalid strap no scan is due or in progress. -/
theorem chargeStaysBounded : Obligations.ChargeStaysBounded := by
  refine ⟨fun _ _ hs h => (step_preserves h).charge hs, fun s => ⟨fun h => by simp [State.soc, h], fun h => by simp [State.soc, h]⟩,
    fun s hs n hn => ?_⟩
  unfold State.soc at hn
  split at hn
  · cases hn
    exact soc_le hs.1
  · cases hn

/-- Settles O15: a selection takes three candidates, and every entry to a driving state empties the set. -/
theorem balanceStaysAllowed : Obligations.BalanceStaysAllowed := fun _ _ hs h => (step_preserves h).balance hs

/-- Settles O16: every change of a cause or of the lockout is followed by the evaluation of the permissions. -/
theorem permissionsStayTrue : Obligations.PermissionsStayTrue := fun _ _ hs h => (step_preserves h).permissions hs

/-- Settles O3: every command is an event or a reset, and none touches the queue. -/
theorem everyCommandAnswers : Obligations.EveryCommandAnswers := fun c s =>
  have ⟨t, ht, _, hpending⟩ := exec_preserves c s
  ⟨t, ht, hpending⟩

/-- Settles O4: no event occurs in SHIP, and the contacts wake a stick alone. -/
theorem shipIsQuiet : Obligations.ShipIsQuiet := by
  refine fun c s hship => ⟨fun hc => ?_, fun hdock => ?_⟩
  · obtain ⟨t, ht, -, hquiet⟩ := exec_answers c s hc
    rw [ht, hquiet hship]
  · simp [exec, execShipWake, State.wakes, State.isStick, hdock]

/-- Settles O5: no operation of an event writes the straps or part time. -/
theorem strapsAndPartTimeKept : Obligations.StrapsAndPartTimeKept := by
  intro c s t hc h
  obtain ⟨u, hu, hk⟩ := exec_commands c s hc
  rw [hu] at h
  cases h
  exact ⟨hk.role, hk.cells, hk.partTime⟩

/-- Settles O1: the step unfolded. -/
theorem stepTakesFront : Obligations.StepTakesFront := fun _ _ _ => rfl

/-- Settles O2: with an empty queue the step is `tick`. -/
theorem idleStepCountsTime : Obligations.IdleStepCountsTime := by
  intro s hq
  have hstep : step s = .next (tick s) := by simp [step, hq]
  exact ⟨fun hship => by rw [hstep, tick, if_pos hship], fun hawake => by rw [hstep, tick, if_neg hawake]⟩

/-- Settles O6: each bound of the reset state is evaluated. -/
theorem resetIsSafe : Obligations.ResetIsSafe where
  store := by decide
  link := by decide
  ring := by decide
  limits := ⟨by decide, fun k hk => by cases hk⟩
  duty := by decide
  motor := by decide
  charger := by decide
  dirt := by decide
  charge := by decide
  balance := by decide
  permissions := by decide

end Sys2Proof.Machine

/-! The common taking of a request by its stages (R159, R160), and the requests that only answer or set the link. -/

namespace Sys2Proof.Machine

open Sys2Proof

/-! ### The stages of a request taken from the head of the receive queue -/

/-- A request without a reset or a summary of its own, that reaches its own stage. -/
theorem request_acts {q : RequestSpec} {s : State} {kind : Byte} {p : List Byte} {rest : List HostFrame}
    (h : Spec.Heads s q.code kind p rest) (hs : q.alwaysSummary = false) (hr : q.resets = false)
    (hrole : q.accepts s.ctl.role = true) (hl : q.lengthOk p = true) (hc : q.canonical p = true) :
    request q s = .next (settle (Spec.reply kind (resultCode (q.act p (beginTaking rest s)).result)
      (q.act p (beginTaking rest s)).fields (q.act p (beginTaking rest s)).state)) := by
  rw [request_eq_specReply h hs hr, judge_act _ _ _ (by simpa using hrole) hl hc]

/-- The same, with what its own stage gives. -/
theorem request_acts_as {q : RequestSpec} {s : State} {kind : Byte} {p : List Byte} {rest : List HostFrame} {j : Judged}
    (h : Spec.Heads s q.code kind p rest) (hs : q.alwaysSummary = false) (hr : q.resets = false)
    (hrole : q.accepts s.ctl.role = true) (hl : q.lengthOk p = true) (hc : q.canonical p = true)
    (hj : q.act p (beginTaking rest s) = j) :
    request q s = .next (settle (Spec.reply kind (resultCode j.result) j.fields j.state)) := by
  rw [request_acts h hs hr hrole hl hc, hj]

theorem request_badLength {q : RequestSpec} {s : State} {kind : Byte} {p : List Byte} {rest : List HostFrame}
    (h : Spec.Heads s q.code kind p rest) (hs : q.alwaysSummary = false) (hr : q.resets = false)
    (hrole : q.accepts s.ctl.role = true) (hl : q.lengthOk p = false) :
    request q s = .next (settle (Spec.reply kind 0x12 [] (beginTaking rest s))) := by
  rw [request_eq_specReply h hs hr, judge_badLength _ _ _ (by simpa using hrole) hl]
  rfl

theorem judge_noncanonical (q : RequestSpec) (p : List Byte) (s : State) (hr : q.accepts s.ctl.role = true)
    (hl : q.lengthOk p = true) (hc : q.canonical p = false) : judge q p s = refuse .noncanonical s := by
  simp [judge, hr, hl, hc]

theorem request_noncanonical {q : RequestSpec} {s : State} {kind : Byte} {p : List Byte} {rest : List HostFrame}
    (h : Spec.Heads s q.code kind p rest) (hs : q.alwaysSummary = false) (hr : q.resets = false)
    (hrole : q.accepts s.ctl.role = true) (hl : q.lengthOk p = true) (hc : q.canonical p = false) :
    request q s = .next (settle (Spec.reply kind 0x13 [] (beginTaking rest s))) := by
  rw [request_eq_specReply h hs hr, judge_noncanonical _ _ _ (by simpa using hrole) hl hc]
  rfl

theorem judge_wrongRole (q : RequestSpec) (p : List Byte) (s : State) (hr : q.accepts s.ctl.role = false) :
    judge q p s = refuse .wrongRole s := by
  simp [judge, hr]

theorem request_wrongRole {q : RequestSpec} {s : State} {kind : Byte} {p : List Byte} {rest : List HostFrame}
    (h : Spec.Heads s q.code kind p rest) (hs : q.alwaysSummary = false) (hr : q.resets = false)
    (hrole : q.accepts s.ctl.role = false) :
    request q s = .next (settle (Spec.reply kind 0x15 [] (beginTaking rest s))) := by
  rw [request_eq_specReply h hs hr, judge_wrongRole _ _ _ (by simpa using hrole)]
  rfl

/-- A request accepted in STICK role alone, and one accepted in both roles. -/
theorem accepts_stick {q : RequestSpec} {r : Role} (h : r = .stick) (hq : q.inStick = true) : q.accepts r = true := by
  rw [h]; exact hq

theorem accepts_dock {q : RequestSpec} {r : Role} (h : r = .dock) (hq : q.inDock = true) : q.accepts r = true := by
  rw [h]; exact hq

theorem accepts_both {q : RequestSpec} (r : Role) (hs : q.inStick = true) (hd : q.inDock = true) :
    q.accepts r = true := by
  cases r
  · exact hs
  · exact hd

theorem lengthIs_of_ne {n : Nat} {p : List Byte} (h : p.length ≠ n) : lengthIs n p = false := decide_eq_false h

theorem lengthIs_of_eq {n : Nat} {p : List Byte} (h : p.length = n) : lengthIs n p = true := decide_eq_true h

/-! ### STATUS (R166) -/

/-- The reply of STATUS carries the summary whatever its kind asks for. -/
theorem replyTo_status (kind : Byte) (j : Judged) :
    replyTo statusSpec kind j
      = pushReply ⟨kind + 0x80, u8 (resultCode j.result) ++ j.state.summary ++ j.fields, false⟩ (clearSticky j.state) := by
  simp [replyTo, statusSpec]

/-- Settles O24: the reply is formed with the summary at every stage, and forming it clears the flags. -/
theorem statusCarriesSummary : Obligations.StatusCarriesSummary := by
  intro s kind rest p heads
  have taken : exec .status s = .next (settle (replyTo statusSpec kind (judge statusSpec p (beginTaking rest s)))) :=
    request_of_heads (q := statusSpec) heads
  have hrole : statusSpec.accepts (beginTaking rest s).ctl.role = true := accepts_both _ rfl rfl
  refine ⟨fun hp => ?_, fun hp => ?_⟩
  · rw [taken, replyTo_status, hp, judge_act _ _ _ hrole rfl rfl]
    simp [statusSpec, statusFields, boolByte, u8, resultCode, clearSticky]
  · rw [taken, replyTo_status, judge_badLength _ _ _ hrole (List.isEmpty_eq_false_iff.mpr hp)]
    simp [u8, resultCode, clearSticky]

/-! ### READ_FAULTS (R176) -/

theorem exec_readFaults (s : State) : exec .readFaults s = request readFaultsSpec s := rfl

theorem readFaultsSpec_act_returns {p : List Byte} (s : State) (hlo : 1 ≤ byteAt p 4) (hhi : byteAt p 4 ≤ 8) :
    readFaultsSpec.act p s = ⟨.ok, s, readFaultsFields s (BitVec.ofNat 32 (u32At p 0)) (byteAt p 4)⟩ :=
  if_neg (by omega)

theorem readFaultsSpec_act_outOfRange {p : List Byte} (s : State) (h : byteAt p 4 = 0 ∨ 8 < byteAt p 4) :
    readFaultsSpec.act p s = refuse .outOfRange s := if_pos h

/-- Settles O25, by the maximum and the length of the request. -/
theorem readFaultsReturns : Obligations.ReadFaultsReturns := by
  intro s kind rest p heads b found
  have hrole : readFaultsSpec.accepts s.ctl.role = true := accepts_both _ rfl rfl
  refine ⟨fun hl hlo hhi => ?_, fun hl hout => ?_, fun hl => ?_⟩
  · rw [exec_readFaults, request_acts_as (q := readFaultsSpec) heads rfl rfl hrole (lengthIs_of_eq hl) rfl
      (readFaultsSpec_act_returns _ hlo hhi)]
    rfl
  · rw [exec_readFaults, request_acts_as (q := readFaultsSpec) heads rfl rfl hrole (lengthIs_of_eq hl) rfl
      (readFaultsSpec_act_outOfRange _ hout)]
    rfl
  · rw [exec_readFaults, request_badLength (q := readFaultsSpec) heads rfl rfl hrole (lengthIs_of_ne hl)]

/-! ### SUBSCRIBE and SUPERVISE (R167, R168) -/

/-- A number limited to a range, by the bound it passes. -/
theorem clampNat_eq_ite {lo hi : Nat} (n : Nat) (h : lo ≤ hi) :
    clampNat lo hi n = if n < lo then lo else if hi < n then hi else n := by
  unfold clampNat
  split
  · omega
  · split <;> omega

theorem resultCode_okOrClamped (clamped : Bool) :
    resultCode (okOrClamped clamped) = if clamped then 0x02 else 0x00 := by
  cases clamped <;> rfl

theorem settings16_singleton (i : Nat) (p : List Byte) : settings16 [i] p = decide (u16At p i ≠ 0xFFFF) := by
  simp [settings16]

theorem superviseSpec_act_unlocked (p : List Byte) {s : State} (h : s.ctl.lock = none) :
    superviseSpec.act p s = ⟨okOrClamped (decide (clampNat 100 2000 (u16At p 0) ≠ u16At p 0)),
      setSupervision (clampNat 100 2000 (u16At p 0)) s, []⟩ := by
  simp [superviseSpec, h]

theorem superviseSpec_act_locked (p : List Byte) {s : State} (h : s.ctl.lock.isSome = true) :
    superviseSpec.act p s = refuse .locked s := by
  simp [superviseSpec, h]

theorem exec_subscribe (s : State) : exec .subscribe s = request subscribeSpec s := rfl

theorem exec_supervise (s : State) : exec .supervise s = request superviseSpec s := rfl

/-- Settles O26: SUBSCRIBE and SUPERVISE at their own stage, and their refusals before it. -/
theorem hostSettingsTakeEffect : Obligations.HostSettingsTakeEffect := by
  refine ⟨?subscribe, ?supervise, ?refused⟩
  case subscribe =>
    intro s kind rest p heads b
    have hrole : subscribeSpec.accepts s.ctl.role = true := accepts_both _ rfl rfl
    rw [exec_subscribe]
    refine ⟨fun m hp => ?_, fun hl => request_badLength (q := subscribeSpec) heads rfl rfl hrole (lengthIs_of_ne hl)⟩
    subst hp
    rw [request_acts (q := subscribeSpec) heads rfl rfl hrole rfl rfl]
    rfl
  case supervise =>
    intro s kind rest p heads hl hform b period timer
    have hrole : superviseSpec.accepts s.ctl.role = true := accepts_both _ rfl rfl
    have hcanonical : superviseSpec.canonical p = true := by
      simpa [superviseSpec, settings16_singleton] using hform
    have hlock : b.ctl.lock = s.ctl.lock := beginTaking_ctl_lock rest s
    refine ⟨fun hclear => ?_, fun hset => ?_⟩
    · have hperiod : clampNat 100 2000 (u16At p 0) = period := clampNat_eq_ite _ (by decide)
      rw [exec_supervise, request_acts_as (q := superviseSpec) heads rfl rfl hrole (lengthIs_of_eq hl) hcanonical
        (superviseSpec_act_unlocked p (hlock.trans hclear)), hperiod, resultCode_okOrClamped]
      by_cases heq : period = u16At p 0
      · rw [if_pos heq, if_neg (by simp [heq])]
        rfl
      · rw [if_neg heq, if_pos (by simp [heq])]
        rfl
    · rw [exec_supervise, request_acts_as (q := superviseSpec) heads rfl rfl hrole (lengthIs_of_eq hl) hcanonical
        (superviseSpec_act_locked p (hlock ▸ hset))]
      rfl
  case refused =>
    intro s kind rest p heads b
    have hrole : superviseSpec.accepts s.ctl.role = true := accepts_both _ rfl rfl
    rw [exec_supervise]
    refine ⟨fun hl => request_badLength (q := superviseSpec) heads rfl rfl hrole (lengthIs_of_ne hl), fun hp => ?_⟩
    subst hp
    exact request_noncanonical (q := superviseSpec) heads rfl rfl hrole rfl (by decide)

/-! ### Refusals (section 8.3) -/

/-- The kinds that fail the KIND stage (R159). -/
theorem knownKind_of_unassigned {kind : Byte}
    (h : kind = 0x00 ∨ kind = 0x40 ∨ 0x80 ≤ kind.toNat ∨ kind.toNat % 0x40 ∉ assignedCodes) : knownKind kind = false := by
  rcases h with rfl | rfl | hhigh | hcode
  · decide
  · decide
  · simp [knownKind, requestCode, Nat.not_lt.mpr hhigh]
  · unfold knownKind requestCode
    by_cases hlow : kind.toNat < 0x80
    · simpa [hlow] using hcode
    · simp [hlow]

/-- Settles O28, stage by stage. -/
theorem refusalsChangeNothing : Obligations.RefusalsChangeNothing := by
  refine ⟨?unknown, fun q p s => ⟨judge_wrongRole q p s, judge_badLength q p s, judge_noncanonical q p s⟩, ?dock, ?stick⟩
  case unknown =>
    intro s kind p rest hawake hlink hroom hq hkind
    have hoccurs : (s.canTake && s.headUnknown) = true := by
      simp [State.canTake, State.headUnknown, hlink, hroom, hq, knownKind_of_unassigned hkind]
    refine (event_occurs hoccurs hawake).trans ?_
    simp [takeUnknown, hq, u8, resultCode]
  case dock =>
    intro s kind p rest hdock
    have wrong : ∀ q : RequestSpec, q.inDock = false → q.accepts s.ctl.role = false := fun q hq => by
      rw [hdock]; exact hq
    exact ⟨fun heads => request_wrongRole (q := setSuctionSpec) heads rfl rfl (wrong _ rfl),
      fun heads => request_wrongRole (q := rollRestartSpec) heads rfl rfl (wrong _ rfl)⟩
  case stick =>
    intro s kind p rest hstick heads
    exact request_wrongRole (q := startEvacuationSpec) heads rfl rfl (by rw [hstick]; rfl)

/-! ### The status requests -/

/-- A request for a record, accepted in the part's role. -/
theorem statusRequest_answers {q : RequestSpec} {s : State} {kind : Byte} {rest : List HostFrame}
    {fields : State → List Byte} (heads : Spec.Heads s q.code kind [] rest) (hs : q.alwaysSummary = false)
    (hr : q.resets = false) (hrole : q.accepts s.ctl.role = true) (hl : q.lengthOk [] = true)
    (hc : q.canonical [] = true) (hact : ∀ u, q.act [] u = ⟨.ok, u, fields u⟩) :
    request q s = .next (settle (Spec.reply kind 0x00 (fields (beginTaking rest s)) (beginTaking rest s))) := by
  rw [request_acts_as heads hs hr hrole hl hc (hact _)]
  rfl

theorem exec_dockStatus (s : State) : exec .dockStatus s = request dockStatusSpec s := rfl

/-- Settles O31: each record is returned by a request of its own that changes nothing. -/
theorem statusRequestsAnswer : Obligations.StatusRequestsAnswer := by
  refine ⟨?records, ?dockStatus⟩
  case records =>
    intro c code roles fields s kind rest hc hrole heads
    cases c <;> simp only [Spec.statusRequest, reduceCtorEq, Option.some.injEq, Prod.mk.injEq] at hc
    all_goals obtain ⟨rfl, rfl, rfl⟩ := hc
    case identify => exact statusRequest_answers (q := identifySpec) heads rfl rfl (accepts_both _ rfl rfl) rfl rfl (fun _ => rfl)
    case driveStatus =>
      exact statusRequest_answers (q := driveStatusSpec) heads rfl rfl (accepts_both _ rfl rfl) rfl rfl (fun _ => rfl)
    case budgetStatus =>
      exact statusRequest_answers (q := budgetStatusSpec) heads rfl rfl (accepts_both _ rfl rfl) rfl rfl (fun _ => rfl)
    case packStatus =>
      exact statusRequest_answers (q := packStatusSpec) heads rfl rfl (accepts_stick (by simpa using hrole) rfl) rfl rfl (fun _ => rfl)
    case dirtStatus =>
      exact statusRequest_answers (q := dirtStatusSpec) heads rfl rfl (accepts_stick (by simpa using hrole) rfl) rfl rfl (fun _ => rfl)
    case attachmentStatus =>
      exact statusRequest_answers (q := attachmentStatusSpec) heads rfl rfl (accepts_stick (by simpa using hrole) rfl) rfl rfl
        (fun _ => rfl)
    case chargerStatus =>
      exact statusRequest_answers (q := chargerStatusSpec) heads rfl rfl (accepts_dock (by simpa using hrole) rfl) rfl rfl (fun _ => rfl)
    case storeStatus =>
      exact statusRequest_answers (q := storeStatusSpec) heads rfl rfl (accepts_both _ rfl rfl) rfl rfl (fun _ => rfl)
  case dockStatus =>
    intro s kind rest heads b
    rw [exec_dockStatus, request_acts (q := dockStatusSpec) heads rfl rfl (accepts_both _ rfl rfl) rfl rfl]
    have hdock : (beginTaking rest s).isDock = decide (s.ctl.role = .dock) := by simp [State.isDock]
    simp only [dockStatusSpec, plainRequest, hdock, decide_eq_true_eq, resultCode]
    rfl

end Sys2Proof.Machine

/-! The lengths of the status records (section 11.3). -/

namespace Sys2Proof.Machine

open Sys2Proof

/-! ### The lengths of the encoded fields (section 11.1) -/

@[simp] theorem u8_length (n : Nat) : (u8 n).length = 1 := rfl
@[simp] theorem u16_length (n : Nat) : (u16 n).length = 2 := rfl
@[simp] theorem u24_length (n : Nat) : (u24 n).length = 3 := rfl
@[simp] theorem u32_length (n : Nat) : (u32 n).length = 4 := rfl
@[simp] theorem s32_length (n : Int) : (s32 n).length = 4 := rfl
@[simp] theorem boolByte_length (b : Bool) : (boolByte b).length = 1 := rfl

@[simp] theorem opt8_length (n : Option Nat) : (opt8 n).length = 1 := by cases n <;> rfl
@[simp] theorem opt16_length (n : Option Nat) : (opt16 n).length = 2 := by cases n <;> rfl
@[simp] theorem opt32_length (n : Option Nat) : (opt32 n).length = 4 := by cases n <;> rfl
@[simp] theorem optMs_length (t : Option Ms) : (optMs t).length = 4 := opt32_length _

@[simp] theorem optSet_length (members : Nat) (free : Byte) (n : Option Nat) : (optSet members free n).length = 1 := by
  cases n <;> rfl

@[simp] theorem s16_length (r : Reading) : (s16 r).length = 2 := by
  unfold s16
  split <;> rfl

@[simp] theorem speedField_length (v : Option Nat) : (speedField v).length = 2 := s16_length _
@[simp] theorem dirtLevelField_length (l : Option DirtLevel) : (dirtLevelField l).length = 1 := opt8_length _
@[simp] theorem entryBytes_length (e : AttEntry) : (entryBytes e).length = 14 := rfl
@[simp] theorem evacBytes_length (e : EvacSettings) : (evacBytes e).length = 8 := rfl
@[simp] theorem powersBytes_length (p : ModePowers) : (powersBytes p).length = 8 := rfl
@[simp] theorem limitsBytes_length (l : Limits) : (limitsBytes l).length = 8 := rfl
@[simp] theorem dirtLevelsBytes_length (l : DirtLevels) : (dirtLevelsBytes l).length = 9 := rfl
@[simp] theorem needBytes_length (n : Need) : (needBytes n).length = 7 := rfl

/-- Fields of one length, one after another. -/
theorem flatMap_length_of_const {α : Type} {f : α → List Byte} {k : Nat} (h : ∀ x, (f x).length = k) (xs : List α) :
    (xs.flatMap f).length = k * xs.length := by
  induction xs with
  | nil => rfl
  | cons x xs ih =>
    rw [List.flatMap_cons, List.length_append, List.length_cons, h, ih, Nat.mul_succ]
    exact Nat.add_comm _ _

/-! ### Parts of the records -/

@[simp] theorem rowBytes_length (r : GrantRow) : (rowBytes r).length = 13 := by simp [rowBytes]

@[simp] theorem rollStatusFields_length (s : State) : (rollStatusFields s).length = 15 := by simp [rollStatusFields]

@[simp] theorem calibrationFields_length (k : Option FloorCal) : (calibrationFields k).length = 17 := by
  have hstaged := flatMap_length_of_const
    (f := fun i => opt16 (k.bind (fun k => k.staged[i]?))) (fun _ => opt16_length _) (List.range 7)
  simp only [calibrationFields, List.length_append, opt8_length, hstaged, List.length_range]

@[simp] theorem pollFields_length (free : Byte) (p : Option PollMsg) : (pollFields free p).length = 7 := by
  simp [pollFields]

@[simp] theorem needFields_length (s : State) (m : Option NeedMsg) : (needFields s m).length = 11 := by
  simp [needFields]

@[simp] theorem splitFields_length (x : Option Split) : (splitFields x).length = 22 := by simp [splitFields]

/-- The pack record with its cells, or with N absent ones before the first publication. -/
theorem recordBytesOf_length (n : Nat) (r : Option PackRecord)
    (h : n = ((r.map PackRecord.cells).getD (List.replicate n .absent)).length) :
    (recordBytesOf n r).length = 15 + 2 * n := by
  cases r with
  | none =>
    have hcells := flatMap_length_of_const (f := s16) s16_length (List.replicate (n + 5) Reading.absent)
    simp only [recordBytesOf, List.length_append, opt32_length, u8_length, hcells, List.length_replicate]
    omega
  | some r =>
    have hcells := flatMap_length_of_const (f := s16) s16_length r.cells
    simp only [Option.map_some, Option.getD_some] at h
    simp only [recordBytesOf, List.length_append, u32_length, u8_length, s16_length, hcells]
    omega

/-- The bytes of a store operation in flight: its kind, its segment and its tag. -/
theorem opBytes_length (s : State) : (storeStatusFields s).length = 21 := by
  have hsegments := flatMap_length_of_const (k := 4)
    (f := fun seg => opt16 (statusGeneration s.store seg) ++ u16 (usedBytes s.store seg)) (fun _ => by simp) [0, 1, 2, 3]
  unfold storeStatusFields
  simp only [List.length_append, hsegments, opt8_length, boolByte_length]
  split
  · split <;> simp
  · simp

/-- Settles O23: each record adds up from its fields. -/
theorem statusRecordLengths : Obligations.StatusRecordLengths := by
  intro s
  refine ⟨rfl, rfl, ?drive, ?budget, ?pack, ?dirt, ?attachment, ?stick, ?dock, ?charger, opBytes_length s⟩
  case drive =>
    have hring := flatMap_length_of_const (f := u24) u24_length s.drive.ring
    simp only [driveStatusFields, List.length_append, u8_length, u16_length, u32_length, s16_length, opt8_length,
      speedField_length, rollStatusFields_length, hring]
    omega
  case budget =>
    unfold budgetStatusFields
    simp only [List.length_append, rowBytes_length, u16_length, u32_length, s32_length, opt16_length,
      boolByte_length, opt32_length, powersBytes_length, limitsBytes_length]
  case pack =>
    intro hcells
    have hbalance := flatMap_length_of_const (f := u8) u8_length s.pack.balance
    simp only [packStatusFields, List.length_append, recordBytesOf_length _ _ hcells, u8_length, u16_length, u32_length,
      opt16_length, boolByte_length, needBytes_length, hbalance]
    omega
  case dirt =>
    intro hfloors
    have hfields := flatMap_length_of_const (f := opt16) opt16_length (s.debris.floors.drop 1)
    simp only [List.length_drop, hfloors] at hfields
    simp only [dirtStatusFields, List.length_append, u8_length, u16_length, u32_length, opt16_length, opt8_length,
      boolByte_length, dirtLevelField_length, dirtLevelsBytes_length, calibrationFields_length, speedField_length,
      opt32_length, hfields]
  case attachment =>
    intro hentries
    have hfields := flatMap_length_of_const (f := entryBytes) entryBytes_length s.att.entries
    rw [hentries] at hfields
    simp only [attachmentStatusFields, List.length_append, u8_length, opt8_length, s16_length, hfields]
  case stick => simp [stickStatusFields]
  case dock => simp [dockStatusFields]
  case charger =>
    unfold chargerStatusFields
    simp only [List.length_append, u8_length, u16_length, u32_length, opt16_length, s16_length,
      opt8_length, boolByte_length, splitFields_length, opt32_length, optMs_length]

end Sys2Proof.Machine

/-! What follows every event (sections 8.4, 8.6 and 9.3), the fault entry and the hand-over of a report. -/

namespace Sys2Proof.Machine

open Sys2Proof

/-! ### The transmitter (R161) -/

theorem startFrame_busy {s : State} {w : Sending} (h : s.host.tx = some w) : startFrame s = s := by
  simp [startFrame, h]

theorem startFrame_reply {s : State} {r : Reply} {rest : List Reply} (ht : s.host.tx = none)
    (hr : s.host.replies = r :: rest) :
    startFrame s =
      { s with host := { s.host with replies := rest, tx := some ⟨hostWire r.kind r.payload, r.resets⟩ } } := by
  simp [startFrame, ht, hr]

theorem startFrame_report {s : State} {r : Report} {rest : List Report} (ht : s.host.tx = none)
    (hr : s.host.replies = []) (hp : s.host.reports = r :: rest) :
    startFrame s = { s with host := { s.host with reports := rest, tx := some ⟨reportWire r, false⟩ } } := by
  simp [startFrame, ht, hr, hp]

theorem startFrame_none {s : State} (ht : s.host.tx = none) (hr : s.host.replies = []) (hp : s.host.reports = []) :
    startFrame s = s := by
  simp [startFrame, ht, hr, hp]

@[simp] theorem startFrame_supTimer (s : State) : (startFrame s).host.supTimer = s.host.supTimer := by
  unfold startFrame
  split <;> rfl

@[simp] theorem startFrame_rx (s : State) : (startFrame s).host.rx = s.host.rx := by
  unfold startFrame
  split <;> rfl

/-- A frame that waits is being sent once the event is over. -/
theorem startFrame_sends {s : State} (h : s.host.tx.isSome = true ∨ s.host.replies ≠ [] ∨ s.host.reports ≠ []) :
    (startFrame s).host.tx.isSome = true := by
  unfold startFrame
  split <;> simp_all

/-! ### The timers that follow a condition, and the entry to SHIP -/

@[simp] theorem followTimers_shipDecided (s : State) : (followTimers s).ctl.shipDecided = s.ctl.shipDecided := rfl
@[simp] theorem followTimers_power (s : State) : (followTimers s).ctl.power = s.ctl.power := rfl
@[simp] theorem followTimers_replies (s : State) : (followTimers s).host.replies = s.host.replies := rfl
@[simp] theorem followTimers_reports (s : State) : (followTimers s).host.reports = s.host.reports := rfl
@[simp] theorem followTimers_tx (s : State) : (followTimers s).host.tx = s.host.tx := rfl
@[simp] theorem followTimers_rx (s : State) : (followTimers s).host.rx = s.host.rx := rfl

/-- While no SHIP decision stands, nothing but the timers and the transmitter follows an event. -/
theorem settle_of_link {s : State} (h : s.ctl.shipDecided = false) : settle s = startFrame (followTimers s) := by
  simp [settle, enterShipIfDrained, h]

/-- A frame being sent keeps the part out of SHIP. -/
theorem settle_of_sending {s : State} (h : s.host.tx.isSome = true ∨ s.host.replies ≠ [] ∨ s.host.reports ≠ []) :
    settle s = startFrame (followTimers s) := by
  have hsends : (startFrame (followTimers s)).host.tx.isSome = true := startFrame_sends h
  obtain ⟨w, hw⟩ := Option.isSome_iff_exists.mp hsends
  simp [settle, enterShipIfDrained, hw]

@[simp] theorem follow_isSome (condition : Bool) (timer : Option Ms) (start : Ms) :
    (follow condition timer start).isSome = condition := by
  cases condition <;> rfl

theorem follow_runs {condition : Bool} (timer : Option Ms) (start : Ms) (h : condition = true) :
    follow condition timer start = some (timer.getD start) := by
  rw [h]; rfl

theorem follow_stopped {condition : Bool} (timer : Option Ms) (start : Ms) (h : condition = false) :
    follow condition timer start = none := by
  rw [h]; rfl

theorem Gov.follow_runs {runs : Bool} (start : Ms) (g : Gov) (h : runs = true) :
    g.follow runs start = { g with timer := some (g.timer.getD start) } := by
  rw [h]; rfl

theorem Gov.follow_stopped {runs : Bool} (start : Ms) (g : Gov) (h : runs = false) : g.follow runs start = g.stopped := by
  rw [h]; rfl

@[simp] theorem Gov.follow_timer_isSome (runs : Bool) (start : Ms) (g : Gov) :
    (g.follow runs start).timer.isSome = runs := by
  cases runs <;> rfl

/-- A SHIP decision has stopped the supervision timer and the standby timer. -/
theorem followed_shipDecided {s : State} (h : s.ctl.shipDecided = true) : s.supervised = false ∧ s.standbyRuns = false := by
  simp [State.supervised, State.standbyRuns, h]

/-- With the SHIP decision made and no frame left, the event ends in SHIP (R175). -/
theorem settle_enters_ship {s : State} (h : s.ctl.shipDecided = true) (ht : s.host.tx = none) (hr : s.host.replies = [])
    (hp : s.host.reports = []) :
    settle s = { s with
      ctl := { s.ctl with power := .ship, shipDecided := false, standbyTimer := none },
      host := { s.host with rx := none, rxGap := none, supTimer := none }, gov := s.gov.stopped,
      att := { s.att with sampleTimer := none }, pack := { s.pack with balance := [] }, contact := Contact.atReset } := by
  obtain ⟨hsup, hstandby⟩ := followed_shipDecided h
  have hstart : startFrame (followTimers s) = followTimers s := startFrame_none ht hr hp
  rw [settle, hstart, enterShipIfDrained, followTimers, hsup, hstandby]
  cases hg : s.govRuns <;> simp [h, ht, hr, hp, follow, Gov.follow, Gov.stopped]

/-- An event that enters no SHIP leaves every block but the mode controller, the link and the followed timers. -/
theorem sameBlocks_startFrame (s : State) : Spec.SameBlocks s (startFrame (followTimers s)) := by
  constructor <;> simp

/-- Settles O19, from the transmitter's cases and the timers' conditions. -/
theorem eventIsFollowedUp : Obligations.EventIsFollowedUp := by
  refine ⟨fun s hlink => ?linked, fun s hship => ⟨fun hsends => ?sending, fun ht hr hp => ?drained⟩,
    fun s w hawake htx => ?sent⟩
  case linked =>
    rw [settle_of_link hlink]
    refine ⟨fun r rest ht hr => ?_, fun r rest ht hr hp => ?_, fun w ht => ?_, ?_, fun d hd hc => ?_, fun d hd hc => ?_,
      fun d hd hc => ?_, fun d hd hc => ?_, fun hd hc => ?_, fun hd hc => ?_, fun hd hc => ?_, fun hd hc => ?_,
      fun hc => ?_, fun hc => ?_, by simp, sameBlocks_startFrame s⟩
    · rw [startFrame_reply (s := followTimers s) ht hr]
      exact ⟨rfl, rfl, rfl⟩
    · rw [startFrame_report (s := followTimers s) ht hr hp]
      exact ⟨rfl, hr, rfl⟩
    · rw [startFrame_busy (s := followTimers s) ht]
      exact ⟨ht, rfl, rfl⟩
    all_goals simp only [startFrame_ctl, startFrame_gov, startFrame_att, startFrame_supTimer, followTimers]
    · simp
    · rw [follow_runs _ _ hc, hd, Option.getD_some]
    · rw [Gov.follow_runs _ _ hc, hd, Option.getD_some]
    · rw [follow_runs _ _ hc, hd, Option.getD_some]
    · rw [follow_runs _ _ hc, hd, Option.getD_some]
    · rw [follow_runs _ _ hc, hd]; rfl
    · rw [Gov.follow_runs _ _ hc, hd]; rfl
    · rw [follow_runs _ _ hc, hd]; rfl
    · rw [follow_runs _ _ hc, hd]; rfl
    · rw [Gov.follow_runs _ _ hc]
      exact ⟨rfl, rfl, rfl⟩
    · rw [Gov.follow_stopped _ _ hc]
      exact ⟨rfl, rfl, rfl⟩
  case sending =>
    rw [settle_of_sending hsends]
    exact ⟨by simp, by simpa using hship, startFrame_sends hsends, sameBlocks_startFrame s⟩
  case drained =>
    rw [settle_enters_ship hship ht hr hp]
    exact ⟨rfl, rfl, rfl, rfl, rfl, rfl, ⟨rfl, rfl, rfl, rfl, rfl, rfl, rfl, rfl, rfl, rfl, rfl, rfl, rfl, rfl⟩⟩
  case sent =>
    have hdone : transmitDone s = { s with host := { s.host with tx := none } } := by simp [transmitDone, htx, frameSentOut]
    rw [← hdone]
    exact event_occurs (by rw [htx]; rfl) hawake

/-! ### What an event leaves apart from reports and replies -/

/-- Two states agree but for the frames that wait in the reply and report queues and the flags that no statement of an
effect speaks of: what handing over reports and replies does. -/
structure Reported (u v : State) : Prop where
  state : v = { u with host := v.host }
  rxq : v.host.rxq = u.host.rxq
  mask : v.host.mask = u.host.mask
  supPeriod : v.host.supPeriod = u.host.supPeriod
  errors : v.host.errors = u.host.errors
  linkError : v.host.linkError = u.host.linkError
  faultNew : v.host.faultNew = u.host.faultNew

theorem Reported.refl (u : State) : Reported u u := ⟨rfl, rfl, rfl, rfl, rfl, rfl, rfl⟩

theorem Reported.trans {u v w : State} (h : Reported u v) (k : Reported v w) : Reported u w where
  state := by rw [k.state, h.state]
  rxq := k.rxq.trans h.rxq
  mask := k.mask.trans h.mask
  supPeriod := k.supPeriod.trans h.supPeriod
  errors := k.errors.trans h.errors
  linkError := k.linkError.trans h.linkError
  faultNew := k.faultNew.trans h.faultNew

theorem Reported.ite {c : Prop} [Decidable c] {u v w : State} (h : Reported u v) (k : Reported u w) :
    Reported u (if c then v else w) := by
  split
  · exact h
  · exact k

theorem handReport_reported (r : Report) (u : State) : Reported u (handReport r u) where
  state := by rcases handReport_cases r u with h | ⟨-, h⟩ | ⟨-, h⟩ <;> rw [h]
  rxq := by simp
  mask := by simp
  supPeriod := by simp
  errors := by simp
  linkError := by simp
  faultNew := by simp

/-- What follows an event leaves a state as it was, apart from the queued frames, the followed timers and the outputs. -/
theorem settle_leavesAs (u : State) : Spec.LeavesAs u (settle u) where
  blocks := by constructor <;> simp
  pack := by
    rcases settle_outputs u with ⟨hp, -⟩ | ⟨hs, hp, -⟩
    · exact .inl hp
    · exact .inr ⟨hs, hp⟩
  contact := by
    rcases settle_outputs u with ⟨-, hc⟩ | ⟨hs, -, hc⟩
    · exact .inl hc
    · exact .inr ⟨hs, hc⟩
  gov := by
    unfold settle enterShipIfDrained
    split <;> simp only [startFrame_gov, followTimers] <;> cases u.govRuns <;> rfl
  samples := settle_samples u
  att := by
    unfold settle enterShipIfDrained
    split <;> simp [followTimers]
  ctl := by
    unfold settle enterShipIfDrained
    split <;> simp [followTimers]
  link := by simp

/-- Reports and replies handed over before the event is followed up make no difference that the words speak of. -/
theorem leavesAs_settle {u v : State} (h : Reported u v) : Spec.LeavesAs u (settle v) := by
  obtain ⟨hstate, hrxq, hmask, hperiod, herrors, hlink, hnew⟩ := h
  have hv := settle_leavesAs v
  generalize settle v = t at hv
  generalize v.host = l at hstate
  subst hstate
  obtain ⟨blocks, pack, contact, gov, samples, att, ctl, link⟩ := hv
  obtain ⟨rxq, mask, supPeriod, errors, linkError, faultNew⟩ := link
  exact ⟨⟨blocks.drive, blocks.pack, blocks.prot, blocks.debris, blocks.roll, blocks.contact, blocks.stick, blocks.dock,
      blocks.evacSet, blocks.charger, blocks.evac, blocks.store, blocks.freeCount, blocks.pending⟩, pack, contact, gov,
    samples, att, ctl, rxq.trans hrxq, mask.trans hmask, supPeriod.trans hperiod, errors.trans herrors,
    linkError.trans hlink, faultNew.trans hnew⟩

end Sys2Proof.Machine

/-! The fault entry, the host link's receiver and its supervision (sections 8.2, 8.4, 8.6 and 9.1). -/

namespace Sys2Proof.Machine

open Sys2Proof

/-! ### The fault entry and the hand-over of a report (R162, R169) -/

/-- The entry that a block hands over (R169). -/
def faultEntry (src : FaultSource) (code : FaultCode) (v : Reading) (w : Option Reading) (s : State) : FaultEntry :=
  ⟨s.ctl.nextSeq, s.ctl.partTime, src, code, v.fit16, w.map Reading.fit16⟩

theorem appendFault_ring_eq (src : FaultSource) (code : FaultCode) (v : Reading) (w : Option Reading) (s : State) :
    (appendFault src code v w s).ctl.ring = ringAppend s.ctl.ring (faultEntry src code v w s) :=
  appendFault_ring src code v w s

theorem appendFault_reports {src : FaultSource} {code : FaultCode} {v : Reading} {w : Option Reading} {s : State}
    (hm : s.host.mask.getLsbD 5 = true) (hr : s.host.reports.length < 8) :
    (appendFault src code v w s).host.reports = s.host.reports ++ [.fault (faultEntry src code v w s)] := by
  simp [appendFault, handReport, reportType, hm, hr, faultEntry, State.now]

theorem appendFault_logs (src : FaultSource) (code : FaultCode) (v : Reading) (w : Option Reading) (s : State) :
    (appendFault src code v w s).ctl.ring.getLast? = some (faultEntry src code v w s) := by
  rw [appendFault_ring_eq]
  exact ringAppend_getLast _ _

theorem Reading.fit16_num {n : Int} (hlo : -32766 ≤ n) (hhi : n ≤ 32766) : (Reading.num n).fit16 = .num n := by
  simp [Reading.fit16, Int.not_lt.mpr hhi, Int.not_lt.mpr hlo]

theorem Reading.fit16_above {n : Int} (h : 32766 < n) : (Reading.num n).fit16 = .above := by
  simp [Reading.fit16, h]

theorem Reading.fit16_below {n : Int} (h : n < -32766) : (Reading.num n).fit16 = .below := by
  have hle : ¬ 32766 < n := by omega
  simp [Reading.fit16, h, hle]

/-- Settles O20. -/
theorem faultEntryIsAppended : Obligations.FaultEntryIsAppended := by
  refine ⟨fun src code v w s t hlen ht => ?entry, fun r s => ⟨?discarded, ?queued, ?dropped⟩⟩
  case entry =>
    subst ht
    refine ⟨⟨faultEntry src code v w s, rfl, rfl, rfl, rfl, rfl, rfl, ?_, ?_, ?_, ?_, ?_, ?_, ?_⟩, by simp, by simp,
      by simp, by simp, by simp, by simp, ?_⟩
    · rintro n rfl hlo hhi
      exact Reading.fit16_num hlo hhi
    · rintro n rfl h
      exact Reading.fit16_above h
    · rintro n rfl h
      exact Reading.fit16_below h
    · rintro (rfl | rfl | rfl) <;> rfl
    · intro h
      rw [appendFault_ring_eq, ringAppend, if_pos h]
    · intro h
      simp [appendFault_ring_eq, ringAppend, h, -appendFault_ring]
    · exact appendFault_reports
    · constructor <;> simp
  case discarded => exact handReport_discarded r s
  case queued => exact handReport_queued r s
  case dropped =>
    intro hm hr
    simp [handReport, hm, Nat.not_lt.mpr hr]

/-! ### The receiver (R157, R158) -/

theorem hostCompletes_frame {s : State} {len check : Byte} {body : List Byte} (hrx : s.host.rx = some (len :: body))
    (hlen : body.length + 2 = len.toNat + 3) : s.hostCompletes check = some (len :: body ++ [check]) := by
  have hbyte : byteAt (len :: body ++ [check]) 0 = len.toNat := rfl
  have hcomplete : hostComplete (len :: body ++ [check]) = true := by
    simp only [hostComplete, hbyte, List.length_append, List.length_cons, List.length_nil]
    simp
    omega
  simp only [State.hostCompletes, hrx, hcomplete, if_true]

/-- The last check byte of a frame judges the frame. -/
theorem exec_hostFrameArrival {s : State} {len check : Byte} {body : List Byte} (hawake : s.ctl.power ≠ .ship)
    (hrx : s.host.rx = some (len :: body)) (hlen : body.length + 2 = len.toNat + 3) :
    exec (.hostFrameArrival check) s = .next (settle (hostFrameEnds (len :: body ++ [check]) s)) := by
  have hframe := hostCompletes_frame (check := check) hrx hlen
  show execHostFrameArrival check s = _
  rw [execHostFrameArrival, event_occurs (by rw [hframe]; rfl) hawake, hframe]

/-- A byte on RXD outside SHIP. -/
theorem exec_hostByteArrival {s : State} (b : Byte) (hawake : s.ctl.power ≠ .ship) :
    exec (.hostByteArrival b) s = .next (settle (hostByte b s)) :=
  event_occurs rfl hawake

/-- A byte that completes a frame judges it too (log 34). -/
theorem hostByte_completes {s : State} {len check : Byte} {body : List Byte} (hrx : s.host.rx = some (len :: body))
    (hlen : body.length + 2 = len.toNat + 3) :
    hostByte check s = hostFrameEnds (len :: body ++ [check]) s := by
  have hbyte : byteAt (len :: body ++ [check]) 0 = len.toNat := rfl
  have hcomplete : hostComplete (len :: body ++ [check]) = true := by
    simp only [hostComplete, hbyte, List.length_append, List.length_cons, List.length_nil]
    simp
    omega
  simp only [hostByte, hrx, hcomplete, if_true]

/-- A byte within a frame is kept. -/
theorem hostByte_continues {s : State} {len b : Byte} {body : List Byte} (hrx : s.host.rx = some (len :: body))
    (hlen : body.length + 2 < len.toNat + 3) : hostByte b s = assemble (len :: body ++ [b]) s := by
  have hbyte : byteAt (len :: body ++ [b]) 0 = len.toNat := rfl
  have hcomplete : hostComplete (len :: body ++ [b]) = false := by
    simp only [hostComplete, hbyte, List.length_append, List.length_cons, List.length_nil]
    simp
    omega
  simp only [hostByte, hrx, hcomplete, Bool.false_eq_true, if_false]

theorem hostFrameEnds_right {bytes : List Byte} (s : State) (h : checkRight bytes = true) :
    hostFrameEnds bytes s = queueFrame (frameOf bytes) (restartSupervision (huntAgain s)) := by
  simp [hostFrameEnds, h]

theorem hostFrameEnds_wrong {bytes : List Byte} (s : State) (h : checkRight bytes = false) :
    hostFrameEnds bytes s = badCheck (huntAgain s) := by
  simp [hostFrameEnds, h]

theorem queueFrame_room {f : HostFrame} {s : State} (hd : s.ctl.shipDecided = false) (hr : s.host.rxq.length < 4) :
    queueFrame f s = { s with host := { s.host with rxq := s.host.rxq ++ [f] } } := by
  simp [queueFrame, hd, hr]

theorem queueFrame_full {f : HostFrame} {s : State} (hd : s.ctl.shipDecided = false) (hr : 4 ≤ s.host.rxq.length) :
    queueFrame f s = linkError s := by
  simp [queueFrame, hd, Nat.not_lt.mpr hr]

/-- Settles O30. -/
theorem hostReceiverJudges : Obligations.HostReceiverJudges := by
  refine ⟨fun s bytes len hawake => ⟨fun hrx => ?gap, fun hrx => ?framing, fun hrx hlen => ?length⟩,
    fun s len check body hawake hlink hrx hlen => ?frame⟩
  case gap => exact event_occurs (by rw [hrx]; rfl) hawake
  case framing =>
    show execHostRxFramingError s = _
    rw [execHostRxFramingError, event_occurs (by rw [hrx]; rfl) hawake]
    rfl
  case length =>
    have hinvalid : lenInvalid len = true := by simpa [lenInvalid] using hlen
    have hoccurs : (decide (s.host.rx = some []) && lenInvalid len) = true := by simp [hrx, hinvalid]
    show execHostRxLenInvalid len s = _
    rw [execHostRxLenInvalid, event_occurs hoccurs hawake]
    rfl
  case frame =>
    have hframe := exec_hostFrameArrival (check := check) hawake hrx hlen
    refine ⟨fun hright hroom => ?_, fun hright hfull => ?_, fun hwrong => ?_, ?_⟩
    · have hcheck : checkRight (len :: body ++ [check]) = true := decide_eq_true hright
      rw [hframe, hostFrameEnds_right _ hcheck, queueFrame_room (s := restartSupervision (huntAgain s)) hlink hroom]
      rfl
    · have hcheck : checkRight (len :: body ++ [check]) = true := decide_eq_true hright
      rw [hframe, hostFrameEnds_right _ hcheck, queueFrame_full (s := restartSupervision (huntAgain s)) hlink hfull]
      rfl
    · have hcheck : checkRight (len :: body ++ [check]) = false := decide_eq_false hwrong
      rw [hframe, hostFrameEnds_wrong _ hcheck]
      rfl
    · rw [hframe, exec_hostByteArrival _ hawake, hostByte_completes hrx hlen]

/-! ### A frame sent byte by byte (R157, R158) -/

/-- The receiver has taken the bytes of a frame in progress, and nothing else has changed that a frame would change. -/
structure Hearing (s t : State) (got : List Byte) : Prop where
  rx : t.host.rx = some got
  awake : t.ctl.power ≠ .ship
  link : t.ctl.shipDecided = false
  rxq : t.host.rxq = s.host.rxq
  errors : t.host.errors = s.host.errors
  linkError : t.host.linkError = s.host.linkError
  blocks : Spec.SameBlocks s t

theorem sameBlocks_refl (s : State) : Spec.SameBlocks s s :=
  ⟨rfl, rfl, rfl, rfl, rfl, rfl, rfl, rfl, rfl, rfl, rfl, rfl, rfl, rfl⟩

theorem sameBlocks_trans {s t u : State} (h : Spec.SameBlocks s t) (k : Spec.SameBlocks t u) :
    Spec.SameBlocks s u where
  drive := k.drive.trans h.drive
  pack := k.pack.trans h.pack
  prot := k.prot.trans h.prot
  debris := k.debris.trans h.debris
  roll := k.roll.trans h.roll
  contact := k.contact.trans h.contact
  stick := k.stick.trans h.stick
  dock := k.dock.trans h.dock
  evacSet := k.evacSet.trans h.evacSet
  charger := k.charger.trans h.charger
  evac := k.evac.trans h.evac
  store := k.store.trans h.store
  freeCount := k.freeCount.trans h.freeCount
  pending := k.pending.trans h.pending

/-- With no SHIP decision, an event's follow-up keeps every block. -/
theorem sameBlocks_settle {s : State} (h : s.ctl.shipDecided = false) : Spec.SameBlocks s (settle s) := by
  rw [settle_of_link h]
  exact sameBlocks_startFrame s

/-- The blocks of a state whose link alone was written. -/
theorem sameBlocks_setHost (s : State) (l : HostLink) : Spec.SameBlocks s { s with host := l } :=
  ⟨rfl, rfl, rfl, rfl, rfl, rfl, rfl, rfl, rfl, rfl, rfl, rfl, rfl, rfl⟩

/-- A byte that the receiver keeps. -/
theorem Hearing.settled {s t : State} {got : List Byte} (hawake : t.ctl.power ≠ .ship) (hlink : t.ctl.shipDecided = false)
    (hrxq : t.host.rxq = s.host.rxq) (herrors : t.host.errors = s.host.errors)
    (herror : t.host.linkError = s.host.linkError) (hblocks : Spec.SameBlocks s t) :
    Hearing s (settle (assemble got t)) got where
  rx := by rw [settle_of_link (s := assemble got t) hlink]; simp [assemble]
  awake := by rw [settle_of_link (s := assemble got t) hlink]; simpa [assemble] using hawake
  link := by rw [settle_of_link (s := assemble got t) hlink]; simpa [assemble] using hlink
  rxq := by simpa [assemble] using hrxq
  errors := by simpa [assemble] using herrors
  linkError := by simpa [assemble] using herror
  blocks := sameBlocks_trans hblocks
    (sameBlocks_trans (sameBlocks_setHost t _) (sameBlocks_settle (s := assemble got t) hlink))

theorem runs_cons {c : Instr} {s t : State} {rest : List Instr} (h : exec c s = .next t) :
    Spec.runs (c :: rest) s = Spec.runs rest t := by
  simp [Spec.runs, h]

/-- The start byte and LEN of a frame. -/
theorem runs_frameStart {s : State} {len : Byte} (hrx : s.host.rx = none) (hawake : s.ctl.power ≠ .ship)
    (hlink : s.ctl.shipDecided = false) (hlen : lenInvalid len = false) (rest : List Instr) :
    ∃ t, Spec.runs (.hostByteArrival 0xA5 :: .hostByteArrival len :: rest) s = Spec.runs rest t ∧ Hearing s t [len] := by
  have hstart : exec (.hostByteArrival 0xA5) s = .next (settle (assemble [] s)) := by
    rw [exec_hostByteArrival _ hawake]
    simp [hostByte, hrx]
  have h1 : Hearing s (settle (assemble [] s)) [] := .settled hawake hlink rfl rfl rfl (sameBlocks_refl s)
  generalize settle (assemble [] s) = t at hstart h1
  have hsecond : exec (.hostByteArrival len) t = .next (settle (assemble [len] t)) := by
    rw [exec_hostByteArrival _ h1.awake]
    simp [hostByte, h1.rx, hlen]
  exact ⟨_, (runs_cons hstart).trans (runs_cons hsecond),
    .settled h1.awake h1.link h1.rxq h1.errors h1.linkError h1.blocks⟩

/-- The bytes of a frame after its LEN, as long as one is missing. -/
theorem runs_frameBytes {s : State} {len : Byte} (bytes : List Byte) (rest : List Instr) :
    ∀ (got : List Byte) (t : State), Hearing s t (len :: got) → got.length + bytes.length + 1 < len.toNat + 3 →
      ∃ u, Spec.runs (bytes.map Instr.hostByteArrival ++ rest) t = Spec.runs rest u ∧
        Hearing s u (len :: got ++ bytes) := by
  induction bytes with
  | nil => exact fun got t ht _ => ⟨t, rfl, by simpa using ht⟩
  | cons b bytes ih =>
    intro got t ht hlen
    simp only [List.length_cons] at hlen
    have hbyte : exec (.hostByteArrival b) t = .next (settle (assemble (len :: got ++ [b]) t)) := by
      rw [exec_hostByteArrival _ ht.awake, hostByte_continues ht.rx (by omega)]
    have hnext : Hearing s (settle (assemble (len :: got ++ [b]) t)) (len :: got ++ [b]) :=
      .settled ht.awake ht.link ht.rxq ht.errors ht.linkError ht.blocks
    obtain ⟨u, hu, hheard⟩ := ih (got ++ [b]) _ hnext (by simp; omega)
    exact ⟨u, (runs_cons hbyte).trans hu, by simpa using hheard⟩

/-- LEN of a payload of up to 128 bytes counts it and its KIND. -/
theorem len_toNat {n : Nat} (h : n ≤ 128) : (BitVec.ofNat 8 (n + 1)).toNat = n + 1 := by
  rw [BitVec.toNat_ofNat]
  omega

theorem u16At_u16 (before : List Byte) (n : Nat) (hn : n < 65536) : u16At (before ++ u16 n) before.length = n := by
  have hlow : byteAt (before ++ u16 n) before.length = n % 256 := by simp [byteAt, u16]
  have hhigh : byteAt (before ++ u16 n) (before.length + 1) = n / 256 := by
    simp [byteAt, u16]
    omega
  rw [u16At, hlow, hhigh]
  omega

/-- The frame that the receiver reads back, for the bytes of a frame with their check. -/
theorem frame_readBack (kind : Byte) (payload : List Byte) (h : payload.length ≤ 128) :
    let body := BitVec.ofNat 8 (payload.length + 1) :: kind :: payload
    checkRight (body ++ u16 (crc16 body).toNat) = true ∧ frameOf (body ++ u16 (crc16 body).toNat) = ⟨kind, payload⟩ := by
  intro body
  have hbody : body.length = payload.length + 2 := rfl
  have hlen : byteAt (body ++ u16 (crc16 body).toNat) 0 + 1 = body.length := by
    rw [hbody]
    show (BitVec.ofNat 8 (payload.length + 1)).toNat + 1 = _
    rw [len_toNat h]
  have hchecked : checkedBytes (body ++ u16 (crc16 body).toNat) = body := by
    rw [checkedBytes, hlen]
    exact List.take_left
  constructor
  · rw [checkRight, hchecked, hlen, u16At_u16 _ _ (crc16 body).isLt]
    exact decide_eq_true rfl
  · rw [frameOf, hchecked]
    rfl

/-- The last byte of a frame that reads back right puts the request at the end of the queue. -/
theorem runs_frameEnd {s t : State} {len check : Byte} {got : List Byte} (ht : Hearing s t (len :: got))
    (hlen : got.length + 2 = len.toNat + 3) (hright : checkRight (len :: got ++ [check]) = true)
    (hroom : s.host.rxq.length < 4) :
    ∃ u, Spec.runs [.hostByteArrival check] t = some u ∧
      u.host.rxq = s.host.rxq ++ [frameOf (len :: got ++ [check])] ∧ u.host.rx = none ∧
      u.host.errors = s.host.errors ∧ u.host.linkError = s.host.linkError ∧ Spec.SameBlocks s u := by
  have hends : exec (.hostByteArrival check) t = .next (settle (queueFrame (frameOf (len :: got ++ [check]))
      (restartSupervision (huntAgain t)))) := by
    rw [exec_hostByteArrival _ ht.awake, hostByte_completes ht.rx hlen, hostFrameEnds_right _ hright]
  rw [queueFrame_room (s := restartSupervision (huntAgain t)) ht.link (ht.rxq ▸ hroom)] at hends
  refine ⟨_, runs_cons hends, ?_, ?_, ?_, ?_, ?_⟩
  · simp [restartSupervision, huntAgain, ht.rxq]
  · rw [settle_of_link]
    · simp [restartSupervision, huntAgain]
    · exact ht.link
  · simpa [restartSupervision, huntAgain] using ht.errors
  · simpa [restartSupervision, huntAgain] using ht.linkError
  · exact sameBlocks_trans ht.blocks (sameBlocks_trans (sameBlocks_setHost t _) (sameBlocks_settle ht.link))

/-- Settles O21: the start byte and LEN open the frame, the bytes up to the last are kept, and the last one makes the
request. -/
theorem hostFrameRoundTrip : Obligations.HostFrameRoundTrip := by
  intro kind payload s hpayload hrx hawake hlink hroom
  obtain ⟨hright, hframe⟩ := frame_readBack kind payload hpayload
  have hlen := len_toNat hpayload
  generalize hL : BitVec.ofNat 8 (payload.length + 1) = len at hright hframe hlen
  have hvalid : lenInvalid len = false := by
    have hzero : ¬ len = 0#8 := fun h => by rw [h] at hlen; simp at hlen
    have hle : ¬ 129 < len.toNat := by omega
    simp [lenInvalid, hzero, hle]
  generalize hcrc : (crc16 (len :: kind :: payload)).toNat = crc at hright hframe
  have hwire : (hostWire kind payload).map Instr.hostByteArrival =
      .hostByteArrival 0xA5 :: .hostByteArrival len ::
        ((kind :: payload ++ [BitVec.ofNat 8 crc]).map Instr.hostByteArrival
          ++ [.hostByteArrival (BitVec.ofNat 8 (crc / 256))]) := by
    simp [hostWire, hL, u16, hcrc]
  have hbytes : len :: (kind :: payload ++ [BitVec.ofNat 8 crc]) ++ [BitVec.ofNat 8 (crc / 256)]
      = len :: kind :: payload ++ u16 crc := by simp [u16]
  obtain ⟨t, ht, hstart⟩ := runs_frameStart hrx hawake hlink hvalid
    ((kind :: payload ++ [BitVec.ofNat 8 crc]).map Instr.hostByteArrival
      ++ [.hostByteArrival (BitVec.ofNat 8 (crc / 256))])
  obtain ⟨u, hu, hheard⟩ := runs_frameBytes (kind :: payload ++ [BitVec.ofNat 8 crc])
    [.hostByteArrival (BitVec.ofNat 8 (crc / 256))] [] t hstart (by simp [hlen])
  obtain ⟨v, hv, hrest⟩ := runs_frameEnd (check := BitVec.ofNat 8 (crc / 256)) (got := kind :: payload ++ [BitVec.ofNat 8 crc])
    hheard (by simp [hlen]) (by rw [hbytes]; exact hright) hroom
  rw [hbytes, hframe] at hrest
  exact ⟨v, by rw [hwire, ht, hu, hv], hrest⟩

/-! ### Host supervision (R164) -/

/-- A stop request leaves the drive's bridge off, whatever the state it finds (R14). -/
theorem driveStop_drives (s : State) : (driveStop s).drive.state.drives = false := by
  unfold driveStop
  split
  case h_1 hst => rw [hst]; rfl
  case h_2 | h_3 | h_4 => rfl
  case h_5 hst => simp [hst, DriveState.drives]
  case h_6 hst =>
    unfold releaseFault
    split
    · rw [hst]; rfl
    · dsimp only
      split
      · rw [enterOff_unowned rfl]; rfl
      · simp [hst, DriveState.drives]

@[simp] theorem serveWaiting_mode (s : State) : (serveWaiting s).drive.mode = s.drive.mode := by
  unfold serveWaiting
  split <;> rfl

@[simp] theorem enterOff_mode (s : State) : (enterOff s).drive.mode = s.drive.mode := serveWaiting_mode _

@[simp] theorem leaveIfRun_mode (next : DriveState) (s : State) : (leaveIfRun next s).drive.mode = s.drive.mode := by
  unfold leaveIfRun
  split <;> simp

@[simp] theorem leaveIfRun_cal (next : DriveState) (s : State) : (leaveIfRun next s).debris.cal = s.debris.cal := by
  unfold leaveIfRun
  split <;> simp

@[simp] theorem driveStop_mode (s : State) : (driveStop s).drive.mode = s.drive.mode := by
  unfold driveStop
  split
  case h_2 | h_3 | h_4 => simp [stopDriving, enterCoast]
  case h_6 =>
    unfold releaseFault
    split
    · rfl
    · dsimp only
      split <;> simp
  all_goals rfl

@[simp] theorem driveStop_cal (s : State) : (driveStop s).debris.cal = s.debris.cal := by
  unfold driveStop
  split
  case h_2 | h_3 | h_4 => simp [stopDriving]
  all_goals simp

theorem rollEvaluate_of_rest {s : State} (h : s.roll.state.runs = false) : rollEvaluate s = s := by
  simp [rollEvaluate, h]

theorem leaveIfRun_roll_of_rest (next : DriveState) {s : State} (h : s.roll.state.runs = false) :
    (leaveIfRun next s).roll = s.roll := by
  unfold leaveIfRun leaveRun
  split
  · rw [rollEvaluate_of_rest]
    exact h
  · rfl

/-- A roll drive that does not run is left alone by a stop request at the suction drive. -/
theorem driveStop_roll_of_rest {s : State} (h : s.roll.state.runs = false) : (driveStop s).roll = s.roll := by
  unfold driveStop
  split
  case h_2 | h_3 | h_4 => simp [stopDriving, leaveIfRun_roll_of_rest _ h]
  all_goals simp

@[simp] theorem endCalibration_cal (r : DoneResult) (s : State) : (endCalibration r s).debris.cal = none := by
  unfold endCalibration
  split
  · assumption
  · simp

@[simp] theorem rollEnterOff_state (clear : Bool) (s : State) : (rollEnterOff clear s).roll.state = .off := rfl

theorem rollSilence_roll (s : State) : (rollSilence s).roll.state = .off ∧
    (s.roll.state ≠ .off → (rollSilence s).roll.jamCount = 0) := by
  unfold rollSilence rollRelease
  split
  · exact ⟨by simp, fun _ => by simp [rollEnterOff]⟩
  · split
    · exact ⟨by simp, fun _ => by simp [rollEnterOff]⟩
    · cases hst : s.roll.state <;> simp_all [RollState.held, RollState.runs]

/-- Both drives stopped at the expiry of host supervision, before the entry is logged. -/
def silenced (s : State) : State :=
  driveStop (endCalibration .aborted (rollSilence
    { s with host := { s.host with supTimer := none }, drive := { s.drive with mode := .off } }))

/-- The HOST_SILENT entry of the expiry. -/
def silenceLogged (s : State) : State :=
  appendFault .hostLink .hostSilent (.num s.host.supPeriod) (some (.num (driveStateCode s.drive.state))) (silenced s)

/-- The expiry logs HOST_SILENT once both drives are stopped; a DRIVE report may follow. -/
theorem supervisionLost_reported (s : State) : Reported (silenceLogged s) (supervisionLost s) :=
  .ite (handReport_reported _ _) (.refl _)

@[simp] theorem silenced_ctl (s : State) : (silenced s).ctl = s.ctl := by simp [silenced]

theorem silenced_roll (s : State) : (silenced s).roll.state = .off ∧
    (s.roll.state ≠ .off → (silenced s).roll.jamCount = 0) := by
  obtain ⟨hoff, hjam⟩ := rollSilence_roll
    { s with host := { s.host with supTimer := none }, drive := { s.drive with mode := .off } }
  have hroll : (silenced s).roll = (rollSilence
      { s with host := { s.host with supTimer := none }, drive := { s.drive with mode := .off } }).roll := by
    rw [silenced, driveStop_roll_of_rest, endCalibration_roll]
    rw [endCalibration_roll, hoff]
    rfl
  rw [hroll]
  exact ⟨hoff, hjam⟩

/-- A timer started now is not due now. -/
theorem not_reached_after {s : State} {period : Nat} (hlo : 0 < period) (hhi : period ≤ 2000) :
    s.reached (s.ctl.partTime + BitVec.ofNat 32 period) = false := by
  have hsub : (s.ctl.partTime - (s.ctl.partTime + BitVec.ofNat 32 period)).toNat = 4294967296 - period := by
    have hp : (BitVec.ofNat 32 period).toNat = period := by rw [BitVec.toNat_ofNat]; omega
    have ht := s.ctl.partTime.isLt
    rw [BitVec.toNat_sub, BitVec.toNat_add, hp]
    omega
  rw [State.reached, State.since, hsub]
  exact decide_eq_false (by omega)

theorem supervisionDue_of_due {s : State} {due : Ms} (h : s.host.supTimer = some due) :
    s.supervisionDue = decide ((s.ctl.partTime - due).toNat < 2147483648) := by
  rw [State.supervisionDue, h]
  rfl

theorem supervised_link {s : State} (h : s.supervised = true) : s.ctl.shipDecided = false := by
  simp [State.supervised] at h
  exact h.1.2

/-- An expiry that is not due does not occur. -/
theorem supervisionExpiry_early {s : State} (h : s.supervisionDue = false) : exec .supervisionExpiry s = .next s := by
  show execSupervisionExpiry s = _
  rw [execSupervisionExpiry, h, event_absent]

/-- A frame with a right check restarts the timer, and what becomes of the frame leaves the timer, the straps, part time
and the drives alone. -/
theorem restartSupervision_restarts {s u : State} {f : HostFrame} {due : Ms}
    (hu : u = queueFrame f (restartSupervision (huntAgain s))) (htimer : s.host.supTimer = some due) :
    u.host.supTimer = some (s.ctl.partTime + BitVec.ofNat 32 s.host.supPeriod) ∧ u.supervised = s.supervised ∧
      u.ctl = s.ctl ∧ u.drive = s.drive ∧ u.roll = s.roll := by
  subst hu
  unfold queueFrame
  split
  · simp [restartSupervision, huntAgain, htimer, State.supervised, State.isStick, State.after]
  · split <;>
      simp [linkError, restartSupervision, huntAgain, htimer, State.supervised, State.isStick, State.after]

/-- Settles O22. -/
theorem supervisionExpiryStops : Obligations.SupervisionExpiryStops := by
  refine ⟨fun s h => ?stopped, fun s due h hearly => ?early, ?restarted, fun s due hawake h hdue => ?expires⟩
  case stopped => exact supervisionExpiry_early (by rw [State.supervisionDue, h]; rfl)
  case early =>
    exact supervisionExpiry_early (by rw [supervisionDue_of_due h]; exact decide_eq_false (Nat.not_lt.mpr hearly))
  case restarted =>
    intro s len check rest due hawake bytes hrx hlen hright htimer hsupervised hlo hhi
    have hcheck : checkRight bytes = true := decide_eq_true hright
    have hframe := exec_hostFrameArrival (check := check) hawake hrx (by simpa [bytes] using hlen)
    rw [hostFrameEnds_right _ hcheck] at hframe
    obtain ⟨htimer', hsup, hctl, hdrive, hroll⟩ :=
      restartSupervision_restarts (f := frameOf (len :: rest ++ [check])) (s := s) rfl htimer
    generalize queueFrame (frameOf (len :: rest ++ [check])) (restartSupervision (huntAgain s)) = u at *
    have hafter : (settle u).host.supTimer = some (s.ctl.partTime + BitVec.ofNat 32 s.host.supPeriod) := by
      rw [settle_of_link (by rw [hctl]; exact supervised_link hsupervised), startFrame_supTimer]
      simp only [followTimers]
      rw [follow_runs _ _ (hsup.trans hsupervised), htimer', Option.getD_some]
    refine ⟨settle u, hframe, hafter, by simpa using hdrive, by simpa using hroll, supervisionExpiry_early ?_⟩
    rw [State.supervisionDue, hafter]
    have hnow : (settle u).ctl.partTime = s.ctl.partTime := by rw [settle_ctl_partTime, hctl]
    rw [Option.any_some, ← hnow]
    exact not_reached_after hlo hhi
  case expires =>
    have hoccurs : s.supervisionDue = true := by rw [supervisionDue_of_due h]; exact decide_eq_true hdue
    have hexec : exec .supervisionExpiry s = .next (settle (supervisionLost s)) := event_occurs hoccurs hawake
    obtain ⟨hoff, hjam⟩ := silenced_roll s
    have hstate := (supervisionLost_reported s).state
    generalize supervisionLost s = u at hexec hstate
    generalize u.host = l at hstate
    subst hstate
    refine ⟨_, hexec, ?_⟩
    have hlogged := appendFault_logs .hostLink .hostSilent (.num s.host.supPeriod)
      (some (.num (driveStateCode s.drive.state))) (silenced s)
    refine ⟨by simp [silenceLogged, silenced], by simpa [silenceLogged, silenced] using driveStop_drives _,
      by simpa [silenceLogged] using hoff, by simpa [silenceLogged] using hjam, by simp [silenceLogged, silenced],
      ⟨_, by simpa only [settle_ctl_ring, silenceLogged] using hlogged, by simp [faultEntry], by simp [faultEntry], rfl, rfl,
        fun hp => ?_, ?_⟩,
      by simp [silenceLogged, silenced], by simp [silenceLogged, silenced], by simp [silenceLogged, silenced],
      by simp [silenceLogged, silenced], by simp [silenceLogged, silenced]⟩
    · exact Reading.fit16_num (by omega) (by omega)
    · cases s.drive.state <;> rfl

end Sys2Proof.Machine

/-! Resets (section 9.2). -/

namespace Sys2Proof.Machine

open Sys2Proof

/-! ### Settling a state that a reset left -/

/-- After a reset no SHIP decision stands and the transmitter has nothing to send. -/
theorem settle_resetBlocks (ctl : Ctl) (k : Retained) (mem : List Host.Cell) (capture : Ticks) (s : State) :
    settle (resetBlocks ctl k mem capture s) = followTimers (resetBlocks ctl k mem capture s) := by
  rw [settle_of_link (by rfl)]
  exact startFrame_none rfl rfl rfl

/-- Every block is at rest, in ACTIVE with nothing queued: what a reset leaves of the part apart from the retention domain
and the loaded settings (section 9.2). -/
structure BlocksAtRest (s t : State) : Prop where
  power : t.ctl.power = .active
  lowCells : t.ctl.lowCells = 0
  record : t.pack.record = none
  perms : t.prot.dischargeOk = false ∧ t.prot.chargeOk = false
  drive : t.drive.state = .off ∧ t.drive.duty = 0 ∧ t.drive.mode = .off
  roll : t.roll.state = .off
  charger : t.charger.state = .off
  stick : t.stick.state = .detached
  dock : t.dock.state = .vacant
  evac : t.evac.phase = .none
  cal : t.debris.cal = none
  att : t.att.result = .unknown
  op : t.store.op = none
  mask : t.host.mask = 0x60
  errors : t.host.errors = 0
  rxq : t.host.rxq = []
  pending : t.pending = s.pending

theorem resetBlocks_atRest (ctl : Ctl) (k : Retained) (mem : List Host.Cell) (capture : Ticks) (s : State) :
    BlocksAtRest s (resetBlocks ctl k mem capture s) := by
  constructor
  case perms | drive => exact ⟨rfl, by trivial⟩
  all_goals rfl

/-- The follow-up of an event that enters no SHIP keeps the blocks at rest. -/
theorem BlocksAtRest.settled {s t : State} (h : BlocksAtRest s t) (hlink : t.ctl.shipDecided = false) :
    BlocksAtRest s (settle t) where
  power := by rw [settle_of_link hlink]; simpa using h.power
  lowCells := by simpa using h.lowCells
  record := by simpa using h.record
  perms := by simpa using h.perms
  drive := by simpa using h.drive
  roll := by simpa using h.roll
  charger := by simpa using h.charger
  stick := by simpa using h.stick
  dock := by simpa using h.dock
  evac := by simpa using h.evac
  cal := by simpa using h.cal
  att := by simpa using h.att
  op := by simpa using h.op
  mask := by simpa using h.mask
  errors := by simpa using h.errors
  rxq := by simpa using h.rxq
  pending := by simpa using h.pending

/-- A fault entry keeps the blocks at rest. -/
theorem BlocksAtRest.logged {s t : State} (h : BlocksAtRest s t) (src : FaultSource) (code : FaultCode) (v : Reading)
    (w : Option Reading) : BlocksAtRest s (appendFault src code v w t) where
  power := by simpa using h.power
  lowCells := by simpa using h.lowCells
  record := by simpa using h.record
  perms := by simpa using h.perms
  drive := by simpa using h.drive
  roll := by simpa using h.roll
  charger := by simpa using h.charger
  stick := by simpa using h.stick
  dock := by simpa using h.dock
  evac := by simpa using h.evac
  cal := by simpa using h.cal
  att := by simpa using h.att
  op := by simpa using h.op
  mask := by simpa using h.mask
  errors := by simpa using h.errors
  rxq := by simpa using h.rxq
  pending := by simpa using h.pending

/-! ### Power-on (R170, R171) -/

/-- The blocks after a power-on reset, before an invalid strap is logged. -/
def powerOnBlocks (role : Role) (cells : BitVec 2) (s : State) : State :=
  resetBlocks (Ctl.powerOn role cells) (Retained.cleared (strapInvalid role cells)) s.storeAtReset 0 s

theorem strapInvalid_iff (role : Role) (cells : BitVec 2) : strapInvalid role cells = true ↔ role = .stick ∧ cells = 3 := by
  simp [strapInvalid]

/-- An invalid strap is logged and nothing else. -/
theorem powerOnReset_invalid {role : Role} {cells : BitVec 2} (s : State) (h : role = .stick ∧ cells = 3) :
    powerOnReset role cells s
      = appendFault .modeController .strapInvalid (.num 3) none (powerOnBlocks role cells s) := by
  have hstrap : strapInvalid (powerOnBlocks role cells s).ctl.role (powerOnBlocks role cells s).ctl.cells = true :=
    (strapInvalid_iff role cells).mpr h
  exact if_pos hstrap

theorem powerOnReset_valid {role : Role} {cells : BitVec 2} (s : State) (h : ¬ (role = .stick ∧ cells = 3)) :
    powerOnReset role cells s = powerOnBlocks role cells s := by
  have hstrap : ¬ strapInvalid (powerOnBlocks role cells s).ctl.role (powerOnBlocks role cells s).ctl.cells = true :=
    fun hi => h ((strapInvalid_iff role cells).mp hi)
  exact if_neg hstrap

theorem powerOnReset_atRest (role : Role) (cells : BitVec 2) (s : State) : BlocksAtRest s (powerOnReset role cells s) := by
  by_cases h : role = .stick ∧ cells = 3
  · rw [powerOnReset_invalid s h]
    exact (resetBlocks_atRest _ _ _ _ s).logged _ _ _ _
  · rw [powerOnReset_valid s h]
    exact resetBlocks_atRest _ _ _ _ s

/-- What a power-on reset clears, whatever the straps. -/
theorem powerOnReset_clears (role : Role) (cells : BitVec 2) (s : State) :
    let t := powerOnReset role cells s
    t.ctl.role = role ∧ t.ctl.cells = cells ∧ t.ctl.partTime = 0 ∧ t.ctl.lock = none ∧ t.ctl.shipDecided = false ∧
      t.ctl.cause = ⟨true, false, false, false, .powerOn⟩ ∧ t.pack.q = 0 ∧ t.pack.valid = false ∧ t.debris.b = 0 := by
  intro t
  have hq : min 0 (loadCapacity s.storeAtReset * 3600) = 0 := Nat.zero_min _
  by_cases h : role = .stick ∧ cells = 3
  · simp only [t, powerOnReset_invalid s h, appendFault_ctl_role, appendFault_ctl_cells, appendFault_ctl_partTime,
      appendFault_ctl_lock, appendFault_ctl_shipDecided, appendFault_ctl_cause, appendFault_pack, appendFault_debris]
    exact ⟨rfl, rfl, rfl, rfl, rfl, rfl, hq, rfl, rfl⟩
  · simp only [t, powerOnReset_valid s h]
    exact ⟨rfl, rfl, rfl, rfl, rfl, rfl, hq, rfl, rfl⟩

/-- Settles O17. -/
theorem powerOnResetClears : Obligations.PowerOnResetClears := by
  intro role cells s
  obtain ⟨hrole, hcells, htime, hlock, hlink, hcause, hq, hvalid, hload⟩ := powerOnReset_clears role cells s
  have hrest := (powerOnReset_atRest role cells s).settled hlink
  refine ⟨settle (powerOnReset role cells s), rfl, by simpa using hrole, by simpa using hcells, by simpa using htime,
    by simpa using hlock, hrest.power, by simpa using hcause, hrest.lowCells, fun h => ?invalid, fun h => ?valid,
    by simpa using hq, by simpa using hvalid, hrest.record, by simpa using hload, hrest.perms.1, hrest.perms.2,
    hrest.drive.1, hrest.drive.2.1, hrest.drive.2.2, hrest.roll, hrest.charger, hrest.stick, hrest.dock, hrest.evac,
    hrest.cal, hrest.att, hrest.op, hrest.mask, hrest.errors, hrest.rxq, hrest.pending⟩
  case invalid =>
    rw [powerOnReset_invalid s h]
    obtain ⟨rfl, rfl⟩ := h
    simp only [settle_ctl_ring, settle_ctl_nextSeq, settle_prot, appendFault_ring, appendFault_nextSeq, appendFault_prot]
    exact ⟨rfl, rfl, rfl, rfl, rfl⟩
  case valid =>
    rw [powerOnReset_valid s h]
    have hstrap : strapInvalid role cells = false := Bool.eq_false_iff.mpr fun hi => h ((strapInvalid_iff role cells).mp hi)
    simp only [settle_ctl_ring, settle_ctl_nextSeq, settle_prot, powerOnBlocks, hstrap]
    exact ⟨rfl, rfl, rfl, rfl, rfl⟩

/-! ### The other resets (R161, R170, R175, R179) -/

/-- Every command that brings a reset other than power-on runs it. -/
theorem exec_warmReset {s : State} {c : Instr} {k : ResetKind} (h : Spec.WarmReset s c k) :
    exec c s = .next (settle (warmReset k s)) := by
  cases h with
  | pin => rfl
  | wakePin hship =>
    show execShipWake .wakePin s = _
    simp [execShipWake, State.wakes, hship]
  | wakeContact hship hrole =>
    show execShipWake .contact s = _
    simp [execShipWake, State.wakes, State.isStick, hship, hrole]
  | request w hawake htx =>
    have hdone : transmitDone s = warmReset .request s := by simp [transmitDone, htx, frameSentOut]
    rw [← hdone]
    exact event_occurs (by rw [htx]; rfl) hawake

theorem warmReset_kind {s : State} {c : Instr} {k : ResetKind} (h : Spec.WarmReset s c k) : k ≠ .powerOn := by
  cases h <;> simp

/-- A reset other than power-on adds its own flag to the cause record (R172). -/
theorem causeRecord_add (c : CauseRecord) {k : ResetKind} (h : k ≠ .powerOn) :
    c.add k = { powerOn := c.powerOn, pin := c.pin || decide (k = .pin), request := c.request || decide (k = .request),
                shipWake := c.shipWake || decide (k = .shipWake), lastKind := k } := by
  cases k <;> simp_all [CauseRecord.add]

theorem exec_resetPart (s : State) : exec .resetPart s = request resetPartSpec s := rfl

/-- Settles O18. -/
theorem otherResetsKeepRetained : Obligations.OtherResetsKeepRetained := by
  refine ⟨fun s rest h => ?plain, fun s rest h => ?summary, fun s kind p rest h hp => ?badLength, fun c k s h => ?reset⟩
  case plain =>
    have hjudge := judge_act resetPartSpec [] (beginTaking rest s) (accepts_both _ rfl rfl) rfl rfl
    rw [exec_resetPart, request_of_heads (q := resetPartSpec) h, hjudge]
    rfl
  case summary =>
    have hjudge := judge_act resetPartSpec [] (beginTaking rest s) (accepts_both _ rfl rfl) rfl rfl
    rw [exec_resetPart, request_of_heads (q := resetPartSpec) h, hjudge]
    rfl
  case badLength =>
    have hlength : emptyPayload p = false := by simpa [emptyPayload] using hp
    have hjudge := judge_badLength resetPartSpec p (beginTaking rest s) (accepts_both _ rfl rfl) hlength
    rw [exec_resetPart, request_of_heads (q := resetPartSpec) h, hjudge]
    have halways : resetPartSpec.alwaysSummary = false := rfl
    by_cases hk : 0x40 ≤ kind.toNat
    · simp [replyTo, Spec.reply, refuse, asksSummary, halways, hk, u8, resultCode]
    · simp [replyTo, Spec.reply, refuse, asksSummary, halways, hk, u8, resultCode]
  case reset =>
    have hrest := (resetBlocks_atRest { s.ctl with cause := s.ctl.cause.add k } s.retained s.storeAtReset
      s.drive.captureTimer s).settled rfl
    refine ⟨settle (warmReset k s), exec_warmReset h, ?_⟩
    have hcause := causeRecord_add s.ctl.cause (warmReset_kind h)
    refine ⟨by simp [warmReset, resetBlocks, Ctl.afterReset], by simp [warmReset, resetBlocks, Ctl.afterReset],
      by simp [warmReset, resetBlocks, Ctl.afterReset], by simp [warmReset, resetBlocks, Ctl.afterReset],
      by simp [warmReset, resetBlocks, Ctl.afterReset], by simp [warmReset, resetBlocks, Ctl.afterReset], hrest.power,
      hrest.lowCells, ?_, fun l hl => ?_, ?_, ?_, hrest.record, ?_, ?_, ?_, hrest.perms.1, hrest.perms.2,
      hrest.drive.1, hrest.drive.2.1, hrest.drive.2.2, hrest.roll, hrest.charger, hrest.stick, hrest.dock, hrest.evac,
      hrest.cal, hrest.att, hrest.op, hrest.mask, hrest.errors, hrest.rxq, ?_, hrest.pending⟩
    · rw [settle_ctl_cause]
      exact hcause
    · simp [warmReset, resetBlocks, loadLimits, loadPeriod, hl, Gov.atReset, HostLink.atReset]
    · simp [warmReset, resetBlocks, packAfterReset, State.retained]
    · simp [warmReset, resetBlocks, packAfterReset, State.retained]
    · simp [warmReset, resetBlocks, debrisAfterReset, State.retained]
    · simp [warmReset, resetBlocks, Prot.atReset, State.retained]
    · simp [warmReset, resetBlocks, Prot.atReset, State.retained]
    · rw [warmReset, settle_resetBlocks]
      rfl

end Sys2Proof.Machine

/-! What the pack monitor's operations leave unchanged (sections 3.1 to 3.5): the allowance, the forcing of the mode to OFF,
the permissions and the level. -/

namespace Sys2Proof.Machine

open Sys2Proof

/-! ### The allowance (R29) -/

@[simp] theorem recomputeAllowance_ctl (s : State) : (recomputeAllowance s).ctl = s.ctl := by
  unfold recomputeAllowance
  split <;> rfl
@[simp] theorem recomputeAllowance_host (s : State) : (recomputeAllowance s).host = s.host := by
  unfold recomputeAllowance
  split <;> rfl
@[simp] theorem recomputeAllowance_drive (s : State) : (recomputeAllowance s).drive = s.drive := by
  unfold recomputeAllowance
  split <;> rfl
@[simp] theorem recomputeAllowance_pack (s : State) : (recomputeAllowance s).pack = s.pack := by
  unfold recomputeAllowance
  split <;> rfl
@[simp] theorem recomputeAllowance_debris (s : State) : (recomputeAllowance s).debris = s.debris := by
  unfold recomputeAllowance
  split <;> rfl
@[simp] theorem recomputeAllowance_stick (s : State) : (recomputeAllowance s).stick = s.stick := by
  unfold recomputeAllowance
  split <;> rfl
@[simp] theorem recomputeAllowance_store (s : State) : (recomputeAllowance s).store = s.store := by
  unfold recomputeAllowance
  split <;> rfl
@[simp] theorem recomputeAllowance_gov_limits (s : State) : (recomputeAllowance s).gov.limits = s.gov.limits := by
  obtain ⟨g, h, hlimits, -⟩ := recomputeAllowance_eq s
  rw [h]
  exact hlimits

/-! ### The mode forced to OFF (R7, R15) -/

/-- The entry to OFF of a drive that nobody owns starts nothing. -/
theorem enterOff_pack {s : State} (h : s.drive.owner = .none) : (enterOff s).pack = s.pack := by
  have hok : ({ s with drive := offRecord s.now s.drive } : State).startOk = false := by
    simp [State.startOk, State.runRequest, offRecord, h]
  unfold enterOff serveWaiting
  rw [hok, Bool.and_false]
  rfl

@[simp] theorem driveStop_pack (s : State) : (driveStop s).pack = s.pack := by
  unfold driveStop
  split
  case h_6 =>
    unfold releaseFault
    split
    · rfl
    · dsimp only
      split
      · exact enterOff_pack rfl
      · rfl
  all_goals simp

@[simp] theorem forceOff_ctl (c : DriveCause) (s : State) : (forceOff c s).ctl = s.ctl := by
  unfold forceOff
  dsimp only
  split <;> simp
@[simp] theorem forceOff_prot (c : DriveCause) (s : State) : (forceOff c s).prot = s.prot := by
  unfold forceOff
  dsimp only
  split <;> simp
@[simp] theorem forceOff_pack (c : DriveCause) (s : State) : (forceOff c s).pack = s.pack := by
  unfold forceOff
  dsimp only
  split <;> simp
@[simp] theorem forceOff_stick (c : DriveCause) (s : State) : (forceOff c s).stick = s.stick := by
  unfold forceOff
  dsimp only
  split <;> simp
@[simp] theorem forceOff_store (c : DriveCause) (s : State) : (forceOff c s).store = s.store := by
  unfold forceOff
  dsimp only
  split <;> simp

@[simp] theorem leaveIfRun_limits (next : DriveState) (s : State) : (leaveIfRun next s).gov.limits = s.gov.limits := by
  unfold leaveIfRun
  split <;> simp [Gov.leaveRun]

@[simp] theorem driveStop_limits (s : State) : (driveStop s).gov.limits = s.gov.limits := by
  unfold driveStop
  split
  case h_2 | h_3 | h_4 => simp [stopDriving]
  all_goals simp

@[simp] theorem forceOff_limits (c : DriveCause) (s : State) : (forceOff c s).gov.limits = s.gov.limits := by
  unfold forceOff
  dsimp only
  split <;> simp

/-! ### The permissions and the level (R66) -/

@[simp] theorem applyPermissions_ctl (s : State) : (applyPermissions s).ctl = s.ctl := by
  unfold applyPermissions
  dsimp only
  split <;> simp
@[simp] theorem applyPermissions_pack (s : State) : (applyPermissions s).pack = s.pack := by
  unfold applyPermissions
  dsimp only
  split <;> simp
@[simp] theorem applyPermissions_stick (s : State) : (applyPermissions s).stick = s.stick := by
  unfold applyPermissions
  dsimp only
  split <;> simp
@[simp] theorem applyPermissions_store (s : State) : (applyPermissions s).store = s.store := by
  unfold applyPermissions
  dsimp only
  split <;> simp
@[simp] theorem applyPermissions_gov_limits (s : State) : (applyPermissions s).gov.limits = s.gov.limits := by
  unfold applyPermissions
  dsimp only
  split <;> simp
@[simp] theorem evaluateLevel_ctl (before : Prot) (s : State) : (evaluateLevel before s).ctl = s.ctl := by
  unfold evaluateLevel reportProtection
  dsimp only
  split <;> split <;> simp
@[simp] theorem evaluateLevel_gov (before : Prot) (s : State) : (evaluateLevel before s).gov = s.gov := by
  unfold evaluateLevel reportProtection
  dsimp only
  split <;> split <;> simp
@[simp] theorem evaluateLevel_pack (before : Prot) (s : State) : (evaluateLevel before s).pack = s.pack := by
  unfold evaluateLevel reportProtection
  dsimp only
  split <;> split <;> simp
@[simp] theorem evaluateLevel_stick (before : Prot) (s : State) : (evaluateLevel before s).stick = s.stick := by
  unfold evaluateLevel reportProtection
  dsimp only
  split <;> split <;> simp
@[simp] theorem evaluateLevel_store (before : Prot) (s : State) : (evaluateLevel before s).store = s.store := by
  unfold evaluateLevel reportProtection
  dsimp only
  split <;> split <;> simp
@[simp] theorem stopIfLost_ctl (before : Prot) (s : State) : (stopIfLost before s).ctl = s.ctl := by
  unfold stopIfLost
  split <;> simp
@[simp] theorem stopIfLost_prot (before : Prot) (s : State) : (stopIfLost before s).prot = s.prot := by
  unfold stopIfLost
  split <;> simp
@[simp] theorem stopIfLost_pack (before : Prot) (s : State) : (stopIfLost before s).pack = s.pack := by
  unfold stopIfLost
  split <;> simp
@[simp] theorem stopIfLost_stick (before : Prot) (s : State) : (stopIfLost before s).stick = s.stick := by
  unfold stopIfLost
  split <;> simp
@[simp] theorem stopIfLost_store (before : Prot) (s : State) : (stopIfLost before s).store = s.store := by
  unfold stopIfLost
  split <;> simp
@[simp] theorem stopIfLost_gov_limits (before : Prot) (s : State) : (stopIfLost before s).gov.limits = s.gov.limits := by
  unfold stopIfLost
  split <;> simp
@[simp] theorem evaluateProtection_ctl (before : Prot) (s : State) : (evaluateProtection before s).ctl = s.ctl := by
  rw [evaluateProtection_eq, settleLevel]
  split <;> simp [recomputeNeed]
@[simp] theorem evaluateProtection_stick (before : Prot) (s : State) : (evaluateProtection before s).stick = s.stick := by
  rw [evaluateProtection_eq, settleLevel]
  split <;> simp [recomputeNeed]
@[simp] theorem evaluateProtection_store (before : Prot) (s : State) : (evaluateProtection before s).store = s.store := by
  rw [evaluateProtection_eq, settleLevel]
  split <;> simp [recomputeNeed]
@[simp] theorem evaluateProtection_gov_limits (before : Prot) (s : State) : (evaluateProtection before s).gov.limits = s.gov.limits := by
  rw [evaluateProtection_eq, settleLevel]
  split <;> simp [recomputeNeed]

end Sys2Proof.Machine

/-! The permissions, the level and the releases of protection (sections 3.3 and 3.6). -/

namespace Sys2Proof.Machine

open Sys2Proof

/-! ### Comparisons of readings (R59) -/

theorem Reading.gt_iff (r : Reading) (n : Int) : r.gt n = true ↔ r = .above ∨ ∃ m, r = .num m ∧ n < m := by
  cases r <;> simp [Reading.gt]

theorem Reading.ge_iff (r : Reading) (n : Int) : r.ge n = true ↔ r = .above ∨ ∃ m, r = .num m ∧ n ≤ m := by
  cases r <;> simp [Reading.ge]

theorem Reading.lt_iff (r : Reading) (n : Int) : r.lt n = true ↔ r = .below ∨ ∃ m, r = .num m ∧ m < n := by
  cases r <;> simp [Reading.lt]

theorem Reading.numLt_iff (r : Reading) (n : Int) : r.numLt n = true ↔ ∃ m, r = .num m ∧ m < n := by
  cases r <;> simp [Reading.numLt]

theorem Reading.isNum_iff (r : Reading) : r.isNum = true ↔ ∃ m, r = .num m := by
  cases r <;> simp [Reading.isNum]

theorem Reading.isAbsent_iff (r : Reading) : r.isAbsent = true ↔ r = .absent := by
  cases r <;> simp [Reading.isAbsent]

theorem Reading.toInt?_eq_some (r : Reading) (n : Int) : r.toInt? = some n ↔ r = .num n := by
  cases r <;> simp [Reading.toInt?]

theorem mem_numbers (cells : List Reading) (n : Int) : n ∈ cells.filterMap Reading.toInt? ↔ .num n ∈ cells := by
  simp only [List.mem_filterMap, Reading.toInt?_eq_some]
  exact ⟨fun ⟨_, hr, he⟩ => he ▸ hr, fun h => ⟨_, h, rfl⟩⟩

/-! ### The lowest and the highest cell (R59) -/

theorem lowestCell_eq_some (cells : List Reading) (v : Int) :
    lowestCell cells = some v ↔ .num v ∈ cells ∧ ∀ n, .num n ∈ cells → v ≤ n := by
  simp only [lowestCell, List.min?_eq_some_iff, mem_numbers]

theorem lowestCell_eq_none (cells : List Reading) : lowestCell cells = none ↔ ∀ n, .num n ∉ cells := by
  simp only [lowestCell, List.min?_eq_none_iff, List.eq_nil_iff_forall_not_mem, mem_numbers]

theorem lowestCell_isSome (cells : List Reading) : (lowestCell cells).isSome = true ↔ ∃ n, .num n ∈ cells := by
  rw [Option.isSome_iff_ne_none, Ne, lowestCell_eq_none]
  exact Classical.not_forall_not

theorem lowestBelow_iff (cells : List Reading) (mV : Int) :
    lowestBelow cells mV = true ↔ ∃ n, .num n ∈ cells ∧ n < mV := by
  unfold lowestBelow
  split
  · next v h =>
    obtain ⟨hmem, hle⟩ := (lowestCell_eq_some cells v).mp h
    exact ⟨fun hlt => ⟨v, hmem, of_decide_eq_true hlt⟩,
      fun ⟨n, hn, hlt⟩ => decide_eq_true (Int.lt_of_le_of_lt (hle n hn) hlt)⟩
  · next h =>
    exact ⟨fun hf => absurd hf (by decide), fun ⟨n, hn, _⟩ => absurd hn ((lowestCell_eq_none cells).mp h n)⟩

theorem highestCell_of_above {cells : List Reading} (h : .above ∈ cells) : highestCell cells = some .above := by
  have hany : cells.any (fun r => decide (r = .above)) = true := List.any_eq_true.mpr ⟨_, h, by simp⟩
  simp [highestCell, hany]

theorem highestCell_of_not_above {cells : List Reading} (h : .above ∉ cells) :
    highestCell cells = ((cells.filterMap Reading.toInt?).max?).map Reading.num := by
  have hany : cells.any (fun r => decide (r = .above)) = false := by
    simp only [List.any_eq_false, decide_eq_true_eq]
    exact fun r hr he => h (he ▸ hr)
  simp [highestCell, hany]

/-- The highest cell is ABOVE, or the largest number where none is ABOVE, or there is none. -/
theorem highestCell_cases (cells : List Reading) :
    (.above ∈ cells ∧ highestCell cells = some .above) ∨
    (.above ∉ cells ∧ ∃ m, highestCell cells = some (.num m) ∧ .num m ∈ cells ∧ ∀ n, .num n ∈ cells → n ≤ m) ∨
    (.above ∉ cells ∧ highestCell cells = none ∧ ∀ n, .num n ∉ cells) := by
  by_cases ha : .above ∈ cells
  · exact .inl ⟨ha, highestCell_of_above ha⟩
  · rw [highestCell_of_not_above ha]
    cases hm : (cells.filterMap Reading.toInt?).max? with
    | some m =>
      simp only [List.max?_eq_some_iff, mem_numbers] at hm
      exact .inr (.inl ⟨ha, m, rfl, hm.1, hm.2⟩)
    | none =>
      simp only [List.max?_eq_none_iff, List.eq_nil_iff_forall_not_mem, mem_numbers] at hm
      exact .inr (.inr ⟨ha, rfl, hm⟩)

theorem highestAbove_iff (cells : List Reading) (mV : Int) :
    highestAbove cells mV = true ↔ .above ∈ cells ∨ ∃ n, .num n ∈ cells ∧ mV < n := by
  unfold highestAbove
  rcases highestCell_cases cells with ⟨ha, h⟩ | ⟨ha, m, h, hm, hmax⟩ | ⟨ha, h, hnone⟩
  · simp [h, ha, Reading.gt]
  · simp only [h, ha, false_or, Reading.gt, decide_eq_true_eq]
    exact ⟨fun hlt => ⟨m, hm, hlt⟩, fun ⟨n, hn, hlt⟩ => Int.lt_of_lt_of_le hlt (hmax n hn)⟩
  · simp [h, ha, hnone]

theorem noneAbsent_iff (cells : List Reading) : noneAbsent cells = true ↔ .absent ∉ cells := by
  simp only [noneAbsent, List.all_eq_true, Bool.not_eq_true', Bool.eq_false_iff, ne_eq, Reading.isAbsent_iff]
  exact ⟨fun h hm => h _ hm rfl, fun h r hr he => h (he ▸ hr)⟩

/-! ### The permissions and the level (R66) -/

/-- The level evaluated; beyond it only the time of last change moves. -/
theorem evaluateLevel_prot (before : Prot) (s : State) : ∃ x, (evaluateLevel before s).prot
    = { s.prot with level := levelOf s.prot s.allowance s.gov.limits.discharge, lastChange := x } := by
  unfold evaluateLevel reportProtection
  dsimp only
  split <;> split <;> simp

/-- What the evaluation makes of the protection record: the permissions, the level by the allowance as it then stands, and
the time of last change (R66). -/
theorem evaluateProtection_prot (before : Prot) (s : State) : ∃ x, (evaluateProtection before s).prot
    = { s.prot with
        dischargeOk := dischargePermitted s.prot, chargeOk := chargePermitted s.prot, lastChange := x,
        level := levelOf s.prot (evaluateProtection before s).allowance
          (evaluateProtection before s).gov.limits.discharge } := by
  rw [evaluateProtection_eq]
  unfold settleLevel
  obtain ⟨x, hx⟩ := evaluateLevel_prot before
    (if (applyPermissions s).prot.chargeOk = before.chargeOk then stopIfLost before (applyPermissions s)
      else recomputeNeed (stopIfLost before (applyPermissions s)))
  refine ⟨x, ?_⟩
  rw [hx]
  split <;> simp [State.allowance, recomputeNeed, applyPermissions_prot, levelOf]

/-- The permissions and the level follow, whatever stood before (R66). -/
theorem evaluateProtection_stands (before : Prot) (s : State) : Spec.standingFollows (evaluateProtection before s) := by
  obtain ⟨x, hx⟩ := evaluateProtection_prot before s
  simp only [Spec.standingFollows, hx, dischargePermitted, chargePermitted, levelOf, State.allowance, CauseSet.empty]
  refine ⟨?_, ?_, rfl⟩ <;> simp [and_assoc]

/-- What follows an event leaves the standing of protection alone. -/
theorem standingFollows_settle {s : State} (h : Spec.standingFollows s) : Spec.standingFollows (settle s) := by
  simpa only [Spec.standingFollows, settle_prot, settle_gov_allowance, settle_gov_limits] using h

/-! ### The releases (R63, R75) -/

theorem lockoutPresent_none {s : State} (h : s.pack.record = none) : lockoutPresent s = true := by
  simp [lockoutPresent, h]

/-- The condition of a lockout cause in the set is present: one of the four, by the latest pack record (R75). -/
theorem lockoutPresent_some {s : State} {r : PackRecord} (h : s.pack.record = some r) :
    lockoutPresent s = true ↔
      (s.prot.lockout.ovSevere = true ∧ (∃ c ∈ r.cells, c = .above ∨ c = .absent ∨ ∃ n, c = .num n ∧ 4400 < n)) ∨
      (s.prot.lockout.uvSevere = true ∧ (∃ c ∈ r.cells, c = .absent ∨ ∃ n, c = .num n ∧ n < 1500)) ∨
      (s.prot.lockout.ocRepeat = true ∧
        (s.prot.active.dsgOc = true ∨ r.packI = .below ∨ ∃ n, r.packI = .num n ∧ n < -40000)) ∨
      (s.prot.lockout.strap = true ∧ s.ctl.cells = 3) := by
  have hov : (highestAbove r.cells 4400 || !noneAbsent r.cells) = true ↔
      ∃ c ∈ r.cells, c = .above ∨ c = .absent ∨ ∃ n, c = .num n ∧ 4400 < n := by
    simp only [Bool.or_eq_true, highestAbove_iff, Bool.not_eq_true', Bool.eq_false_iff, ne_eq, noneAbsent_iff, Classical.not_not]
    constructor
    · rintro ((h | ⟨n, hn, hlt⟩) | h)
      · exact ⟨_, h, .inl rfl⟩
      · exact ⟨_, hn, .inr (.inr ⟨n, rfl, hlt⟩)⟩
      · exact ⟨_, h, .inr (.inl rfl)⟩
    · rintro ⟨c, hc, rfl | rfl | ⟨n, rfl, hlt⟩⟩
      · exact .inl (.inl hc)
      · exact .inr hc
      · exact .inl (.inr ⟨n, hc, hlt⟩)
  have huv : (lowestBelow r.cells 1500 || !noneAbsent r.cells) = true ↔
      ∃ c ∈ r.cells, c = .absent ∨ ∃ n, c = .num n ∧ n < 1500 := by
    simp only [Bool.or_eq_true, lowestBelow_iff, Bool.not_eq_true', Bool.eq_false_iff, ne_eq, noneAbsent_iff, Classical.not_not]
    constructor
    · rintro (⟨n, hn, hlt⟩ | h)
      · exact ⟨_, hn, .inr ⟨n, rfl, hlt⟩⟩
      · exact ⟨_, h, .inl rfl⟩
    · rintro ⟨c, hc, rfl | ⟨n, rfl, hlt⟩⟩
      · exact .inr hc
      · exact .inl ⟨n, hc, hlt⟩
  simp only [lockoutPresent, h]
  rw [Bool.or_eq_true, Bool.or_eq_true, Bool.or_eq_true, Bool.and_eq_true, Bool.and_eq_true, Bool.and_eq_true,
    Bool.and_eq_true, hov, huv, Bool.or_eq_true, Reading.lt_iff, decide_eq_true_eq]
  simp only [or_assoc]

/-- A release of causes leaves of them what it released, and the standing follows. -/
theorem releaseThenEvaluate_stands (s : State) (p : Prot) :
    let t := evaluateProtection s.prot { s with prot := p }
    Spec.standingFollows t ∧ t.prot.active = p.active ∧ t.prot.ocClear = p.ocClear ∧ t.prot.lockedOut = p.lockedOut ∧
      t.prot.lockout = p.lockout ∧ t.prot.ocEvents = p.ocEvents := by
  intro t
  obtain ⟨x, hx⟩ := evaluateProtection_prot s.prot { s with prot := p }
  refine ⟨evaluateProtection_stands _ _, ?_⟩
  simp only [t, hx, and_self]

theorem exec_clearProtection (s : State) : exec .clearProtection s = request clearProtectionSpec s := rfl

/-- A CLEAR_PROTECTION that is taken with an empty payload is judged by its own conditions (R75). -/
theorem clearProtection_judged {s : State} {kind : Byte} {rest : List HostFrame} {j : Judged}
    (h : Spec.Heads s 0x1A kind [] rest) (hrole : s.ctl.role = .stick)
    (hj : clearProtectionSpec.act [] (beginTaking rest s) = j) :
    exec .clearProtection s = .next (settle (Spec.reply kind (resultCode j.result) j.fields j.state)) := by
  rw [exec_clearProtection, request_acts_as (q := clearProtectionSpec) h rfl rfl (accepts_stick hrole rfl) rfl rfl hj]

/-- Settles O47. -/
theorem protectionReleases : Obligations.ProtectionReleases := by
  refine ⟨fun s hawake hclear => ?expiry, fun s kind rest h hrole => ?request⟩
  case expiry =>
    obtain ⟨hstands, hactive, hoc, hlocked, -⟩ := releaseThenEvaluate_stands s
      { s.prot with active := { s.prot.active with dsgOc := false }, ocClear := none }
    exact ⟨_, event_occurs hclear hawake, by rw [settle_prot]; exact hactive, by rw [settle_prot]; exact hoc,
      by rw [settle_prot]; exact hlocked, standingFollows_settle hstands⟩
  case request =>
    intro b
    have hprot : b.prot = s.prot := beginTaking_prot rest s
    have hlock : b.ctl.lock = s.ctl.lock := beginTaking_ctl_lock rest s
    have hrecord : b.pack.record = s.pack.record := beginTaking_pack_record rest s
    have hcells : b.ctl.cells = s.ctl.cells := beginTaking_ctl_cells rest s
    refine ⟨fun hlevel => ?_, fun hlevel hset => ?_, fun hlevel hclear hnone => ?_, fun r hlevel hclear hsome hpresent => ?_,
      fun r hlevel hclear hsome hov huv hoc hstrap => ?_⟩
    · have hact : clearProtectionSpec.act [] b = refuse .denied b := by simp [clearProtectionSpec, hprot, hlevel]
      rw [clearProtection_judged h hrole hact]
      rfl
    · have hact : clearProtectionSpec.act [] b = refuse .locked b := by
        simp [clearProtectionSpec, hprot, hlevel, hlock, hset]
      rw [clearProtection_judged h hrole hact]
      rfl
    · have hact : clearProtectionSpec.act [] b = refuse .denied b := by
        simp [clearProtectionSpec, hprot, hlevel, hlock, hclear, lockoutPresent_none (hrecord.trans hnone)]
      rw [clearProtection_judged h hrole hact]
      rfl
    · have hheld : lockoutPresent b = true := by
        rw [lockoutPresent_some (hrecord.trans hsome), hprot, hcells]
        exact hpresent
      have hact : clearProtectionSpec.act [] b = refuse .denied b := by
        simp [clearProtectionSpec, hprot, hlevel, hlock, hclear, hheld]
      rw [clearProtection_judged h hrole hact]
      rfl
    · have hfree : lockoutPresent b = false := by
        rw [Bool.eq_false_iff, ne_eq, lockoutPresent_some (hrecord.trans hsome), hprot, hcells]
        rintro (⟨hset, c, hc, hbad⟩ | ⟨hset, c, hc, hbad⟩ | ⟨hset, hbad⟩ | ⟨hset, hbad⟩)
        · obtain ⟨n, rfl, hle⟩ := hov hset c hc
          simp only [reduceCtorEq, Reading.num.injEq, false_or] at hbad
          obtain ⟨m, rfl, hlt⟩ := hbad
          omega
        · obtain ⟨n, rfl, hle⟩ := huv hset c hc
          simp only [reduceCtorEq, Reading.num.injEq, false_or] at hbad
          obtain ⟨m, rfl, hlt⟩ := hbad
          omega
        · obtain ⟨hdsg, n, hi, hle⟩ := hoc hset
          simp only [hdsg, hi, reduceCtorEq, Bool.false_eq_true, Reading.num.injEq, false_or] at hbad
          obtain ⟨m, rfl, hlt⟩ := hbad
          omega
        · exact hstrap hset hbad
      have hact : clearProtectionSpec.act [] b = ⟨.ok, releaseLockout b, []⟩ := by
        simp [clearProtectionSpec, hprot, hlevel, hlock, hclear, hfree]
      obtain ⟨hstands, hactive, -, hlocked, hlockout, hevents⟩ := releaseThenEvaluate_stands b
        { b.prot with lockedOut := false, lockout := LockoutSet.empty, ocEvents := [], tOvSevere := none,
                      tUvSevere := none }
      refine ⟨releaseLockout b, ?_, hlocked, hlockout, hevents, hactive.trans (by rw [hprot]), hstands⟩
      rw [clearProtection_judged h hrole hact]
      rfl

end Sys2Proof.Machine

/-! What the evaluation of the causes at a publication makes of the protection record and of the fault ring (section 3.3). -/

namespace Sys2Proof.Machine

open Sys2Proof

/-! ### A cause with a qualifying time (R59) -/

/-- A cause and its timer after an evaluation: an active cause may be released, an inactive one is judged by its
condition. -/
def verdict (now : Ms) (active released : Bool) (timer : Option Ms) (holds : Bool) (time : Nat) : Bool × Option Ms :=
  if active then (!released, timer) else ((qualify now timer holds time).2, (qualify now timer holds time).1)

theorem verdict_active (now : Ms) {active : Bool} (released : Bool) (timer : Option Ms) (holds : Bool) (time : Nat)
    (h : active = true) : verdict now active released timer holds time = (!released, timer) := by
  simp [verdict, h]

theorem verdict_inactive (now : Ms) {active : Bool} (released : Bool) (timer : Option Ms) (holds : Bool) (time : Nat)
    (h : active = false) : verdict now active released timer holds time
      = ((qualify now timer holds time).2, (qualify now timer holds time).1) := by
  simp [verdict, h]

theorem qualify_absent (now : Ms) (timer : Option Ms) {holds : Bool} (time : Nat) (h : holds = false) :
    qualify now timer holds time = (none, false) := by
  simp [qualify, holdTimer, h]

theorem qualify_begins (now : Ms) {timer : Option Ms} {holds : Bool} (time : Nat) (h : holds = true) (ht : timer = none) :
    qualify now timer holds time = (some now, false) := by
  simp [qualify, holdTimer, h, ht]

theorem qualify_waits {now t0 : Ms} {timer : Option Ms} {holds : Bool} {time : Nat} (h : holds = true)
    (ht : timer = some t0) (hlt : (now - t0).toNat < time) : qualify now timer holds time = (some t0, false) := by
  have hnot : decide (time ≤ (now - t0).toNat) = false := decide_eq_false (Nat.not_le.mpr hlt)
  simp only [qualify, holdTimer, h, ht, hnot, Bool.false_eq_true, if_false]

theorem qualify_passes {now t0 : Ms} {timer : Option Ms} {holds : Bool} {time : Nat} (h : holds = true)
    (ht : timer = some t0) (hle : time ≤ (now - t0).toNat) : qualify now timer holds time = (none, true) := by
  have hdone : decide (time ≤ (now - t0).toNat) = true := decide_eq_true hle
  simp only [qualify, holdTimer, h, ht, hdone, if_true]

/-- A condition has qualified exactly when it holds and its timer has run for the time. -/
theorem qualify_iff (now : Ms) (timer : Option Ms) (holds : Bool) (time : Nat) :
    (qualify now timer holds time).2 = true ↔ holds = true ∧ ∃ t0, timer = some t0 ∧ time ≤ (now - t0).toNat := by
  cases holds <;> cases timer <;> simp [qualify, holdTimer]

/-- An inactive cause is judged as the words of the spec have it. -/
theorem qualifies_of_verdict {s : State} {active after : Bool} {timer timer' : Option Ms} {holds : Bool} {P : Prop}
    {time : Nat} (hP : holds = true ↔ P)
    (h : active = false → after = (qualify s.now timer holds time).2 ∧ timer' = (qualify s.now timer holds time).1) :
    Spec.qualifies s active after timer timer' P time := by
  intro hinactive
  obtain ⟨rfl, rfl⟩ := h hinactive
  refine ⟨fun hn => ?_, fun hp ht => ?_, fun t0 hp ht hlt => ?_, fun t0 hp ht hle => ?_⟩
  · rw [qualify_absent _ _ _ (Bool.eq_false_iff.mpr fun hh => hn (hP.mp hh))]
    exact ⟨rfl, rfl⟩
  · rw [qualify_begins _ _ (hP.mpr hp) ht]
    exact ⟨rfl, rfl⟩
  · rw [qualify_waits (now := s.now) (hP.mpr hp) ht hlt]
    exact ⟨rfl, rfl⟩
  · rw [qualify_passes (now := s.now) (hP.mpr hp) ht hle]
    exact ⟨rfl, rfl⟩

/-! ### The fault ring (R169) -/

/-- The ring of a state after up to `k` entries more. -/
def Grown (k : Nat) (s t : State) : Prop :=
  ∃ es : List FaultEntry, es.length ≤ k ∧ t.ctl.ring = es.foldl ringAppend s.ctl.ring

theorem Grown.same {s t : State} (h : t.ctl.ring = s.ctl.ring) : Grown 0 s t := ⟨[], Nat.le_refl _, h⟩

theorem Grown.one {s t : State} {e : FaultEntry} (h : t.ctl.ring = ringAppend s.ctl.ring e) : Grown 1 s t :=
  ⟨[e], Nat.le_refl _, h⟩

theorem Grown.trans {j k : Nat} {s t u : State} (h : Grown j s t) (g : Grown k t u) : Grown (j + k) s u := by
  obtain ⟨es, hes, hring⟩ := h
  obtain ⟨fs, hfs, hring'⟩ := g
  refine ⟨es ++ fs, ?_, ?_⟩
  · rw [List.length_append]; omega
  · rw [hring', hring, List.foldl_append]

theorem Grown.mono {j k : Nat} {s t : State} (h : Grown j s t) (hle : j ≤ k) : Grown k s t :=
  ⟨h.choose, Nat.le_trans h.choose_spec.1 hle, h.choose_spec.2⟩

/-- An entry among the last `n` of the ring is among the last `n + 1` once another is appended. -/
theorem mem_drop_ringAppend {ring : List FaultEntry} {e f : FaultEntry} {n : Nat} (hn : n ≤ 15)
    (h : f ∈ ring.drop (ring.length - n)) :
    f ∈ (ringAppend ring e).drop ((ringAppend ring e).length - (n + 1)) := by
  unfold ringAppend
  split
  · next hlt =>
    rw [List.length_append, List.length_singleton, List.drop_append_of_le_length (by omega), Nat.add_sub_add_right]
    exact List.mem_append_left _ h
  · next hge =>
    have hlen : (ring.drop (ring.length - 15)).length = 15 := by rw [List.length_drop]; omega
    rw [List.length_append, List.length_singleton, hlen, List.drop_append_of_le_length (by omega), List.drop_drop,
      show ring.length - 15 + (15 + 1 - (n + 1)) = ring.length - n by omega]
    exact List.mem_append_left _ h

theorem mem_foldl_ringAppend {es : List FaultEntry} {f : FaultEntry} : ∀ {ring : List FaultEntry} {n : Nat},
    n + es.length ≤ 16 → f ∈ ring.drop (ring.length - n) → f ∈ es.foldl ringAppend ring := by
  induction es with
  | nil => exact fun _ h => List.mem_of_mem_drop h
  | cons e es ih =>
    intro ring n hn h
    rw [List.length_cons] at hn
    exact ih (n := n + 1) (by omega) (mem_drop_ringAppend (by omega) h)

/-- An entry placed last stays in the ring while fewer than 16 follow it. -/
theorem Grown.mem {k : Nat} {s t : State} {e : FaultEntry} (h : Grown k s t) (hk : k ≤ 15)
    (hlast : s.ctl.ring.getLast? = some e) : e ∈ t.ctl.ring := by
  obtain ⟨es, hes, hring⟩ := h
  rw [hring]
  refine mem_foldl_ringAppend (n := 1) (by omega) ?_
  obtain ⟨init, hinit⟩ := List.getLast?_eq_some_iff.mp hlast
  rw [hinit]
  simp

/-! ### What a judgement of a cause leaves alone -/

/-- A judgement writes the protection record, the fault ring and the link's reports, and the pack's charge alone. -/
structure Noted (s t : State) : Prop where
  others : t = { s with ctl := t.ctl, host := t.host, prot := t.prot, pack := t.pack }
  ctl : t.ctl = { s.ctl with ring := t.ctl.ring, nextSeq := t.ctl.nextSeq }

theorem Noted.refl (s : State) : Noted s s := ⟨rfl, rfl⟩

theorem Noted.trans {s t u : State} (h : Noted s t) (k : Noted t u) : Noted s u where
  others := by rw [k.others, h.others]
  ctl := by rw [k.ctl, h.ctl]

theorem Noted.now {s t : State} (h : Noted s t) : t.now = s.now := by rw [State.now, h.ctl]; rfl

theorem Noted.stick {s t : State} (h : Noted s t) : t.stick = s.stick := by rw [h.others]

theorem Noted.gov {s t : State} (h : Noted s t) : t.gov = s.gov := by rw [h.others]

theorem noted_setProt (s : State) (p : Prot) : Noted s { s with prot := p } := ⟨rfl, rfl⟩

/-- A fault entry writes the mode controller's ring and the link alone (R169). -/
theorem appendFault_others (src : FaultSource) (code : FaultCode) (v : Reading) (w : Option Reading) (s : State) :
    appendFault src code v w s
      = { s with ctl := (appendFault src code v w s).ctl, host := (appendFault src code v w s).host } := by
  have h := (handReport_reported (.fault (faultEntry src code v w s))
    { s with ctl := { s.ctl with ring := ringAppend s.ctl.ring (faultEntry src code v w s), nextSeq := s.ctl.nextSeq + 1 },
             host := { s.host with faultNew := true } }).state
  have hreport : appendFault src code v w s = handReport (.fault (faultEntry src code v w s))
    { s with ctl := { s.ctl with ring := ringAppend s.ctl.ring (faultEntry src code v w s), nextSeq := s.ctl.nextSeq + 1 },
             host := { s.host with faultNew := true } } := rfl
  rw [← hreport] at h
  generalize appendFault src code v w s = t at h
  rw [h]

theorem packFault_noted (code : FaultCode) (v : Reading) (w : Option Nat) (s : State) : Noted s (packFault code v w s) where
  others := by
    rw [packFault, appendFault_prot, appendFault_pack]
    exact appendFault_others _ _ _ _ s
  ctl := by simp [packFault, appendFault]

@[simp] theorem packFault_pack (code : FaultCode) (v : Reading) (w : Option Nat) (s : State) :
    (packFault code v w s).pack = s.pack := appendFault_pack _ _ _ _ _

theorem packFault_ring (code : FaultCode) (v : Reading) (w : Option Nat) (s : State) : (packFault code v w s).ctl.ring
    = ringAppend s.ctl.ring (faultEntry .packMonitor code v (w.map (fun n => .num n)) s) :=
  appendFault_ring_eq _ _ _ _ s

theorem packFault_last (code : FaultCode) (v : Reading) (w : Option Nat) (s : State) :
    (packFault code v w s).ctl.ring.getLast? = some (faultEntry .packMonitor code v (w.map (fun n => .num n)) s) := by
  rw [packFault_ring]
  exact ringAppend_getLast _ _

/-- A judgement that appends one entry, or none: what it makes of the protection record, and the entry. -/
structure JudgedAs (s t : State) (p : Prot) (entered : Prop) (code : FaultCode) (value : Reading) (second : Option Nat) :
    Prop where
  prot : t.prot = p
  noted : Noted s t
  grown : Grown 1 s t
  enters : entered → t.ctl.ring.getLast? = some (faultEntry .packMonitor code value (second.map (fun n => .num n)) s)

theorem judgedAs_quiet {s t : State} {p : Prot} {entered : Prop} {code : FaultCode} {value : Reading} {second : Option Nat}
    (hp : t.prot = p) (ht : Noted s t) (hring : t.ctl.ring = s.ctl.ring) (hno : ¬ entered) :
    JudgedAs s t p entered code value second :=
  ⟨hp, ht, (Grown.same hring).mono (by decide), fun h => absurd h hno⟩

theorem judgedAs_fault {s u : State} {p : Prot} {entered : Prop} {code : FaultCode} {value : Reading} {second : Option Nat}
    (hp : u.prot = p) (hu : Noted s u) (hctl : u.ctl = s.ctl) :
    JudgedAs s (packFault code value second u) p entered code value second where
  prot := by rw [packFault_prot, hp]
  noted := hu.trans (packFault_noted _ _ _ u)
  grown := Grown.one (by rw [packFault_ring, hctl])
  enters _ := by
    rw [packFault_last]
    simp only [faultEntry, hctl]

/-! ### What each cause writes of the protection record -/

/-- CELL_OV, CELL_UV and DSG_OT after an evaluation, with their timers (R60, R61). -/
def cellOvAfter (r : PackRecord) (s : State) : Bool × Option Ms :=
  verdict s.now s.prot.active.cellOv (r.cells.all (fun c => c.numLt 4150)) s.prot.tOv (highestAbove r.cells 4250) 100

def cellUvAfter (r : PackRecord) (s : State) : Bool × Option Ms :=
  verdict s.now s.prot.active.cellUv ((lowestCell r.cells).isSome && !lowestBelow r.cells 3100 && noneAbsent r.cells)
    s.prot.tUv (lowestBelow r.cells 2900) 500

def dsgOtAfter (r : PackRecord) (s : State) : Bool × Option Ms :=
  verdict s.now s.prot.active.dsgOt (r.tPack.lt 500) s.prot.tOt (r.tPack.ge 600) 1000

/-- The severe conditions, each with its timer and whether it has qualified (R65). -/
def ovSevereAfter (r : PackRecord) (s : State) : Option Ms × Bool :=
  qualify s.now s.prot.tOvSevere (highestAbove r.cells 4400) 100

def uvSevereAfter (r : PackRecord) (s : State) : Option Ms × Bool :=
  qualify s.now s.prot.tUvSevere (lowestBelow r.cells 1500) 1000

def Prot.withCellOv (p : Prot) (v : Bool × Option Ms) : Prot :=
  { p with tOv := v.2, active := { p.active with cellOv := v.1 } }

def Prot.withCellUv (p : Prot) (v : Bool × Option Ms) : Prot :=
  { p with tUv := v.2, active := { p.active with cellUv := v.1 } }

def Prot.withDsgOt (p : Prot) (v : Bool × Option Ms) : Prot :=
  { p with tOt := v.2, active := { p.active with dsgOt := v.1 } }

def Prot.withSense (p : Prot) (v : Bool × Option Ms) : Prot :=
  { p with senseTimer := v.2, active := { p.active with sense := v.1 } }

def Prot.withOvSevere (p : Prot) (j : Option Ms × Bool) : Prot :=
  { p with tOvSevere := j.1, lockedOut := p.lockedOut || j.2,
           lockout := { p.lockout with ovSevere := p.lockout.ovSevere || j.2 } }

def Prot.withUvSevere (p : Prot) (j : Option Ms × Bool) : Prot :=
  { p with tUvSevere := j.1, lockedOut := p.lockedOut || j.2,
           lockout := { p.lockout with uvSevere := p.lockout.uvSevere || j.2 } }

/-! ### The causes one by one (R60 to R65) -/

theorem judgeCellOv_as (r : PackRecord) (s : State) :
    JudgedAs s (judgeCellOv r s) (s.prot.withCellOv (cellOvAfter r s))
      (s.prot.active.cellOv = false ∧ (cellOvAfter r s).1 = true) .cellOv (highestEntry r.cells).1
      (highestEntry r.cells).2 := by
  unfold judgeCellOv Prot.withCellOv
  by_cases hactive : s.prot.active.cellOv = true
  · have hv : cellOvAfter r s = (!r.cells.all (fun c => c.numLt 4150), s.prot.tOv) := verdict_active _ _ _ _ _ hactive
    rw [if_pos hactive, hv]
    split
    · next hrel => exact judgedAs_quiet (by simp [hrel]) (noted_setProt _ _) rfl (by simp [hactive])
    · next hrel =>
      refine judgedAs_quiet ?_ (.refl s) rfl (by simp [hactive])
      simp only [Bool.not_eq_true] at hrel
      simp [hrel, ← hactive]
  · simp only [Bool.not_eq_true] at hactive
    have hv : cellOvAfter r s = _ := verdict_inactive _ _ _ _ _ hactive
    rw [if_neg (by simp [hactive])]
    simp only [hv]
    generalize qualify s.now s.prot.tOv (highestAbove r.cells 4250) 100 = j
    split
    · next hj => exact judgedAs_fault (by simp [hj]) (noted_setProt _ _) rfl
    · next hj =>
      simp only [Bool.not_eq_true] at hj
      exact judgedAs_quiet (by simp [hj, ← hactive]) (noted_setProt _ _) rfl (by simp [hj])

theorem judgeCellUv_as (r : PackRecord) (s : State) :
    JudgedAs s (judgeCellUv r s) (s.prot.withCellUv (cellUvAfter r s))
      (s.prot.active.cellUv = false ∧ (cellUvAfter r s).1 = true) .cellUv (lowestEntry r.cells).1 (lowestEntry r.cells).2 ∧
    (judgeCellUv r s).pack
      = if s.prot.active.cellUv = false ∧ (cellUvAfter r s).1 = true then s.pack.calibrate 0 else s.pack := by
  unfold judgeCellUv Prot.withCellUv
  by_cases hactive : s.prot.active.cellUv = true
  · have hv : cellUvAfter r s = (!((lowestCell r.cells).isSome && !lowestBelow r.cells 3100 && noneAbsent r.cells), s.prot.tUv) :=
      verdict_active _ _ _ _ _ hactive
    rw [if_pos hactive, hv]
    generalize ((lowestCell r.cells).isSome && !lowestBelow r.cells 3100 && noneAbsent r.cells) = released
    split
    · next hrel =>
      exact ⟨judgedAs_quiet (by simp [hrel]) (noted_setProt _ _) rfl (by simp [hactive]), by simp [hactive]⟩
    · next hrel =>
      refine ⟨judgedAs_quiet ?_ (.refl s) rfl (by simp [hactive]), by simp [hactive]⟩
      simp only [Bool.not_eq_true] at hrel
      simp [hrel, ← hactive]
  · simp only [Bool.not_eq_true] at hactive
    have hv : cellUvAfter r s = _ := verdict_inactive _ _ _ _ _ hactive
    rw [if_neg (by simp [hactive])]
    simp only [hv]
    generalize qualify s.now s.prot.tUv (lowestBelow r.cells 2900) 500 = j
    split
    · next hj => exact ⟨judgedAs_fault (by simp [hj]) ⟨rfl, rfl⟩ rfl, by simp [hactive, hj]⟩
    · next hj =>
      simp only [Bool.not_eq_true] at hj
      exact ⟨judgedAs_quiet (by simp [hj, ← hactive]) (noted_setProt _ _) rfl (by simp [hj]), by simp [hj]⟩

theorem judgeDsgOt_as (r : PackRecord) (s : State) :
    JudgedAs s (judgeDsgOt r s) (s.prot.withDsgOt (dsgOtAfter r s))
      (s.prot.active.dsgOt = false ∧ (dsgOtAfter r s).1 = true) .dsgOt r.tPack none := by
  unfold judgeDsgOt Prot.withDsgOt
  by_cases hactive : s.prot.active.dsgOt = true
  · have hv : dsgOtAfter r s = (!r.tPack.lt 500, s.prot.tOt) := verdict_active _ _ _ _ _ hactive
    rw [if_pos hactive, hv]
    split
    · next hrel => exact judgedAs_quiet (by simp [hrel]) (noted_setProt _ _) rfl (by simp [hactive])
    · next hrel =>
      refine judgedAs_quiet ?_ (.refl s) rfl (by simp [hactive])
      simp only [Bool.not_eq_true] at hrel
      simp [hrel, ← hactive]
  · simp only [Bool.not_eq_true] at hactive
    have hv : dsgOtAfter r s = _ := verdict_inactive _ _ _ _ _ hactive
    rw [if_neg (by simp [hactive])]
    simp only [hv]
    generalize qualify s.now s.prot.tOt (r.tPack.ge 600) 1000 = j
    split
    · next hj => exact judgedAs_fault (by simp [hj]) (noted_setProt _ _) rfl
    · next hj =>
      simp only [Bool.not_eq_true] at hj
      exact judgedAs_quiet (by simp [hj, ← hactive]) (noted_setProt _ _) rfl (by simp [hj])

theorem judgeOvSevere_as (r : PackRecord) (s : State) :
    JudgedAs s (judgeOvSevere r s) (s.prot.withOvSevere (ovSevereAfter r s)) ((ovSevereAfter r s).2 = true) .ovSevere
      (highestEntry r.cells).1 (highestEntry r.cells).2 := by
  unfold judgeOvSevere ovSevereAfter Prot.withOvSevere
  dsimp only
  generalize qualify s.now s.prot.tOvSevere (highestAbove r.cells 4400) 100 = j
  split
  · next hj => exact judgedAs_fault (by simp [hj]) (noted_setProt _ _) rfl
  · next hj =>
    simp only [Bool.not_eq_true] at hj
    exact judgedAs_quiet (by simp [hj]) (noted_setProt _ _) rfl (by simp [hj])

theorem judgeUvSevere_as (r : PackRecord) (s : State) :
    JudgedAs s (judgeUvSevere r s) (s.prot.withUvSevere (uvSevereAfter r s)) ((uvSevereAfter r s).2 = true) .uvSevere
      (lowestEntry r.cells).1 (lowestEntry r.cells).2 := by
  unfold judgeUvSevere uvSevereAfter Prot.withUvSevere
  dsimp only
  generalize qualify s.now s.prot.tUvSevere (lowestBelow r.cells 1500) 1000 = j
  split
  · next hj => exact judgedAs_fault (by simp [hj]) (noted_setProt _ _) rfl
  · next hj =>
    simp only [Bool.not_eq_true] at hj
    exact judgedAs_quiet (by simp [hj]) (noted_setProt _ _) rfl (by simp [hj])

/-- CHG_OC after an evaluation, with its two timers (R64). -/
structure ChgOc where
  active : Bool
  ceiling : Option Ms
  need : Option Ms

/-- What the evaluation makes of CHG_OC (R64). -/
def chgOcAfter (r : PackRecord) (limit : Nat) (s : State) : ChgOc :=
  if s.prot.active.chgOc then ⟨true, s.prot.tChgCeiling, s.prot.tChgNeed⟩
  else if s.stick.state = .detached then ⟨false, none, none⟩
  else
    let ceiling := qualify s.now s.prot.tChgCeiling (r.packI.gt 5000) 100
    let need := qualify s.now s.prot.tChgNeed (r.packI.gt ((limit + 500 : Nat) : Int)) 1000
    ⟨ceiling.2 || need.2, ceiling.1, need.1⟩

def Prot.withChgOc (p : Prot) (v : ChgOc) : Prot :=
  { p with tChgCeiling := v.ceiling, tChgNeed := v.need, active := { p.active with chgOc := v.active } }

theorem chgOcAfter_active {r : PackRecord} {limit : Nat} {s : State} (h : s.prot.active.chgOc = true) :
    chgOcAfter r limit s = ⟨true, s.prot.tChgCeiling, s.prot.tChgNeed⟩ := by
  simp [chgOcAfter, h]

theorem chgOcAfter_detached {r : PackRecord} {limit : Nat} {s : State} (h : s.prot.active.chgOc = false)
    (hdet : s.stick.state = .detached) : chgOcAfter r limit s = ⟨false, none, none⟩ := by
  simp [chgOcAfter, h, hdet]

theorem chgOcAfter_attached {r : PackRecord} {limit : Nat} {s : State} (h : s.prot.active.chgOc = false)
    (hdet : s.stick.state ≠ .detached) : chgOcAfter r limit s =
      ⟨(qualify s.now s.prot.tChgCeiling (r.packI.gt 5000) 100).2
          || (qualify s.now s.prot.tChgNeed (r.packI.gt ((limit + 500 : Nat) : Int)) 1000).2,
        (qualify s.now s.prot.tChgCeiling (r.packI.gt 5000) 100).1,
        (qualify s.now s.prot.tChgNeed (r.packI.gt ((limit + 500 : Nat) : Int)) 1000).1⟩ := by
  simp only [chgOcAfter, h, hdet, Bool.false_eq_true, if_false]

theorem judgeChgOc_as (r : PackRecord) (limit : Nat) (s : State) :
    JudgedAs s (judgeChgOc r limit s) (s.prot.withChgOc (chgOcAfter r limit s))
      (s.prot.active.chgOc = false ∧ (chgOcAfter r limit s).active = true) .chgOc r.packI (some limit) := by
  unfold judgeChgOc Prot.withChgOc
  by_cases hactive : s.prot.active.chgOc = true
  · simp only [chgOcAfter_active hactive]
    rw [if_pos hactive]
    exact judgedAs_quiet (by simp [← hactive]) (.refl s) rfl (by simp [hactive])
  · simp only [Bool.not_eq_true] at hactive
    rw [if_neg (by simp [hactive])]
    by_cases hdet : s.stick.state = .detached
    · simp only [chgOcAfter_detached hactive hdet]
      rw [if_pos hdet]
      exact judgedAs_quiet (by simp [← hactive]) (noted_setProt _ _) rfl (by simp)
    · simp only [chgOcAfter_attached hactive hdet]
      rw [if_neg hdet]
      generalize qualify s.now s.prot.tChgCeiling (r.packI.gt 5000) 100 = ceiling
      generalize qualify s.now s.prot.tChgNeed (r.packI.gt ((limit + 500 : Nat) : Int)) 1000 = need
      split
      · next hj => exact judgedAs_fault (by simp [hj]) (noted_setProt _ _) rfl
      · next hj =>
        simp only [Bool.not_eq_true] at hj
        exact judgedAs_quiet (by simp [hj, ← hactive]) (noted_setProt _ _) rfl (by simp [hj])

/-- SENSE and its timer after an evaluation (R62). -/
def senseAfter (r : PackRecord) (s : State) : Bool × Option Ms :=
  if s.prot.active.sense then
    (!(qualify s.now s.prot.senseTimer (firstAbsent r).isNone 1000).2,
      (qualify s.now s.prot.senseTimer (firstAbsent r).isNone 1000).1)
  else ((firstAbsent r).isSome, s.prot.senseTimer)

theorem judgeSense_as (r : PackRecord) (s : State) :
    JudgedAs s (judgeSense r s) (s.prot.withSense (senseAfter r s))
      (s.prot.active.sense = false ∧ (firstAbsent r).isSome = true) .sense
      (.num ((firstAbsent r).getD 0 : Nat)) none := by
  unfold judgeSense Prot.withSense
  simp only [senseAfter]
  split
  · next hactive => exact judgedAs_quiet (by simp [hactive]) (noted_setProt _ _) rfl (by simp [hactive])
  · next k hactive hk =>
    rw [hk]
    exact judgedAs_fault (by simp [hactive]) (noted_setProt _ _) rfl
  · next hactive hk =>
    refine judgedAs_quiet ?_ (.refl s) rfl (by simp [hk])
    simp only [hactive, hk, Bool.false_eq_true, if_false, Option.isSome_none]
    rw [← hactive]

/-- DSG_OC after an evaluation: the cause and its timer, whether it has been asserted, and the list of its events (R63). -/
structure DsgOc where
  active : Bool
  timer : Option Ms
  asserted : Bool
  events : List Ms

/-- What the evaluation makes of DSG_OC (R63). -/
def dsgOcAfter (r : PackRecord) (s : State) : DsgOc :=
  let j := qualify s.now s.prot.tOc (r.packI.lt (-40000)) 20
  if s.prot.active.dsgOc then ⟨true, s.prot.tOc, false, s.prot.ocEvents⟩
  else if j.2 then ⟨true, j.1, true, ocAppend s.prot.ocEvents r.scanTime⟩
  else ⟨false, j.1, false, s.prot.ocEvents⟩

/-- OC_REPEAT is asserted (R63). -/
def repeatAfter (r : PackRecord) (s : State) : Bool := (dsgOcAfter r s).asserted && ocRepeats (dsgOcAfter r s).events

/-- OC_REPEAT asserted where its condition calls for it (R65). -/
def Prot.withRepeat (p : Prot) (repeats : Bool) : Prot :=
  { p with lockedOut := p.lockedOut || repeats, lockout := { p.lockout with ocRepeat := p.lockout.ocRepeat || repeats } }

def Prot.withDsgOc (p : Prot) (v : DsgOc) (due : Ms) : Prot :=
  { p with tOc := v.timer, active := { p.active with dsgOc := v.active }, ocEvents := v.events
           ocClear := if v.asserted then some due else p.ocClear }

/-- What DSG_OC, and the OC_REPEAT that it can bring, make of the protection record and the ring (R63, R65). -/
structure DsgOcJudged (r : PackRecord) (s t : State) : Prop where
  prot : t.prot = (s.prot.withDsgOc (dsgOcAfter r s) (s.after 5000)).withRepeat (repeatAfter r s)
  noted : Noted s t
  grown : Grown 2 s t
  enters : (dsgOcAfter r s).asserted = true → ∃ u, Grown 1 u t ∧
    u.ctl.ring.getLast? = some (faultEntry .packMonitor .dsgOc r.packI (some (.num (dsgOcAfter r s).events.length)) s)
  repeats : repeatAfter r s = true →
    ∃ e, t.ctl.ring.getLast? = some e ∧ e.time = s.now ∧ e.source = .packMonitor ∧ e.code = .ocRepeat ∧
      e.value = r.packI.fit16 ∧ e.second = none

theorem judgeRepeat_as (r : PackRecord) (s : State) :
    JudgedAs s (judgeRepeat r s)
      (s.prot.withRepeat (ocRepeats s.prot.ocEvents))
      (ocRepeats s.prot.ocEvents = true) .ocRepeat r.packI none := by
  unfold judgeRepeat Prot.withRepeat
  split
  · next h => exact judgedAs_fault (by simp [h]) (noted_setProt _ _) rfl
  · next h =>
    simp only [Bool.not_eq_true] at h
    exact judgedAs_quiet (by simp [h]) (.refl s) rfl (by simp [h])

theorem judgeDsgOc_as (r : PackRecord) (s : State) : DsgOcJudged r s (judgeDsgOc r s) := by
  unfold judgeDsgOc
  by_cases hactive : s.prot.active.dsgOc = true
  · have hv : dsgOcAfter r s = ⟨true, s.prot.tOc, false, s.prot.ocEvents⟩ := by simp [dsgOcAfter, hactive]
    rw [if_pos hactive]
    exact { prot := by
              simp only [Prot.withRepeat, Prot.withDsgOc, repeatAfter, hv, Bool.false_eq_true, if_false, Bool.false_and,
                Bool.or_false]
              rw [← hactive]
            noted := .refl s, grown := (Grown.same rfl).mono (by decide)
            enters := by simp [hv], repeats := by simp [repeatAfter, hv] }
  · simp only [Bool.not_eq_true] at hactive
    rw [if_neg (by simp [hactive])]
    cases hj : (qualify s.now s.prot.tOc (r.packI.lt (-40000)) 20).2 with
    | false =>
      have hv : dsgOcAfter r s
          = ⟨false, (qualify s.now s.prot.tOc (r.packI.lt (-40000)) 20).1, false, s.prot.ocEvents⟩ := by
        simp only [dsgOcAfter, hactive, hj, Bool.false_eq_true, if_false]
      simp only [hj, Bool.false_eq_true, if_false]
      exact { prot := by
                simp only [Prot.withRepeat, Prot.withDsgOc, repeatAfter, hv, Bool.false_eq_true, if_false, Bool.false_and,
                Bool.or_false]
                rw [← hactive]
              noted := noted_setProt _ _, grown := (Grown.same rfl).mono (by decide)
              enters := by simp [hv], repeats := by simp [repeatAfter, hv] }
    | true =>
      have hv : dsgOcAfter r s = ⟨true, (qualify s.now s.prot.tOc (r.packI.lt (-40000)) 20).1, true,
          ocAppend s.prot.ocEvents r.scanTime⟩ := by
        simp only [dsgOcAfter, hactive, hj, Bool.false_eq_true, if_false, if_true]
      simp only [hj, if_true, assertDsgOc]
      generalize (qualify s.now s.prot.tOc (r.packI.lt (-40000)) 20).1 = timer at hv
      let p : Prot := { s.prot with
        tOc := timer, active := { s.prot.active with dsgOc := true }, ocEvents := ocAppend s.prot.ocEvents r.scanTime,
        ocClear := some (s.after 5000) }
      have hfault : JudgedAs s (packFault .dsgOc r.packI (some (ocAppend s.prot.ocEvents r.scanTime).length)
          { s with prot := p }) p True .dsgOc r.packI (some (ocAppend s.prot.ocEvents r.scanTime).length) :=
        judgedAs_fault rfl (noted_setProt _ _) rfl
      have hrepeat := judgeRepeat_as r (packFault .dsgOc r.packI (some (ocAppend s.prot.ocEvents r.scanTime).length)
        { s with prot := p })
      show DsgOcJudged r s (judgeRepeat r (packFault .dsgOc r.packI (some (ocAppend s.prot.ocEvents r.scanTime).length)
        { s with prot := p }))
      generalize packFault .dsgOc r.packI (some (ocAppend s.prot.ocEvents r.scanTime).length) { s with prot := p } = u
        at hfault hrepeat ⊢
      have hevents : u.prot.ocEvents = ocAppend s.prot.ocEvents r.scanTime := by rw [hfault.prot]
      exact
        { prot := by rw [hrepeat.prot, hevents, repeatAfter, hv, hfault.prot]; rfl
          noted := hfault.noted.trans hrepeat.noted
          grown := hfault.grown.trans hrepeat.grown
          enters := fun _ => ⟨u, hrepeat.grown, by rw [hv]; exact hfault.enters trivial⟩
          repeats := fun hr => ⟨_, hrepeat.enters (by rw [hevents]; rw [repeatAfter, hv] at hr; exact hr), hfault.noted.now, rfl,
            rfl, rfl, rfl⟩ }

end Sys2Proof.Machine

/-! The evaluation of all causes at a publication, and what the publication makes of the pack, the protection record and
the fault ring (sections 3.1 to 3.5). -/

namespace Sys2Proof.Machine

open Sys2Proof

/-! ### All causes (R59) -/

/-- The protection record after the evaluation of every cause, before the permissions (R59). -/
def protAfter (r : PackRecord) (limit : Nat) (s : State) : Prot :=
  { s.prot with
    active := ⟨(cellOvAfter r s).1, (cellUvAfter r s).1, (dsgOtAfter r s).1, (dsgOcAfter r s).active,
      (chgOcAfter r limit s).active, (senseAfter r s).1⟩
    tOv := (cellOvAfter r s).2, tUv := (cellUvAfter r s).2, tOt := (dsgOtAfter r s).2, tOc := (dsgOcAfter r s).timer
    tChgCeiling := (chgOcAfter r limit s).ceiling, tChgNeed := (chgOcAfter r limit s).need
    senseTimer := (senseAfter r s).2, tOvSevere := (ovSevereAfter r s).1, tUvSevere := (uvSevereAfter r s).1
    ocEvents := (dsgOcAfter r s).events
    ocClear := if (dsgOcAfter r s).asserted then some (s.after 5000) else s.prot.ocClear
    lockedOut := s.prot.lockedOut || repeatAfter r s || (ovSevereAfter r s).2 || (uvSevereAfter r s).2
    lockout := ⟨s.prot.lockout.ovSevere || (ovSevereAfter r s).2, s.prot.lockout.uvSevere || (uvSevereAfter r s).2,
      s.prot.lockout.ocRepeat || repeatAfter r s, s.prot.lockout.strap⟩ }

/-- CELL_UV is asserted. -/
def uvAsserted (r : PackRecord) (s : State) : Bool := !s.prot.active.cellUv && (cellUvAfter r s).1

/-- What the evaluation of every cause makes of a state (R57, R59, R68). -/
structure CausesJudged (r : PackRecord) (limit : Nat) (s t : State) : Prop where
  prot : t.prot = protAfter r limit s
  pack : t.pack = if uvAsserted r s then s.pack.calibrate 0 else s.pack
  noted : Noted s t
  grown : Grown 9 s t
  cellOv : ∀ u k, s.prot.active.cellOv = false → (cellOvAfter r s).1 = true → Grown k t u → k ≤ 6 →
    Spec.Entered s u .cellOv (highestEntry r.cells).1.fit16 ((highestEntry r.cells).2.map (fun n => (Reading.num n).fit16))
  cellUv : ∀ u k, s.prot.active.cellUv = false → (cellUvAfter r s).1 = true → Grown k t u → k ≤ 6 →
    Spec.Entered s u .cellUv (lowestEntry r.cells).1.fit16 ((lowestEntry r.cells).2.map (fun n => (Reading.num n).fit16))
  dsgOt : ∀ u k, s.prot.active.dsgOt = false → (dsgOtAfter r s).1 = true → Grown k t u → k ≤ 6 →
    Spec.Entered s u .dsgOt r.tPack.fit16 none
  dsgOc : ∀ u k, (dsgOcAfter r s).asserted = true → Grown k t u → k ≤ 6 →
    Spec.Entered s u .dsgOc r.packI.fit16 (some (Reading.num (dsgOcAfter r s).events.length).fit16)
  ocRepeat : ∀ u k, repeatAfter r s = true → Grown k t u → k ≤ 6 → Spec.Entered s u .ocRepeat r.packI.fit16 none
  chgOc : ∀ u k, s.prot.active.chgOc = false → (chgOcAfter r limit s).active = true → Grown k t u → k ≤ 6 →
    Spec.Entered s u .chgOc r.packI.fit16 (some (Reading.num limit).fit16)
  sense : ∀ u k, s.prot.active.sense = false → (firstAbsent r).isSome = true → Grown k t u → k ≤ 6 →
    Spec.Entered s u .sense (Reading.num ((firstAbsent r).getD 0 : Nat)).fit16 none
  ovSevere : ∀ u k, (ovSevereAfter r s).2 = true → Grown k t u → k ≤ 6 →
    Spec.Entered s u .ovSevere (highestEntry r.cells).1.fit16 ((highestEntry r.cells).2.map (fun n => (Reading.num n).fit16))
  uvSevere : ∀ u k, (uvSevereAfter r s).2 = true → Grown k t u → k ≤ 6 →
    Spec.Entered s u .uvSevere (lowestEntry r.cells).1.fit16 ((lowestEntry r.cells).2.map (fun n => (Reading.num n).fit16))

/-- An entry of the pack monitor placed last stays in the ring of a publication. -/
theorem entered_of_last {s s0 s1 t : State} {code : FaultCode} {v : Reading} {w : Option Nat} {k : Nat}
    (hlast : s1.ctl.ring.getLast? = some (faultEntry .packMonitor code v (w.map (fun n => .num n)) s0))
    (hnow : s0.now = s.now) (hgrown : Grown k s1 t) (hk : k ≤ 15) :
    Spec.Entered s t code v.fit16 (w.map (fun n => (Reading.num n).fit16)) :=
  ⟨_, hgrown.mem hk hlast, hnow, rfl, rfl, rfl, by cases w <;> rfl⟩

theorem dsgOcAfter_congr (r : PackRecord) {s t : State} (hnow : t.now = s.now)
    (hactive : t.prot.active.dsgOc = s.prot.active.dsgOc) (htimer : t.prot.tOc = s.prot.tOc)
    (hevents : t.prot.ocEvents = s.prot.ocEvents) : dsgOcAfter r t = dsgOcAfter r s := by
  simp only [dsgOcAfter, hnow, hactive, htimer, hevents]

theorem chgOcAfter_congr (r : PackRecord) (limit : Nat) {s t : State} (hnow : t.now = s.now)
    (hactive : t.prot.active.chgOc = s.prot.active.chgOc) (hceiling : t.prot.tChgCeiling = s.prot.tChgCeiling)
    (hneed : t.prot.tChgNeed = s.prot.tChgNeed) (hstick : t.stick = s.stick) :
    chgOcAfter r limit t = chgOcAfter r limit s := by
  simp only [chgOcAfter, hnow, hactive, hceiling, hneed, hstick]

theorem senseAfter_congr (r : PackRecord) {s t : State} (hnow : t.now = s.now)
    (hactive : t.prot.active.sense = s.prot.active.sense) (htimer : t.prot.senseTimer = s.prot.senseTimer) :
    senseAfter r t = senseAfter r s := by
  simp only [senseAfter, hnow, hactive, htimer]

theorem judgeCauses_as (r : PackRecord) (limit : Nat) (s : State) :
    CausesJudged r limit s (judgeCauses r limit s) := by
  have h1 := judgeCellOv_as r s
  obtain ⟨h2, hpack2⟩ := judgeCellUv_as r (judgeCellOv r s)
  have hpack1 : (judgeCellOv r s).pack = s.pack := by
    unfold judgeCellOv
    split <;> dsimp only <;> split <;> simp
  unfold judgeCauses
  generalize judgeCellOv r s = s1 at *
  have h3 := judgeDsgOt_as r (judgeCellUv r s1)
  have hpack3 : (judgeDsgOt r (judgeCellUv r s1)).pack = (judgeCellUv r s1).pack := by
    generalize judgeCellUv r s1 = u
    unfold judgeDsgOt
    split <;> dsimp only <;> split <;> simp
  generalize judgeCellUv r s1 = s2 at *
  have h4 := judgeDsgOc_as r (judgeDsgOt r s2)
  have hpack4 : (judgeDsgOc r (judgeDsgOt r s2)).pack = (judgeDsgOt r s2).pack := by
    generalize judgeDsgOt r s2 = u
    unfold judgeDsgOc assertDsgOc judgeRepeat
    split
    · rfl
    · dsimp only; split
      · split <;> simp
      · rfl
  generalize judgeDsgOt r s2 = s3 at *
  have h5 := judgeChgOc_as r limit (judgeDsgOc r s3)
  have hpack5 : (judgeChgOc r limit (judgeDsgOc r s3)).pack = (judgeDsgOc r s3).pack := by
    generalize judgeDsgOc r s3 = u
    unfold judgeChgOc
    split
    · rfl
    · split
      · rfl
      · dsimp only; split <;> simp
  generalize judgeDsgOc r s3 = s4 at *
  have h6 := judgeSense_as r (judgeChgOc r limit s4)
  have hpack6 : (judgeSense r (judgeChgOc r limit s4)).pack = (judgeChgOc r limit s4).pack := by
    generalize judgeChgOc r limit s4 = u
    unfold judgeSense
    split <;> simp
  generalize judgeChgOc r limit s4 = s5 at *
  have h7 := judgeOvSevere_as r (judgeSense r s5)
  have hpack7 : (judgeOvSevere r (judgeSense r s5)).pack = (judgeSense r s5).pack := by
    generalize judgeSense r s5 = u
    unfold judgeOvSevere
    dsimp only; split <;> simp
  generalize judgeSense r s5 = s6 at *
  have h8 := judgeUvSevere_as r (judgeOvSevere r s6)
  have hpack8 : (judgeUvSevere r (judgeOvSevere r s6)).pack = (judgeOvSevere r s6).pack := by
    generalize judgeOvSevere r s6 = u
    unfold judgeUvSevere
    dsimp only; split <;> simp
  generalize judgeOvSevere r s6 = s7 at *
  generalize judgeUvSevere r s7 = s8 at *
  have n1 := h1.noted
  have n2 := n1.trans h2.noted
  have n3 := n2.trans h3.noted
  have n4 := n3.trans h4.noted
  have n5 := n4.trans h5.noted
  have n6 := n5.trans h6.noted
  have n7 := n6.trans h7.noted
  have p1 : s1.prot = s.prot.withCellOv (cellOvAfter r s) := h1.prot
  have e2 : cellUvAfter r s1 = cellUvAfter r s := by rw [cellUvAfter, p1, n1.now]; rfl
  have p2 : s2.prot = s1.prot.withCellUv (cellUvAfter r s) := by rw [h2.prot, e2]
  have e3 : dsgOtAfter r s2 = dsgOtAfter r s := by rw [dsgOtAfter, p2, p1, n2.now]; rfl
  have p3 : s3.prot = s2.prot.withDsgOt (dsgOtAfter r s) := by rw [h3.prot, e3]
  have e4 : dsgOcAfter r s3 = dsgOcAfter r s :=
    dsgOcAfter_congr r n3.now (by rw [p3, p2, p1]; rfl) (by rw [p3, p2, p1]; rfl) (by rw [p3, p2, p1]; rfl)
  have p4 : s4.prot = (s3.prot.withDsgOc (dsgOcAfter r s) (s.after 5000)).withRepeat (repeatAfter r s) := by
    rw [h4.prot, repeatAfter, e4, State.after, show s3.ctl.partTime = s.ctl.partTime from n3.now]
    rfl
  have e5 : chgOcAfter r limit s4 = chgOcAfter r limit s :=
    chgOcAfter_congr r limit n4.now (by rw [p4, p3, p2, p1]; rfl) (by rw [p4, p3, p2, p1]; rfl)
      (by rw [p4, p3, p2, p1]; rfl) n4.stick
  have p5 : s5.prot = s4.prot.withChgOc (chgOcAfter r limit s) := by rw [h5.prot, e5]
  have e6 : senseAfter r s5 = senseAfter r s :=
    senseAfter_congr r n5.now (by rw [p5, p4, p3, p2, p1]; rfl) (by rw [p5, p4, p3, p2, p1]; rfl)
  have p6 : s6.prot = s5.prot.withSense (senseAfter r s) := by rw [h6.prot, e6]
  have e7 : ovSevereAfter r s6 = ovSevereAfter r s := by rw [ovSevereAfter, p6, p5, p4, p3, p2, p1, n6.now]; rfl
  have p7 : s7.prot = s6.prot.withOvSevere (ovSevereAfter r s) := by rw [h7.prot, e7]
  have e8 : uvSevereAfter r s7 = uvSevereAfter r s := by rw [uvSevereAfter, p7, p6, p5, p4, p3, p2, p1, n7.now]; rfl
  have p8 : s8.prot = protAfter r limit s := by rw [h8.prot, e8, p7, p6, p5, p4, p3, p2, p1]; rfl
  have g8 := h8.grown
  have g7 := h7.grown.trans g8
  have g6 := h6.grown.trans g7
  have g5 := h5.grown.trans g6
  have g4 := h4.grown.trans g5
  have g3 := h3.grown.trans g4
  have g2 := h2.grown.trans g3
  refine
    { prot := p8, noted := n7.trans h8.noted, grown := h1.grown.trans g2, pack := ?_, cellOv := ?_, cellUv := ?_,
      dsgOt := ?_, dsgOc := ?_, ocRepeat := ?_, chgOc := ?_, sense := ?_, ovSevere := ?_, uvSevere := ?_ }
  · have hasserted : (s1.prot.active.cellUv = false ∧ (cellUvAfter r s1).1 = true) ↔ uvAsserted r s = true := by
      rw [e2, p1]
      simp [uvAsserted, Prot.withCellOv]
    simp only [hpack8, hpack7, hpack6, hpack5, hpack4, hpack3, hpack2, hpack1, hasserted]
  · intro u k hs hv hg hk
    exact entered_of_last (h1.enters ⟨hs, hv⟩) rfl (g2.trans hg) (by omega)
  · intro u k hs hv hg hk
    exact entered_of_last (h2.enters ⟨by rw [p1]; exact hs, by rw [e2]; exact hv⟩) n1.now (g3.trans hg) (by omega)
  · intro u k hs hv hg hk
    exact entered_of_last (w := none) (h3.enters ⟨by rw [p2, p1]; exact hs, by rw [e3]; exact hv⟩) n2.now
      (g4.trans hg) (by omega)
  · intro u k hv hg hk
    obtain ⟨x, hx, hlast⟩ := h4.enters (by rw [e4]; exact hv)
    rw [e4] at hlast
    exact entered_of_last (w := some (dsgOcAfter r s).events.length) hlast n3.now (hx.trans (g5.trans hg)) (by omega)
  · intro u k hv hg hk
    obtain ⟨e, hlast, htime, hrest⟩ := h4.repeats (by rw [repeatAfter, e4]; exact hv)
    exact ⟨e, (g5.trans hg).mem (by omega) hlast, htime.trans n3.now, hrest⟩
  · intro u k hs hv hg hk
    exact entered_of_last (w := some limit) (h5.enters ⟨by rw [p4, p3, p2, p1]; exact hs, by rw [e5]; exact hv⟩) n4.now
      (g6.trans hg) (by omega)
  · intro u k hs hv hg hk
    exact entered_of_last (w := none) (h6.enters ⟨by rw [p5, p4, p3, p2, p1]; exact hs, hv⟩) n5.now (g7.trans hg)
      (by omega)
  · intro u k hv hg hk
    exact entered_of_last (h7.enters (by rw [e7]; exact hv)) n6.now (g8.trans hg) (by omega)
  · intro u k hv hg hk
    exact entered_of_last (h8.enters (by rw [e8]; exact hv)) n7.now hg (by omega)

/-! ### The record taken, and protection (R51, R66) -/

/-- The pack once the record is replaced and the charge counter has taken it (R51, R54, R56). -/
def packTaken (r : PackRecord) (s : State) : Pack :=
  { (s.pack.integrate r.packI s.sincePublication).rest r s.now with record := some r, scanning := false }

/-- The pack once the causes are judged: the assertion of CELL_UV empties it (R57). -/
def packJudged (r : PackRecord) (s : State) : Pack :=
  if uvAsserted r s then (packTaken r s).calibrate 0 else packTaken r s

theorem takeRecord_eq (r : PackRecord) (s : State) :
    ∃ g, takeRecord r s = { s with pack := packTaken r s, gov := g } ∧ g.limits = s.gov.limits := by
  obtain ⟨g, h, hlimits, -⟩ := recomputeAllowance_eq { s with pack := packTaken r s }
  exact ⟨g, h, hlimits⟩

theorem evaluateProtection_pack (before : Prot) (s : State) :
    ∃ n, (evaluateProtection before s).pack = { s.pack with need := n } := by
  rw [evaluateProtection_eq, settleLevel]
  split
  · exact ⟨s.pack.need, by simp⟩
  · exact ⟨_, by simp only [evaluateLevel_pack, recomputeNeed, stopIfLost_pack, applyPermissions_pack]; rfl⟩

/-- The protection record after a publication, but for the level and the time of last change. -/
def protPublished (r : PackRecord) (limit : Nat) (s : State) : Prot :=
  { protAfter r limit s with
      evaluated := true,
      dischargeOk := dischargePermitted { protAfter r limit s with evaluated := true },
      chargeOk := chargePermitted { protAfter r limit s with evaluated := true } }

/-- What a publication makes of a state by the end of protection: the record taken, the causes judged, and what their change
does (R51, R59, R66). -/
structure Protected (r : PackRecord) (s u : State) : Prop where
  prot : ∃ x y, u.prot = { protPublished r s.pack.need.limit s with level := x, lastChange := y }
  stands : Spec.standingFollows u
  pack : ∃ n, u.pack = { packJudged r s with need := n }
  ctl : u.ctl = { s.ctl with ring := u.ctl.ring, nextSeq := u.ctl.nextSeq }
  stick : u.stick = s.stick
  store : u.store = s.store
  limits : u.gov.limits = s.gov.limits
  causes : ∃ s' u', s'.prot = { s.prot with evaluated := true } ∧ s'.ctl = s.ctl ∧ s'.stick = s.stick ∧
    CausesJudged r s.pack.need.limit s' u' ∧ u.ctl.ring = u'.ctl.ring

theorem protect_as (r : PackRecord) (s : State) :
    Protected r s (protect r s.pack.need.limit s.prot (takeRecord r s)) := by
  obtain ⟨g, htake, hlimits⟩ := takeRecord_eq r s
  rw [htake, protect]
  have hcauses := judgeCauses_as r s.pack.need.limit
    { s with pack := packTaken r s, gov := g, prot := { s.prot with evaluated := true } }
  generalize judgeCauses r s.pack.need.limit
    { s with pack := packTaken r s, gov := g, prot := { s.prot with evaluated := true } } = u' at hcauses
  have hprot : u'.prot = { protAfter r s.pack.need.limit s with evaluated := true } := hcauses.prot
  have hpack : u'.pack = packJudged r s := hcauses.pack
  obtain ⟨x, hx⟩ := evaluateProtection_prot s.prot u'
  obtain ⟨n, hn⟩ := evaluateProtection_pack s.prot u'
  exact
    { prot := ⟨_, x, by rw [hx, hprot]; rfl⟩
      stands := evaluateProtection_stands _ _
      pack := ⟨n, by rw [hn, hpack]⟩
      ctl := by rw [evaluateProtection_ctl]; exact hcauses.noted.ctl
      stick := by rw [evaluateProtection_stick]; exact hcauses.noted.stick
      store := by rw [evaluateProtection_store, hcauses.noted.others]
      limits := by rw [evaluateProtection_gov_limits, hcauses.noted.gov]; exact hlimits
      causes := ⟨{ s with pack := packTaken r s, gov := g, prot := { s.prot with evaluated := true } }, u', rfl, rfl, rfl,
        hcauses, by rw [evaluateProtection_ctl]⟩ }

/-! ### The rest of the pack monitor's work (R70 to R72) -/

/-- The state of a publication before the low cells are counted. -/
def monitored (r : PackRecord) (s : State) : State :=
  recomputeNeed (judgeFull r s.pack.need (rebalance r (protect r s.pack.need.limit s.prot (takeRecord r s))))

theorem publish_eq (scan : RawScan) (s : State) :
    publish scan s = judgeLowCells (formRecord s scan) (monitored (formRecord s scan) s) := rfl

theorem judgeFull_eq (r : PackRecord) (need : Need) (s : State) :
    ∃ p, judgeFull r need s = { s with pack := p } := by
  unfold judgeFull
  split
  · exact ⟨_, rfl⟩
  · dsimp only
    split <;> exact ⟨_, rfl⟩

/-- After protection the pack alone is written. -/
theorem monitored_eq (r : PackRecord) (s : State) : ∃ p, monitored r s
    = { protect r s.pack.need.limit s.prot (takeRecord r s) with pack := p } := by
  unfold monitored
  obtain ⟨p, hp⟩ := judgeFull_eq r s.pack.need (rebalance r (protect r s.pack.need.limit s.prot (takeRecord r s)))
  rw [hp]
  exact ⟨_, rfl⟩

/-- The low cells counted, with the automatic entry to SHIP, write the mode controller and the link, and the scan (R174). -/
structure LowCellsJudged (s t : State) : Prop where
  others : t = { s with ctl := t.ctl, host := t.host,
                        pack := { s.pack with scanTimer := t.pack.scanTimer, scanning := t.pack.scanning } }
  scanning : s.pack.scanning = false → t.pack.scanning = false
  straps : t.ctl.role = s.ctl.role ∧ t.ctl.cells = s.ctl.cells
  grown : Grown 1 s t

theorem autoShip_as (r : PackRecord) (s : State) : LowCellsJudged s (autoShip r s) := by
  have hlog := appendFault_others .modeController .autoShip (lowestEntry r.cells).1 (some (optReading s.soc)) s
  have hring := appendFault_ring_eq .modeController .autoShip (lowestEntry r.cells).1 (some (optReading s.soc)) s
  have hstraps : (appendFault .modeController .autoShip (lowestEntry r.cells).1 (some (optReading s.soc)) s).ctl.role
        = s.ctl.role ∧ (appendFault .modeController .autoShip (lowestEntry r.cells).1 (some (optReading s.soc)) s).ctl.cells
        = s.ctl.cells := by
    simp
  unfold autoShip shipDecision
  generalize appendFault .modeController .autoShip (lowestEntry r.cells).1 (some (optReading s.soc)) s = u at hlog hring hstraps ⊢
  have hreport := (handReport_reported (.mode .ship .lowCell)
    { u with ctl := { u.ctl with shipDecided := true, standbyTimer := none },
             pack := { u.pack with scanTimer := none, scanning := false },
             host := { u.host with supTimer := none } }).state
  constructor
  · rw [hreport, hlog]
  · intro _
    simp
  · simpa using hstraps
  · exact Grown.one (by simpa using hring)

end Sys2Proof.Machine

/-! The power modes (sections 3.1, 8.3, 9.3 and 9.4). -/

namespace Sys2Proof.Machine

open Sys2Proof

/-! ### A reply leaves everything but the link alone (R159) -/

theorem specReply_others (kind : Byte) (result : Nat) (fields : List Byte) (s : State) :
    Spec.reply kind result fields s = { s with host := (Spec.reply kind result fields s).host } := by
  unfold Spec.reply
  split <;> rfl

theorem specReply_ctl (kind : Byte) (result : Nat) (fields : List Byte) (s : State) :
    (Spec.reply kind result fields s).ctl = s.ctl := by rw [specReply_others]
theorem specReply_pack (kind : Byte) (result : Nat) (fields : List Byte) (s : State) :
    (Spec.reply kind result fields s).pack = s.pack := by rw [specReply_others]
theorem specReply_drive (kind : Byte) (result : Nat) (fields : List Byte) (s : State) :
    (Spec.reply kind result fields s).drive = s.drive := by rw [specReply_others]
theorem specReply_prot (kind : Byte) (result : Nat) (fields : List Byte) (s : State) :
    (Spec.reply kind result fields s).prot = s.prot := by rw [specReply_others]
theorem specReply_store (kind : Byte) (result : Nat) (fields : List Byte) (s : State) :
    (Spec.reply kind result fields s).store = s.store := by rw [specReply_others]
theorem specReply_debris (kind : Byte) (result : Nat) (fields : List Byte) (s : State) :
    (Spec.reply kind result fields s).debris = s.debris := by rw [specReply_others]

/-- A reply waits after its request. -/
theorem specReply_waits (kind : Byte) (result : Nat) (fields : List Byte) (s : State) :
    (Spec.reply kind result fields s).host.replies ≠ [] := by
  unfold Spec.reply
  split <;> simp

/-! ### The entries to ACTIVE and to STANDBY (R173) -/

@[simp] theorem beginTaking_pack_lastScan (rest : List HostFrame) (s : State) :
    (beginTaking rest s).pack.lastScan = s.pack.lastScan := by
  unfold beginTaking restartStandby enterActive
  split <;> simp

@[simp] theorem beginTaking_packRuns (rest : List HostFrame) (s : State) : (beginTaking rest s).packRuns = s.packRuns := by
  simp [State.packRuns, State.isStick]

@[simp] theorem beginTaking_idle (rest : List HostFrame) (s : State) : (beginTaking rest s).idle = s.idle := by
  simp [State.idle]

/-- What an entry to STANDBY leaves of the part (R49, R173). -/
structure StandbyEntered (s t : State) : Prop where
  power : t.ctl.power = .standby
  timer : t.ctl.standbyTimer = none
  scan : s.packRuns = true → t.pack.scanTimer = some (s.pack.lastScan + 1000)
  drive : t.drive = s.drive
  prot : t.prot = s.prot
  store : t.store = s.store
  debris : t.debris = s.debris
  q : t.pack.q = s.pack.q

/-- The follow-up of an event keeps the part in STANDBY, with its standby timer stopped. -/
theorem StandbyEntered.settled {s t : State} (h : StandbyEntered s t) (hlink : t.ctl.shipDecided = false) :
    StandbyEntered s (settle t) where
  power := by rw [settle_of_link hlink]; simpa using h.power
  timer := by
    have hruns : t.standbyRuns = false := by simp [State.standbyRuns, h.power]
    rw [settle_of_link hlink, startFrame_ctl, followTimers]
    exact follow_stopped _ _ hruns
  scan hr := by rw [settle_pack_scanTimer]; exact h.scan hr
  drive := by rw [settle_drive, h.drive]
  prot := by rw [settle_prot, h.prot]
  store := by rw [settle_store, h.store]
  debris := by rw [settle_debris, h.debris]
  q := by rw [settle_pack_q, h.q]

theorem enterStandby_entered (c : ModeCause) (s : State) : StandbyEntered s (enterStandby c s) := by
  constructor
  case scan => intro hr; simp [enterStandby, hr]
  all_goals simp [enterStandby]

/-! ### The SHIP decision (R175) -/

/-- After a SHIP decision the timers that it stops stay stopped, and the part is on its way to SHIP or in it. -/
theorem settle_shipDecided {s : State} (h : s.ctl.shipDecided = true) :
    (settle s).ctl.standbyTimer = none ∧ (settle s).host.supTimer = none ∧
      ((settle s).ctl.shipDecided = true ∨ (settle s).ctl.power = .ship) := by
  obtain ⟨hsup, hstandby⟩ := followed_shipDecided h
  by_cases hsends : s.host.tx.isSome = true ∨ s.host.replies ≠ [] ∨ s.host.reports ≠ []
  · rw [settle_of_sending hsends, startFrame_ctl, startFrame_supTimer, followTimers]
    exact ⟨follow_stopped _ _ hstandby, follow_stopped _ _ hsup, .inl h⟩
  · simp only [not_or, Classical.not_not, ne_eq] at hsends
    obtain ⟨ht, hr, hp⟩ := hsends
    rw [settle_enters_ship h (by simpa using ht) hr hp]
    exact ⟨rfl, rfl, .inr rfl⟩

/-! ### SET_POWER_MODE (R180) -/

theorem exec_setPowerMode (s : State) : exec .setPowerMode s = request setPowerModeSpec s := rfl

/-- A SET_POWER_MODE with a named mode is judged by its own conditions. -/
theorem setPowerMode_judged {s : State} {kind m : Byte} {rest : List HostFrame} {j : Judged}
    (h : Spec.Heads s 0x09 kind [m] rest) (hj : setPowerModeSpec.act [m] (beginTaking rest s) = j) :
    exec .setPowerMode s = .next (settle (Spec.reply kind (resultCode j.result) j.fields j.state)) := by
  rw [exec_setPowerMode, request_acts_as (q := setPowerModeSpec) h rfl rfl (accepts_both _ rfl rfl)
    rfl rfl hj]

theorem setPowerMode_standby {s : State} {kind : Byte} {rest : List HostFrame} (h : Spec.Heads s 0x09 kind [0x01] rest)
    (hidle : s.idle = true) : ∃ t, exec .setPowerMode s = .next t ∧ StandbyEntered s t := by
  have hact : setPowerModeSpec.act [0x01] (beginTaking rest s)
      = ⟨.ok, enterStandby .request (beginTaking rest s), []⟩ := by
    show powerModeAct .standby (beginTaking rest s) = _
    simp [powerModeAct, hidle]
  have hentered := enterStandby_entered .request (beginTaking rest s)
  have hlink : (enterStandby .request (beginTaking rest s)).ctl.shipDecided = false := by
    simp [enterStandby, h.link]
  generalize enterStandby .request (beginTaking rest s) = u at hact hentered hlink
  refine ⟨settle (Spec.reply kind 0x00 [] u), ?_, StandbyEntered.settled ?_ ?_⟩
  · rw [setPowerMode_judged h hact]
    rfl
  · exact
      { power := by rw [specReply_ctl, hentered.power]
        timer := by rw [specReply_ctl, hentered.timer]
        scan := fun hr => by
          rw [specReply_pack, hentered.scan (by simpa using hr)]
          simp
        drive := by rw [specReply_drive, hentered.drive, beginTaking_drive]
        prot := by rw [specReply_prot, hentered.prot, beginTaking_prot]
        store := by rw [specReply_store, hentered.store, beginTaking_store]
        debris := by rw [specReply_debris, hentered.debris, beginTaking_debris]
        q := by rw [specReply_pack, hentered.q, beginTaking_pack_q] }
  · rw [specReply_ctl, hlink]

theorem setPowerMode_ship {s : State} {kind : Byte} {rest : List HostFrame} (h : Spec.Heads s 0x09 kind [0x02] rest)
    (hrole : s.ctl.role = .stick) (hallowed : s.shipAllowed = true) :
    ∃ t, exec .setPowerMode s = .next t ∧ t.ctl.shipDecided = true ∧ t.pack.scanTimer = none ∧
      t.pack.scanning = false ∧ t.host.supTimer = none ∧ t.ctl.standbyTimer = none ∧ t.drive = s.drive ∧
      t.prot = s.prot ∧ t.store = s.store ∧ t.debris = s.debris ∧ t.pack.q = s.pack.q := by
  have hallowed' : (beginTaking rest s).shipAllowed = true := by
    rw [← hallowed]
    simp [State.shipAllowed]
  have hact : setPowerModeSpec.act [0x02] (beginTaking rest s)
      = ⟨.ok, shipDecision .request (beginTaking rest s), []⟩ := by
    show powerModeAct .ship (beginTaking rest s) = _
    simp [powerModeAct, State.isDock, hrole, hallowed']
  have hexec := setPowerMode_judged h hact
  have hdecided : (Spec.reply kind 0x00 [] (shipDecision .request (beginTaking rest s))).ctl.shipDecided = true := by
    rw [specReply_ctl]
    simp [shipDecision]
  obtain ⟨hstandby, hsup, -⟩ := settle_shipDecided hdecided
  have hsends := settle_of_sending (s := Spec.reply kind 0x00 [] (shipDecision .request (beginTaking rest s)))
    (.inr (.inl (specReply_waits _ _ _ _)))
  refine ⟨_, hexec, ?_, ?_, ?_, hsup, hstandby, ?_, ?_, ?_, ?_, ?_⟩
  · rw [show resultCode Result.ok = 0x00 from rfl, hsends]
    simpa using hdecided
  all_goals simp [specReply_pack, specReply_drive, specReply_prot, specReply_store, specReply_debris, shipDecision]

/-! ### A publication in STANDBY (R174) -/

theorem lowestCell_below_iff (cells : List Reading) (mV : Int) :
    lowestBelow cells mV = true ↔ ∃ v, lowestCell cells = some v ∧ v < mV := by
  unfold lowestBelow
  split
  · next v h => simp [h]
  · next h => simp [h]

/-- A cell that reads a number reads 500 to 5,000 mV (R50). -/
theorem scanCells_range {n : Nat} {taps offsets : List Int} {v : Int} (h : .num v ∈ scanCells n taps offsets) :
    500 ≤ v ∧ v ≤ 5000 := by
  obtain ⟨i, -, hi⟩ := List.mem_map.mp h
  unfold cellReading at hi
  split at hi
  · cases hi
  · split at hi
    · cases hi
    · cases hi
      omega

theorem lowestEntry_some {cells : List Reading} {v : Int} (h : lowestCell cells = some v) :
    lowestEntry cells = (.num v, some (cellIndex cells (.num v))) := by
  simp [lowestEntry, h]

/-- The AUTO_SHIP entry and the SHIP decision. -/
structure ShipDecided (r : PackRecord) (s t : State) : Prop where
  decided : t.ctl.shipDecided = true
  scanTimer : t.pack.scanTimer = none
  scanning : t.pack.scanning = false
  ring : t.ctl.ring.getLast?
    = some (faultEntry .modeController .autoShip (lowestEntry r.cells).1 (some (optReading s.soc)) s)
  lowCells : t.ctl.lowCells = s.ctl.lowCells
  soc : t.soc = s.soc

theorem autoShip_decided (r : PackRecord) (s : State) : ShipDecided r s (autoShip r s) := by
  have hlog := appendFault_logs .modeController .autoShip (lowestEntry r.cells).1 (some (optReading s.soc)) s
  constructor
  case ring => simpa [autoShip, shipDecision] using hlog
  all_goals simp [autoShip, shipDecision, State.soc]

/-- The follow-up of an event leaves the ring, the count, the scan and the charge alone. -/
theorem ShipDecided.settled {r : PackRecord} {s t : State} (h : ShipDecided r s t) :
    (settle t).pack.scanTimer = none ∧ (settle t).pack.scanning = false ∧
    (settle t).ctl.ring.getLast?
      = some (faultEntry .modeController .autoShip (lowestEntry r.cells).1 (some (optReading s.soc)) s) ∧
    (settle t).ctl.lowCells = s.ctl.lowCells ∧ (settle t).soc = s.soc := by
  have hscan := h.scanTimer
  have hscanning := h.scanning
  have hring := h.ring
  have hlow := h.lowCells
  have hsoc := h.soc
  refine ⟨?_, ?_, ?_, ?_, ?_⟩
  · rwa [settle_pack_scanTimer]
  · rwa [settle_pack_scanning]
  · rwa [settle_ctl_ring]
  · rwa [settle_ctl_lowCells]
  · rw [← hsoc]
    simp [State.soc]

theorem exec_publication {s : State} (scan : RawScan) (hscanning : s.pack.scanning = true) (hpower : s.ctl.power ≠ .ship) :
    exec (.packRecordPublication scan) s
      = .next (settle (judgeLowCells (formRecord s scan) (monitored (formRecord s scan) s))) := by
  show execPackRecordPublication scan s = _
  rw [execPackRecordPublication, event_occurs hscanning hpower, publish_eq]

/-- The pack monitor's work leaves the mode controller's record, but for the fault ring, and the session. -/
theorem monitored_ctl (r : PackRecord) (s : State) : (monitored r s).stick = s.stick ∧
    (monitored r s).ctl = { s.ctl with ring := (monitored r s).ctl.ring, nextSeq := (monitored r s).ctl.nextSeq } := by
  have hprotected := protect_as r s
  obtain ⟨p, hp⟩ := monitored_eq r s
  rw [hp]
  exact ⟨hprotected.stick, hprotected.ctl⟩

theorem publication_standby {s : State} {scan : RawScan} (hpower : s.ctl.power = .standby)
    (hship : s.ctl.shipDecided = false) (hscanning : s.pack.scanning = true) :
    let lowest := lowestCell (formRecord s scan).cells
    let low := s.stick.state = .detached ∧ ∃ v, lowest = some v ∧ v < 3000
    ∃ t, exec (.packRecordPublication scan) s = .next t ∧
      (¬ low → t.ctl.lowCells = 0) ∧ (low → t.ctl.lowCells = s.ctl.lowCells + 1) ∧
      (¬ low ∨ s.ctl.lowCells < 9 → t.ctl.power = .standby ∧ t.ctl.shipDecided = false) ∧
      (low → 9 ≤ s.ctl.lowCells → (t.ctl.shipDecided = true ∨ t.ctl.power = .ship) ∧ t.ctl.standbyTimer = none ∧
        t.pack.scanTimer = none ∧ t.pack.scanning = false ∧ t.host.supTimer = none ∧
        ∃ e, t.ctl.ring.getLast? = some e ∧ e.time = s.ctl.partTime ∧ e.source = .modeController ∧
          e.code = .autoShip ∧ (∀ v, lowest = some v → e.value = .num v) ∧
          e.second = some (Reading.fit16 ((t.soc.map (fun n => Reading.num n)).getD .absent))) := by
  intro lowest low
  refine ⟨_, exec_publication scan hscanning (by rw [hpower]; decide), ?_⟩
  obtain ⟨hstick, hctl⟩ := monitored_ctl (formRecord s scan) s
  have hcells : ∀ v, lowest = some v → 500 ≤ v ∧ v ≤ 5000 := fun v hv =>
    scanCells_range ((lowestCell_eq_some _ v).mp hv).1
  generalize monitored (formRecord s scan) s = m at hstick hctl ⊢
  have hlowCells : m.ctl.lowCells = s.ctl.lowCells := by rw [hctl]
  have hcount : lowCellCount m (formRecord s scan) = if low then s.ctl.lowCells + 1 else 0 := by
    simp only [lowCellCount, hstick, hlowCells, lowestCell_below_iff]
    rfl
  have hstandby : m.ctl.power = .standby := by rw [hctl]; exact hpower
  have hlink : m.ctl.shipDecided = false := by rw [hctl]; exact hship
  have htime : m.ctl.partTime = s.ctl.partTime := by rw [hctl]
  rw [judgeLowCells, if_pos hstandby, hcount]
  by_cases hten : 10 ≤ (if low then s.ctl.lowCells + 1 else 0)
  · have hlow : low := by
      refine Classical.byContradiction fun hno => ?_
      rw [if_neg hno] at hten
      omega
    rw [if_pos hlow] at hten ⊢
    rw [if_pos hten]
    have hdecided := autoShip_decided (formRecord s scan) { m with ctl := { m.ctl with lowCells := s.ctl.lowCells + 1 } }
    obtain ⟨hscan', hscanning', hring', hlow', hsoc'⟩ := hdecided.settled
    obtain ⟨hstandby', hsup', hpower'⟩ := settle_shipDecided hdecided.decided
    refine ⟨fun hno => absurd hlow hno, fun _ => hlow', fun hno => ?_,
      fun _ _ => ⟨hpower', hstandby', hscan', hscanning', hsup', _, hring', htime, rfl, rfl, fun v hv => ?_, ?_⟩⟩
    · rcases hno with hno | hno
      · exact absurd hlow hno
      · omega
    · obtain ⟨hlo, hhi⟩ := hcells v hv
      rw [faultEntry, lowestEntry_some hv]
      exact Reading.fit16_num (by omega) (by omega)
    · rw [hsoc', faultEntry]
      cases State.soc { m with ctl := { m.ctl with lowCells := s.ctl.lowCells + 1 } } <;> rfl
  · rw [if_neg hten, settle_ctl_lowCells, settle_of_link (by exact hlink)]
    have hfew : ¬ (low ∧ 9 ≤ s.ctl.lowCells) := fun ⟨hlow, hnine⟩ => hten (by rw [if_pos hlow]; omega)
    refine ⟨fun hno => if_neg hno, fun hlow => if_pos hlow, fun _ => ⟨?_, ?_⟩,
      fun hlow hnine => absurd ⟨hlow, hnine⟩ hfew⟩
    · simpa [followTimers] using hstandby
    · simpa [followTimers] using hlink

/-! ### The taking (R173) -/

theorem beginTaking_active {s : State} (rest : List HostFrame) (h : s.ctl.power = .active) :
    beginTaking rest s = { s with
      host := { s.host with rxq := rest }
      ctl := { s.ctl with standbyTimer := s.ctl.standbyTimer.map (fun _ => s.ctl.partTime + BitVec.ofNat 32 30000) } } := by
  unfold beginTaking
  rw [enterActive_of_active _ _ (by exact h)]
  rfl

theorem beginTaking_standby {s : State} (rest : List HostFrame) (h : s.ctl.power = .standby)
    (hlink : s.ctl.shipDecided = false) :
    (beginTaking rest s).ctl = { s.ctl with
      power := .active, lowCells := 0,
      standbyTimer := s.ctl.standbyTimer.map (fun _ => s.ctl.partTime + BitVec.ofNat 32 30000) } ∧
    (beginTaking rest s).pack = { s.pack with
      scanTimer := if s.ctl.role = .stick ∧ s.ctl.cells ≠ 3 then some s.ctl.partTime else none } := by
  unfold beginTaking enterActive restartStandby
  rw [if_pos ⟨h, hlink⟩]
  constructor
  · simp [State.after, State.now]
  · simp [State.packRuns, State.isStick, State.now]

/-! ### The power modes -/

/-- Settles O29. -/
theorem powerModesFollow : Obligations.PowerModesFollow := by
  refine ⟨fun s rest => ⟨beginTaking_active rest, fun h hlink => ?_⟩, fun s kind rest h => ?_,
    fun s kind rest h => ⟨fun hidle => ?_, fun hidle => ?_⟩, fun s kind rest h hrole hd hdrive hroll hcal hop => ?_,
    fun s due hpower hlink htimer => ?_, fun s scan => publication_standby⟩
  · obtain ⟨hctl, hpack⟩ := beginTaking_standby rest h hlink
    exact ⟨hctl, hpack, beginTaking_drive rest s, by simp⟩
  · exact setPowerMode_judged (j := ⟨.ok, beginTaking rest s, []⟩) h rfl
  · obtain ⟨t, hexec, ht⟩ := setPowerMode_standby h hidle
    exact ⟨t, hexec, ht.power, ht.timer, ht.scan, ht.drive, ht.prot, ht.store, ht.debris, ht.q⟩
  · refine setPowerMode_judged (j := refuse .denied (beginTaking rest s)) h ?_
    show powerModeAct .standby (beginTaking rest s) = _
    simp [powerModeAct, hidle]
  · exact setPowerMode_ship h hrole (by simp [State.shipAllowed, hd, hdrive, hroll, hcal, hop])
  · have ht := (enterStandby_entered .idle s).settled (by simp [enterStandby, hlink])
    refine ⟨settle (enterStandby .idle s), ?_, ht.power, ht.timer, ht.scan, ht.drive, ht.prot, ht.store, ht.debris, ht.q⟩
    show execStandbyTimerExpiry s = _
    rw [execStandbyTimerExpiry, event_occurs (by simp [htimer]) (by simp [hpower])]

end Sys2Proof.Machine

/-! A publication from the scan to the state that follows it (sections 3.1 to 3.5). -/

namespace Sys2Proof.Machine

open Sys2Proof

/-! ### The pack after a publication -/

/-- The estimate leaves the rest of the pack alone (R56). -/
theorem Pack.rest_others (p : Pack) (r : PackRecord) (now : Ms) : p.rest r now = { p with
    q := (p.rest r now).q, acc := (p.rest r now).acc, valid := (p.rest r now).valid,
    restTimer := (p.rest r now).restTimer } := by
  unfold Pack.rest
  split
  · rfl
  · dsimp only
    split <;> rfl

/-- The charge counter and the calibrations leave the rest of the pack alone (R54, R56, R57). -/
theorem packJudged_others (r : PackRecord) (s : State) : packJudged r s = { s.pack with
    q := (packJudged r s).q, acc := (packJudged r s).acc, valid := (packJudged r s).valid,
    restTimer := (packJudged r s).restTimer, record := some r, scanning := false } := by
  have hrest := Pack.rest_others (s.pack.integrate r.packI s.sincePublication) r s.now
  unfold packJudged packTaken
  generalize (s.pack.integrate r.packI s.sincePublication).rest r s.now = p at hrest
  split <;> rw [hrest] <;> rfl

/-- FULL evaluated on a pack, with the time, the limits and the condition of the state it stands in (R72). -/
def Pack.judgedFull (p : Pack) (r : PackRecord) (now : Ms) (cellTarget : Nat) (holds : Bool) : Pack :=
  if p.full then { p with full := !fullCleared r cellTarget, fullTimer := none }
  else if (qualify now p.fullTimer holds 60000).2 then
    { p.calibrate p.fullCharge with full := true, fullTimer := none }
  else { p with fullTimer := (qualify now p.fullTimer holds 60000).1 }

theorem judgeFull_pack (r : PackRecord) (need : Need) (s : State) : judgeFull r need s
    = { s with pack := s.pack.judgedFull r s.now s.gov.limits.cellTarget (fullCondition s r need) } := by
  unfold judgeFull Pack.judgedFull
  split
  · rfl
  · dsimp only
    split <;> rfl

theorem Pack.judgedFull_bleeding (p : Pack) (n : Need) (b : List Nat) (r : PackRecord) (now : Ms) (cellTarget : Nat)
    (holds : Bool) : Pack.judgedFull { p with need := n, balance := b } r now cellTarget holds
      = { p.judgedFull r now cellTarget holds with need := n, balance := b } := by
  unfold Pack.judgedFull
  dsimp only
  split
  · rfl
  · split <;> rfl

/-- The pack once FULL is evaluated (R57, R72). -/
def packFilled (r : PackRecord) (s : State) : Pack :=
  (packJudged r s).judgedFull r s.now s.gov.limits.cellTarget (fullCondition s r s.pack.need)

theorem packFilled_others (r : PackRecord) (s : State) : packFilled r s = { s.pack with
    q := (packFilled r s).q, acc := (packFilled r s).acc, valid := (packFilled r s).valid,
    restTimer := (packFilled r s).restTimer, record := some r, scanning := false, full := (packFilled r s).full,
    fullTimer := (packFilled r s).fullTimer } := by
  have hjudged := packJudged_others r s
  unfold packFilled Pack.judgedFull
  generalize packJudged r s = p at hjudged
  split
  · rw [hjudged]
  · split
    · rw [hjudged]
      rfl
    · rw [hjudged]

/-- The pack once the whole of the pack monitor's work is done (R51 to R57, R69 to R72). -/
theorem monitored_pack (r : PackRecord) (s : State) : (monitored r s).pack = { packFilled r s with
    need := needOf (monitored r s)
    balance := if balancingActive (monitored r s) r then selectBalance s.pack.balance r.cells else [] } := by
  have hprotected := protect_as r s
  unfold monitored packFilled
  generalize protect r s.pack.need.limit s.prot (takeRecord r s) = u at hprotected
  obtain ⟨n, hpack⟩ := hprotected.pack
  have hctl := hprotected.ctl
  have hnow : (rebalance r u).now = s.now := by
    show u.ctl.partTime = s.ctl.partTime
    rw [hctl]
  have hcondition : fullCondition (rebalance r u) r s.pack.need = fullCondition s r s.pack.need := by
    have hcount : (rebalance r u).cellCount = s.cellCount := by
      show cellCountOf u.ctl.role u.ctl.cells = _
      rw [hctl]
      rfl
    simp only [fullCondition, hcount]
    show (decide (u.stick.state = .charging) && _ && _) = _
    rw [hprotected.stick]
  have hbalanced : (rebalance r u).pack = { packJudged r s with
      need := n, balance := if balancingActive u r then selectBalance s.pack.balance r.cells else [] } := by
    have hbalance : u.pack.balance = s.pack.balance := by rw [hpack, packJudged_others]
    unfold rebalance
    dsimp only
    rw [hbalance, hpack]
  rw [judgeFull_pack, hnow, hcondition, hbalanced, Pack.judgedFull_bleeding,
    show (rebalance r u).gov.limits = s.gov.limits from hprotected.limits]
  rfl

/-! ### The state after a publication -/

theorem judgeLowCells_as (r : PackRecord) (s : State) : LowCellsJudged s (judgeLowCells r s) := by
  have hquiet : ∀ c : Ctl, c.ring = s.ctl.ring → c.role = s.ctl.role ∧ c.cells = s.ctl.cells →
      LowCellsJudged s { s with ctl := c } := fun c hc hstraps =>
    { others := rfl, scanning := id, straps := hstraps, grown := (Grown.same hc).mono (by decide) }
  unfold judgeLowCells
  split
  · dsimp only
    split
    · have h := autoShip_as r { s with ctl := { s.ctl with lowCells := lowCellCount s r } }
      exact { others := h.others, scanning := h.scanning, straps := h.straps, grown := h.grown }
    · exact hquiet _ rfl ⟨rfl, rfl⟩
  · exact hquiet _ rfl ⟨rfl, rfl⟩

/-- What a publication leaves: the record and the charge counter, the causes and the permissions, FULL, the need record and
the balance set (R51, R59, R66, R70 to R72). -/
structure Published (r : PackRecord) (s t : State) : Prop where
  prot : ∃ x y, t.prot = { protPublished r s.pack.need.limit s with level := x, lastChange := y }
  lockout : t.prot.lockedOut = true → t.prot.level = .lockout
  pack : t.pack = { packFilled r s with
    need := t.pack.need, scanTimer := t.pack.scanTimer, balance := t.pack.balance }
  need : t.pack.need = needOf t
  balance : t.ctl.power ≠ .ship →
    t.pack.balance = if balancingActive t r then selectBalance s.pack.balance r.cells else []
  role : t.ctl.role = s.ctl.role
  cells : t.ctl.cells = s.ctl.cells
  stick : t.stick = s.stick
  store : t.store = s.store
  limits : t.gov.limits = s.gov.limits
  causes : ∃ s' u' : State, s'.prot = { s.prot with evaluated := true } ∧ s'.ctl = s.ctl ∧ s'.stick = s.stick ∧
    CausesJudged r s.pack.need.limit s' u' ∧ Grown 1 u' t

theorem monitored_scanning (r : PackRecord) (s : State) : (monitored r s).pack.scanning = false := by
  rw [monitored_pack, packFilled_others]

/-- The need record does not depend on the scan, the balance set and the need record before it. -/
theorem needOf_congr {s t : State} (hprot : t.prot = s.prot) (hfull : t.pack.full = s.pack.full)
    (hrecord : t.pack.record = s.pack.record) (hlimits : t.gov.limits = s.gov.limits) (hrole : t.ctl.role = s.ctl.role)
    (hcells : t.ctl.cells = s.ctl.cells) : needOf t = needOf s := by
  have hinputs : t.needInputs = s.needInputs := by
    unfold State.needInputs
    rw [hrecord]
  have htarget : t.needTarget = s.needTarget := by
    simp only [State.needTarget, State.cellCount, hlimits, hrole, hcells]
  have hreason : needReason t s.needInputs.1 = needReason s s.needInputs.1 := by
    simp only [needReason, hprot, hfull]
  simp only [needOf, hinputs, hreason, htarget, hlimits]

theorem published (r : PackRecord) (s : State) : Published r s (settle (judgeLowCells r (monitored r s))) := by
  have hprotected := protect_as r s
  have hpack := monitored_pack r s
  have hscanning := monitored_scanning r s
  obtain ⟨p, hm⟩ := monitored_eq r s
  have hlow := judgeLowCells_as r (monitored r s)
  generalize monitored r s = m at hpack hm hlow hscanning ⊢
  generalize judgeLowCells r m = v at hlow ⊢
  generalize protect r s.pack.need.limit s.prot (takeRecord r s) = u at hprotected hm
  obtain ⟨hothers, hscan, hstraps, hgrown⟩ := hlow
  have hprot : v.prot = u.prot := by rw [hothers, hm]
  have hctl := hprotected.ctl
  have hrole : v.ctl.role = s.ctl.role := by
    rw [hstraps.1, hm]
    show u.ctl.role = _
    rw [hctl]
  have hcells : v.ctl.cells = s.ctl.cells := by
    rw [hstraps.2, hm]
    show u.ctl.cells = _
    rw [hctl]
  have hlimits : v.gov.limits = u.gov.limits := by rw [hothers, hm]
  have hdrive : v.drive = m.drive := by rw [hothers]
  have hstick : v.stick = m.stick := by rw [hothers]
  have hvpack : v.pack = { m.pack with scanTimer := v.pack.scanTimer, scanning := v.pack.scanning } := by rw [hothers]
  have hneed : needOf v = needOf m :=
    needOf_congr (by rw [hothers]) (by rw [hothers]) (by rw [hothers]) (by rw [hothers]) hstraps.1 hstraps.2
  have hsettled : needOf (settle v) = needOf v :=
    needOf_congr (settle_prot v) (settle_pack_full v) (settle_pack_record v) (settle_gov_limits v) (settle_ctl_role v)
      (settle_ctl_cells v)
  refine
    { prot := ?_, lockout := ?_, pack := ?_, need := ?_, balance := ?_, role := ?_, cells := ?_, stick := ?_, store := ?_,
      limits := ?_, causes := ?_ }
  · rw [settle_prot, hprot]
    exact hprotected.prot
  · obtain ⟨-, -, hlevel⟩ := hprotected.stands
    rw [settle_prot, hprot, hlevel]
    exact fun h => if_pos h
  · have hvscanning : v.pack.scanning = false := hscan hscanning
    have hfilled : (packFilled r s).scanning = false := by rw [packFilled_others]
    have hpacked : v.pack = { packFilled r s with
        need := v.pack.need, scanTimer := v.pack.scanTimer, balance := v.pack.balance } := by
      rw [hvpack, hpack, hvscanning]
      simp [← hfilled]
    rcases (settle_leavesAs v).pack with hp | ⟨-, hp⟩ <;> rw [hp, hpacked]
  · rw [hsettled, hneed, settle_pack_need, hvpack, hpack]
  · intro hship
    rcases (settle_leavesAs v).pack with hp | ⟨hp, -⟩
    · have hactive : balancingActive (settle v) r = balancingActive m r := by
        simp only [balancingActive, State.bridgeOff, settle_drive, settle_stick, hdrive, hstick]
      rw [hactive, hp, hvpack, hpack]
    · exact absurd hp hship
  · rw [settle_ctl_role, hrole]
  · rw [settle_ctl_cells, hcells]
  · rw [settle_stick, hstick, hm]
    exact hprotected.stick
  · rw [settle_store, hothers, hm]
    exact hprotected.store
  · rw [settle_gov_limits, hlimits, hprotected.limits]
  · obtain ⟨s', u', hsprot, hsctl, hsstick, hcauses, hring⟩ := hprotected.causes
    refine ⟨s', u', hsprot, hsctl, hsstick, hcauses, ?_⟩
    obtain ⟨es, hes, hentries⟩ := hgrown
    refine ⟨es, hes, ?_⟩
    rw [settle_ctl_ring, hentries, hm, ← hring]

end Sys2Proof.Machine

/-! The causes at a publication, in the words of the scan (section 3.3). -/

namespace Sys2Proof.Machine

open Sys2Proof

/-! ### The readings of a scan (R50) -/

/-- A tap voltage with its offset. -/
def tapVoltage (s : State) (scan : RawScan) (i : Nat) : Int := scan.taps.getD i 0 + s.pack.offsets.getD i 0

theorem mem_cells_iff (s : State) (scan : RawScan) (c : Reading) : c ∈ (formRecord s scan).cells ↔
    ∃ i, i < s.cellCount ∧ cellReading (scan.taps.getD i 0) (s.pack.offsets.getD i 0) = c := by
  simp [formRecord, scanCells]

theorem cellReading_cases (raw offset : Int) :
    (raw + offset < 500 ∧ cellReading raw offset = .absent) ∨ (5000 < raw + offset ∧ cellReading raw offset = .above) ∨
    (500 ≤ raw + offset ∧ raw + offset ≤ 5000 ∧ cellReading raw offset = .num (raw + offset)) := by
  unfold cellReading
  split
  · next h => exact .inl ⟨h, rfl⟩
  · split
    · next h => exact .inr (.inl ⟨h, rfl⟩)
    · exact .inr (.inr ⟨by omega, by omega, rfl⟩)

theorem cellReading_eq_num (raw offset v : Int) :
    cellReading raw offset = .num v ↔ raw + offset = v ∧ 500 ≤ v ∧ v ≤ 5000 := by
  rcases cellReading_cases raw offset with ⟨h, e⟩ | ⟨h, e⟩ | ⟨hlo, hhi, e⟩
  · rw [e]
    exact ⟨fun h => (by cases h), by omega⟩
  · rw [e]
    exact ⟨fun h => (by cases h), by omega⟩
  · rw [e, Reading.num.injEq]
    omega

theorem cellReading_eq_above (raw offset : Int) : cellReading raw offset = .above ↔ 5000 < raw + offset := by
  rcases cellReading_cases raw offset with ⟨h, e⟩ | ⟨h, e⟩ | ⟨hlo, hhi, e⟩ <;> simp [e] <;> omega

theorem cellReading_eq_absent (raw offset : Int) : cellReading raw offset = .absent ↔ raw + offset < 500 := by
  rcases cellReading_cases raw offset with ⟨h, e⟩ | ⟨h, e⟩ | ⟨hlo, hhi, e⟩ <;> simp [e] <;> omega

theorem cellReading_ne_below (raw offset : Int) : cellReading raw offset ≠ .below := by
  rcases cellReading_cases raw offset with ⟨h, e⟩ | ⟨h, e⟩ | ⟨hlo, hhi, e⟩ <;> simp [e]

theorem num_mem_cells (s : State) (scan : RawScan) (v : Int) : .num v ∈ (formRecord s scan).cells ↔
    ∃ i, i < s.cellCount ∧ tapVoltage s scan i = v ∧ 500 ≤ v ∧ v ≤ 5000 := by
  simp only [mem_cells_iff, cellReading_eq_num, tapVoltage]

theorem above_mem_cells (s : State) (scan : RawScan) : .above ∈ (formRecord s scan).cells ↔
    ∃ i, i < s.cellCount ∧ 5000 < tapVoltage s scan i := by
  simp only [mem_cells_iff, cellReading_eq_above, tapVoltage]

theorem absent_mem_cells (s : State) (scan : RawScan) : .absent ∈ (formRecord s scan).cells ↔
    ∃ i, i < s.cellCount ∧ tapVoltage s scan i < 500 := by
  simp only [mem_cells_iff, cellReading_eq_absent, tapVoltage]

theorem below_not_mem_cells (s : State) (scan : RawScan) : .below ∉ (formRecord s scan).cells := by
  rw [mem_cells_iff]
  rintro ⟨i, -, h⟩
  exact cellReading_ne_below _ _ h

theorem highestAbove_scan (s : State) (scan : RawScan) {mV : Int} (hlo : 500 ≤ mV) (hhi : mV ≤ 5000) :
    highestAbove (formRecord s scan).cells mV = true ↔ ∃ i, i < s.cellCount ∧ mV < tapVoltage s scan i := by
  rw [highestAbove_iff, above_mem_cells]
  simp only [num_mem_cells]
  constructor
  · rintro (⟨i, hi, h⟩ | ⟨n, ⟨i, hi, rfl, -⟩, h⟩)
    · exact ⟨i, hi, by omega⟩
    · exact ⟨i, hi, h⟩
  · rintro ⟨i, hi, h⟩
    by_cases ha : 5000 < tapVoltage s scan i
    · exact .inl ⟨i, hi, ha⟩
    · exact .inr ⟨_, ⟨i, hi, rfl, by omega, by omega⟩, h⟩

theorem lowestBelow_scan (s : State) (scan : RawScan) {mV : Int} (hhi : mV ≤ 5000) :
    lowestBelow (formRecord s scan).cells mV = true ↔
      ∃ i, i < s.cellCount ∧ 500 ≤ tapVoltage s scan i ∧ tapVoltage s scan i < mV := by
  rw [lowestBelow_iff]
  simp only [num_mem_cells]
  constructor
  · rintro ⟨n, ⟨i, hi, rfl, hlo, -⟩, h⟩
    exact ⟨i, hi, hlo, h⟩
  · rintro ⟨i, hi, hlo, h⟩
    exact ⟨_, ⟨i, hi, rfl, hlo, by omega⟩, h⟩

theorem allBelow_scan (s : State) (scan : RawScan) {mV : Int} (hhi : mV ≤ 5000) :
    (formRecord s scan).cells.all (fun c => c.numLt mV) = true ↔
      ∀ i, i < s.cellCount → 500 ≤ tapVoltage s scan i ∧ tapVoltage s scan i < mV := by
  simp only [List.all_eq_true, mem_cells_iff, Reading.numLt_iff]
  constructor
  · intro h i hi
    obtain ⟨m, hm, hlt⟩ := h _ ⟨i, hi, rfl⟩
    obtain ⟨rfl, hlo, -⟩ := (cellReading_eq_num _ _ _).mp hm
    exact ⟨hlo, hlt⟩
  · rintro h c ⟨i, hi, rfl⟩
    obtain ⟨hlo, hlt⟩ := h i hi
    exact ⟨_, (cellReading_eq_num _ _ _).mpr ⟨rfl, hlo, Int.le_trans (Int.le_of_lt hlt) hhi⟩, hlt⟩

/-- CELL_UV is released with no cell absent and the lowest at 3,100 mV or more (R61). -/
theorem uvReleased_scan (s : State) (scan : RawScan) :
    ((lowestCell (formRecord s scan).cells).isSome && !lowestBelow (formRecord s scan).cells 3100
      && noneAbsent (formRecord s scan).cells) = true ↔
    (∃ i, i < s.cellCount ∧ tapVoltage s scan i ≤ 5000) ∧ ∀ i, i < s.cellCount → 3100 ≤ tapVoltage s scan i := by
  simp only [Bool.and_eq_true, Bool.not_eq_true', Bool.eq_false_iff, ne_eq, lowestCell_isSome, noneAbsent_iff,
    absent_mem_cells, num_mem_cells, lowestBelow_scan s scan (mV := 3100) (by decide)]
  simp only [not_exists, not_and, Int.not_lt]
  constructor
  · rintro ⟨⟨⟨v, i, hi, rfl, -, hle⟩, hlow⟩, habsent⟩
    exact ⟨⟨i, hi, hle⟩, fun j hj => hlow j hj (habsent j hj)⟩
  · rintro ⟨⟨i, hi, hle⟩, hall⟩
    have h500 : ∀ j, j < s.cellCount → 500 ≤ tapVoltage s scan j := fun j hj => by
      have := hall j hj
      omega
    exact ⟨⟨⟨_, i, hi, rfl, h500 i hi, hle⟩, fun j hj _ => hall j hj⟩, h500⟩

/-! ### The temperature and the current of a scan (R28, R50) -/

theorem temperatureReading_cases (x : Option Int) :
    (x = none ∧ temperatureReading x = .absent) ∨
    (∃ a, x = some a ∧ a < -400 ∧ temperatureReading x = .below) ∨
    (∃ a, x = some a ∧ 1250 < a ∧ temperatureReading x = .above) ∨
    (∃ a, x = some a ∧ -400 ≤ a ∧ a ≤ 1250 ∧ temperatureReading x = .num a) := by
  cases x with
  | none => exact .inl ⟨rfl, rfl⟩
  | some a =>
    simp only [temperatureReading]
    split
    · next h => exact .inr (.inl ⟨a, rfl, h, rfl⟩)
    · split
      · next h => exact .inr (.inr (.inl ⟨a, rfl, h, rfl⟩))
      · exact .inr (.inr (.inr ⟨a, rfl, by omega, by omega, rfl⟩))

/-- T_pack in the words of the scan: its two temperatures, and what the larger of them reads. -/
theorem tPack_scan (s : State) (scan : RawScan) :
    ((scan.t1 = none ∨ scan.t2 = none) ∧ (formRecord s scan).tPack = .absent) ∨
    (∃ a b, scan.t1 = some a ∧ scan.t2 = some b ∧ (formRecord s scan).tPack = temperatureReading (some (max a b))) := by
  show _ ∧ tPack (temperatureReading scan.t1) (temperatureReading scan.t2) = _ ∨ _
  rcases temperatureReading_cases scan.t1 with ⟨h1, r1⟩ | ⟨a, h1, ha, r1⟩ | ⟨a, h1, ha, r1⟩ | ⟨a, h1, halo, hahi, r1⟩
  · exact .inl ⟨.inl h1, by rw [r1]; rfl⟩
  all_goals
    rcases temperatureReading_cases scan.t2 with ⟨h2, r2⟩ | ⟨b, h2, hb, r2⟩ | ⟨b, h2, hb, r2⟩ | ⟨b, h2, hblo, hbhi, r2⟩
    · exact .inl ⟨.inr h2, by rw [r1, r2]; rfl⟩
    all_goals
      refine .inr ⟨a, b, h1, h2, ?_⟩
      show tPack (temperatureReading scan.t1) (temperatureReading scan.t2) = _
      rw [r1, r2]
      simp only [tPack, Reading.isAbsent, higherTemp, temperatureReading]
      grind

theorem tPack_ge_scan (s : State) (scan : RawScan) : (formRecord s scan).tPack.ge 600 = true ↔
    ∃ a b, scan.t1 = some a ∧ scan.t2 = some b ∧ 600 ≤ max a b := by
  rcases tPack_scan s scan with ⟨hnone, ht⟩ | ⟨a, b, h1, h2, ht⟩
  · rw [ht]
    rcases hnone with h | h <;> simp [Reading.ge, h]
  · rw [ht, h1, h2]
    rcases temperatureReading_cases (some (max a b)) with ⟨h, r⟩ | ⟨m, h, hm, r⟩ | ⟨m, h, hm, r⟩ | ⟨m, h, hlo, hhi, r⟩
    · cases h
    all_goals
      cases h
      rw [r]
      simp [Reading.ge]
    all_goals omega

theorem tPack_lt_scan (s : State) (scan : RawScan) : (formRecord s scan).tPack.lt 500 = true ↔
    ∃ a b, scan.t1 = some a ∧ scan.t2 = some b ∧ max a b < 500 := by
  rcases tPack_scan s scan with ⟨hnone, ht⟩ | ⟨a, b, h1, h2, ht⟩
  · rw [ht]
    rcases hnone with h | h <;> simp [Reading.lt, h]
  · rw [ht, h1, h2]
    rcases temperatureReading_cases (some (max a b)) with ⟨h, r⟩ | ⟨m, h, hm, r⟩ | ⟨m, h, hm, r⟩ | ⟨m, h, hlo, hhi, r⟩
    · cases h
    all_goals
      cases h
      rw [r]
      simp [Reading.lt]
    all_goals omega

theorem tPack_fit16 (s : State) (scan : RawScan) : (formRecord s scan).tPack.fit16 = (formRecord s scan).tPack := by
  rcases tPack_scan s scan with ⟨-, ht⟩ | ⟨a, b, -, -, ht⟩
  · rw [ht]
    rfl
  · rw [ht]
    rcases temperatureReading_cases (some (max a b)) with ⟨-, r⟩ | ⟨-, -, -, r⟩ | ⟨-, -, -, r⟩ | ⟨m, -, hlo, hhi, r⟩
    · rw [r]; rfl
    · rw [r]; rfl
    · rw [r]; rfl
    · rw [r, Reading.fit16_num (by omega) (by omega)]

theorem packCurrentReading_lt {raw n : Int} (hlo : -50000 ≤ n) (hhi : n ≤ 20000) :
    (packCurrentReading raw).lt n = true ↔ raw < n := by
  unfold packCurrentReading
  split
  · simp [Reading.lt]; omega
  · split
    · simp [Reading.lt]; omega
    · simp [Reading.lt]

theorem packCurrentReading_gt {raw n : Int} (hlo : -50000 ≤ n) :
    (packCurrentReading raw).gt n = true ↔ n < raw ∨ 20000 < raw := by
  unfold packCurrentReading
  split
  · simp [Reading.gt]; omega
  · split
    · simp [Reading.gt, *]
    · simp [Reading.gt, *]

/-- A reading is missing: a cell below 500 mV or an open thermistor (R62). -/
theorem firstAbsent_scan (s : State) (scan : RawScan) : (firstAbsent (formRecord s scan)).isSome = true ↔
    (∃ i, i < s.cellCount ∧ tapVoltage s scan i < 500) ∨ scan.t1 = none ∨ scan.t2 = none ∨ scan.t3 = none := by
  have htemp : ∀ x, (temperatureReading x).isAbsent = true ↔ x = none := fun x => by
    rw [Reading.isAbsent_iff]
    rcases temperatureReading_cases x with ⟨h, r⟩ | ⟨m, h, -, r⟩ | ⟨m, h, -, r⟩ | ⟨m, h, -, -, r⟩ <;> rw [r, h] <;> simp
  have hcells : (∃ x ∈ (formRecord s scan).cells.mapIdx (fun i c => (i + 1, c)), x.2.isAbsent = true) ↔
      .absent ∈ (formRecord s scan).cells := by
    simp only [List.mem_mapIdx, Reading.isAbsent_iff]
    constructor
    · rintro ⟨x, ⟨i, hi, rfl⟩, h⟩
      exact h ▸ List.getElem_mem hi
    · intro h
      obtain ⟨i, hi, hc⟩ := List.mem_iff_getElem.mp h
      exact ⟨_, ⟨i, hi, rfl⟩, hc⟩
  rw [← absent_mem_cells, ← hcells, firstAbsent, Option.isSome_map, List.find?_isSome]
  simp only [senseReadings, List.mem_append, List.mem_cons, List.not_mem_nil, or_false, or_and_right, exists_or,
    exists_eq_left]
  exact or_congr_right (or_congr (htemp _) (or_congr (htemp _) (htemp _)))

/-! ### The values of an entry (R68) -/

theorem cellIndex_le (cells : List Reading) (c : Reading) : cellIndex cells c ≤ cells.length + 1 :=
  Nat.succ_le_succ List.findIdx_le_length

theorem cells_length (s : State) (scan : RawScan) : (formRecord s scan).cells.length = s.cellCount := by
  simp [formRecord, scanCells]

theorem cellCount_le (s : State) : s.cellCount ≤ 9 := by
  unfold State.cellCount cellCountOf
  split
  · omega
  · split <;> omega

theorem index_fit16 {cells : List Reading} (hlen : cells.length ≤ 9) (c : Reading) :
    (Reading.num (cellIndex cells c)).fit16 = .num (cellIndex cells c) := by
  have := cellIndex_le cells c
  exact Reading.fit16_num (by omega) (by omega)

theorem cell_fit16 {s : State} {scan : RawScan} {c : Reading} (h : c ∈ (formRecord s scan).cells) : c.fit16 = c := by
  obtain ⟨i, -, rfl⟩ := (mem_cells_iff s scan c).mp h
  rcases cellReading_cases (scan.taps.getD i 0) (s.pack.offsets.getD i 0) with ⟨h, e⟩ | ⟨h, e⟩ | ⟨hlo, hhi, e⟩
  · rw [e]; rfl
  · rw [e]; rfl
  · rw [e, Reading.fit16_num (by omega) (by omega)]

/-- The values of an entry for the highest cell are within 16 bits. -/
theorem highestEntry_fit16 (s : State) (scan : RawScan) : let e := highestEntry (formRecord s scan).cells
    e.1.fit16 = e.1 ∧ e.2.map (fun n : Int => (Reading.num n).fit16) = e.2.map (fun n : Int => .num n) := by
  have hlen : (formRecord s scan).cells.length ≤ 9 := by rw [cells_length]; exact cellCount_le s
  have hmem : ∀ c, highestCell (formRecord s scan).cells = some c → c ∈ (formRecord s scan).cells := fun c hc => by
    rcases highestCell_cases (formRecord s scan).cells with ⟨ha, h⟩ | ⟨-, m, h, hm, -⟩ | ⟨-, h, -⟩ <;> rw [h] at hc <;> cases hc
    · exact ha
    · exact hm
  intro e
  cases hc : highestCell (formRecord s scan).cells with
  | none => simp [e, highestEntry, hc, Reading.fit16]
  | some c => simp [e, highestEntry, hc, cell_fit16 (hmem c hc), index_fit16 hlen]

theorem lowestEntry_fit16 (s : State) (scan : RawScan) : let e := lowestEntry (formRecord s scan).cells
    e.1.fit16 = e.1 ∧ e.2.map (fun n : Int => (Reading.num n).fit16) = e.2.map (fun n : Int => .num n) := by
  have hlen : (formRecord s scan).cells.length ≤ 9 := by rw [cells_length]; exact cellCount_le s
  intro e
  cases hc : lowestCell (formRecord s scan).cells with
  | none => simp [e, lowestEntry, hc, Reading.fit16]
  | some v => simp [e, lowestEntry, hc, cell_fit16 ((lowestCell_eq_some _ v).mp hc).1, index_fit16 hlen]

/-! ### The protection record after a publication (R59 to R66) -/

theorem qualifies_verdict {s : State} {active : Bool} (released : Bool) {timer : Option Ms} {holds : Bool} {P : Prop}
    {time : Nat} (hP : holds = true ↔ P) :
    Spec.qualifies s active (verdict s.now active released timer holds time).1 timer
      (verdict s.now active released timer holds time).2 P time :=
  qualifies_of_verdict hP fun h => by
    rw [verdict_inactive _ _ _ _ _ h]
    exact ⟨rfl, rfl⟩

theorem verdict_released {now : Ms} {active released : Bool} {timer : Option Ms} {holds : Bool} {time : Nat} {P : Prop}
    (hP : released = true ↔ P) (h : active = true) : (verdict now active released timer holds time).1 = false ↔ P := by
  rw [verdict_active _ _ _ _ _ h, ← hP, Bool.not_eq_false']

section
variable {r : PackRecord} {s t : State}

theorem Published.cellOv (h : Published r s t) :
    t.prot.active.cellOv = (cellOvAfter r s).1 ∧ t.prot.tOv = (cellOvAfter r s).2 := by
  obtain ⟨x, y, hp⟩ := h.prot
  rw [hp]
  exact ⟨rfl, rfl⟩

theorem Published.cellUv (h : Published r s t) :
    t.prot.active.cellUv = (cellUvAfter r s).1 ∧ t.prot.tUv = (cellUvAfter r s).2 := by
  obtain ⟨x, y, hp⟩ := h.prot
  rw [hp]
  exact ⟨rfl, rfl⟩

theorem Published.dsgOt (h : Published r s t) :
    t.prot.active.dsgOt = (dsgOtAfter r s).1 ∧ t.prot.tOt = (dsgOtAfter r s).2 := by
  obtain ⟨x, y, hp⟩ := h.prot
  rw [hp]
  exact ⟨rfl, rfl⟩

theorem Published.sense (h : Published r s t) :
    t.prot.active.sense = (senseAfter r s).1 ∧ t.prot.senseTimer = (senseAfter r s).2 := by
  obtain ⟨x, y, hp⟩ := h.prot
  rw [hp]
  exact ⟨rfl, rfl⟩

theorem Published.dsgOc (h : Published r s t) : t.prot.active.dsgOc = (dsgOcAfter r s).active ∧
    t.prot.tOc = (dsgOcAfter r s).timer ∧ t.prot.ocEvents = (dsgOcAfter r s).events ∧
    ((dsgOcAfter r s).asserted = true → t.prot.ocClear = some (s.ctl.partTime + 5000)) := by
  obtain ⟨x, y, hp⟩ := h.prot
  rw [hp]
  exact ⟨rfl, rfl, rfl, fun ha => if_pos ha⟩

theorem Published.chgOc (h : Published r s t) : t.prot.active.chgOc = (chgOcAfter r s.pack.need.limit s).active ∧
    t.prot.tChgCeiling = (chgOcAfter r s.pack.need.limit s).ceiling ∧
    t.prot.tChgNeed = (chgOcAfter r s.pack.need.limit s).need := by
  obtain ⟨x, y, hp⟩ := h.prot
  rw [hp]
  exact ⟨rfl, rfl, rfl⟩

theorem Published.severe (h : Published r s t) :
    t.prot.tOvSevere = (ovSevereAfter r s).1 ∧ t.prot.tUvSevere = (uvSevereAfter r s).1 := by
  obtain ⟨x, y, hp⟩ := h.prot
  rw [hp]
  exact ⟨rfl, rfl⟩

/-- A lockout cause asserted at the publication locks the part out, with its level and both directions forbidden. -/
theorem Published.locked (h : Published r s t) :
    (repeatAfter r s = true → t.prot.lockedOut = true ∧ t.prot.lockout.ocRepeat = true) ∧
    ((ovSevereAfter r s).2 = true → t.prot.lockedOut = true ∧ t.prot.lockout.ovSevere = true) ∧
    ((uvSevereAfter r s).2 = true → t.prot.lockedOut = true ∧ t.prot.lockout.uvSevere = true) := by
  obtain ⟨x, y, hp⟩ := h.prot
  rw [hp]
  simp +contextual [protPublished, protAfter]

/-- The permissions after a publication (R66). -/
theorem Published.permissions (h : Published r s t) :
    (t.prot.lockedOut = true → t.prot.dischargeOk = false ∧ t.prot.chargeOk = false) ∧
    (t.prot.active.sense = true → t.prot.dischargeOk = false ∧ t.prot.chargeOk = false) ∧
    (t.prot.active.cellOv = true → t.prot.chargeOk = false) ∧ (t.prot.active.chgOc = true → t.prot.chargeOk = false) ∧
    (t.prot.active.cellUv = true → t.prot.dischargeOk = false) ∧
    (t.prot.active.dsgOt = true → t.prot.dischargeOk = false) ∧
    (t.prot.active.dsgOc = true → t.prot.dischargeOk = false) := by
  obtain ⟨x, y, hp⟩ := h.prot
  have hd : t.prot.dischargeOk = dischargePermitted t.prot := by rw [hp]; rfl
  have hc : t.prot.chargeOk = chargePermitted t.prot := by rw [hp]; rfl
  rw [hd, hc]
  refine ⟨?_, ?_, ?_, ?_, ?_, ?_, ?_⟩ <;> intro h <;> simp [dischargePermitted, chargePermitted, h]

/-- The entries that the causes of a publication have in the ring (R68). -/
structure EntriesMade (r : PackRecord) (s t : State) : Prop where
  cellOv : s.prot.active.cellOv = false → (cellOvAfter r s).1 = true →
    Spec.Entered s t .cellOv (highestEntry r.cells).1.fit16 ((highestEntry r.cells).2.map (fun n => (Reading.num n).fit16))
  cellUv : s.prot.active.cellUv = false → (cellUvAfter r s).1 = true →
    Spec.Entered s t .cellUv (lowestEntry r.cells).1.fit16 ((lowestEntry r.cells).2.map (fun n => (Reading.num n).fit16))
  dsgOt : s.prot.active.dsgOt = false → (dsgOtAfter r s).1 = true → Spec.Entered s t .dsgOt r.tPack.fit16 none
  dsgOc : (dsgOcAfter r s).asserted = true →
    Spec.Entered s t .dsgOc r.packI.fit16 (some (Reading.num (dsgOcAfter r s).events.length).fit16)
  ocRepeat : repeatAfter r s = true → Spec.Entered s t .ocRepeat r.packI.fit16 none
  chgOc : s.prot.active.chgOc = false → (chgOcAfter r s.pack.need.limit s).active = true →
    Spec.Entered s t .chgOc r.packI.fit16 (some (Reading.num s.pack.need.limit).fit16)
  sense : ∀ k, s.prot.active.sense = false → firstAbsent r = some k →
    Spec.Entered s t .sense (Reading.num k).fit16 none
  ovSevere : (ovSevereAfter r s).2 = true → Spec.Entered s t .ovSevere (highestEntry r.cells).1.fit16
    ((highestEntry r.cells).2.map (fun n => (Reading.num n).fit16))
  uvSevere : (uvSevereAfter r s).2 = true → Spec.Entered s t .uvSevere (lowestEntry r.cells).1.fit16
    ((lowestEntry r.cells).2.map (fun n => (Reading.num n).fit16))

theorem Published.entries (h : Published r s t) : EntriesMade r s t := by
  obtain ⟨s', u', hprot, hctl, hstick, c, hgrown⟩ := h.causes
  have hnow : s'.now = s.now := congrArg Ctl.partTime hctl
  have hactive : s'.prot.active = s.prot.active := by rw [hprot]
  have hentered : ∀ {code v w}, Spec.Entered s' t code v w → Spec.Entered s t code v w := fun he => by
    unfold Spec.Entered at he ⊢
    rwa [hctl] at he
  have hov : cellOvAfter r s' = cellOvAfter r s := by simp only [cellOvAfter, hnow, hprot]
  have huv : cellUvAfter r s' = cellUvAfter r s := by simp only [cellUvAfter, hnow, hprot]
  have hot : dsgOtAfter r s' = dsgOtAfter r s := by simp only [dsgOtAfter, hnow, hprot]
  have hoc : dsgOcAfter r s' = dsgOcAfter r s :=
    dsgOcAfter_congr r hnow (by rw [hactive]) (by rw [hprot]) (by rw [hprot])
  have hrepeat : repeatAfter r s' = repeatAfter r s := by rw [repeatAfter, hoc, repeatAfter]
  have hchg : chgOcAfter r s.pack.need.limit s' = chgOcAfter r s.pack.need.limit s :=
    chgOcAfter_congr r _ hnow (by rw [hactive]) (by rw [hprot]) (by rw [hprot]) hstick
  have hovs : ovSevereAfter r s' = ovSevereAfter r s := by simp only [ovSevereAfter, hnow, hprot]
  have huvs : uvSevereAfter r s' = uvSevereAfter r s := by simp only [uvSevereAfter, hnow, hprot]
  exact
    { cellOv := fun ha hv => hentered (c.cellOv t 1 (by rw [hactive, ha]) (by rw [hov, hv]) hgrown (by decide))
      cellUv := fun ha hv => hentered (c.cellUv t 1 (by rw [hactive, ha]) (by rw [huv, hv]) hgrown (by decide))
      dsgOt := fun ha hv => hentered (c.dsgOt t 1 (by rw [hactive, ha]) (by rw [hot, hv]) hgrown (by decide))
      dsgOc := fun hv => hoc ▸ hentered (c.dsgOc t 1 (by rw [hoc, hv]) hgrown (by decide))
      ocRepeat := fun hv => hentered (c.ocRepeat t 1 (by rw [hrepeat, hv]) hgrown (by decide))
      chgOc := fun ha hv => hentered (c.chgOc t 1 (by rw [hactive, ha]) (by rw [hchg, hv]) hgrown (by decide))
      sense := fun k ha hk => by
        have := hentered (c.sense t 1 (by rw [hactive, ha]) (by rw [hk]; rfl) hgrown (by decide))
        rwa [hk] at this
      ovSevere := fun hv => hentered (c.ovSevere t 1 (by rw [hovs, hv]) hgrown (by decide))
      uvSevere := fun hv => hentered (c.uvSevere t 1 (by rw [huvs, hv]) hgrown (by decide)) }

end

/-! ### The causes in the words of the scan -/

/-- The publication of a scan, with what it leaves. -/
theorem exec_published {s : State} (scan : RawScan) (hpower : s.ctl.power ≠ .ship) (hscanning : s.pack.scanning = true) :
    ∃ t, exec (.packRecordPublication scan) s = .next t ∧ Published (formRecord s scan) s t :=
  ⟨_, exec_publication scan hscanning hpower, published _ s⟩

/-- An inactive DSG_OC is judged by the current of the scan (R63). -/
theorem dsgOcAfter_inactive {r : PackRecord} {s : State} (h : s.prot.active.dsgOc = false) :
    (dsgOcAfter r s).active = (qualify s.now s.prot.tOc (r.packI.lt (-40000)) 20).2 ∧
    (dsgOcAfter r s).timer = (qualify s.now s.prot.tOc (r.packI.lt (-40000)) 20).1 ∧
    (dsgOcAfter r s).asserted = (dsgOcAfter r s).active ∧
    ((dsgOcAfter r s).active = true → (dsgOcAfter r s).events = ocAppend s.prot.ocEvents r.scanTime) := by
  unfold dsgOcAfter
  dsimp only
  rw [if_neg (by rw [h]; decide)]
  generalize qualify s.now s.prot.tOc (r.packI.lt (-40000)) 20 = j
  cases hj : j.2 <;> simp

theorem ocAppend_length (events : List Ms) (time : Ms) : (ocAppend events time).length ≤ 3 := by
  unfold ocAppend
  split
  · rw [List.length_append, List.length_singleton]; omega
  · rw [List.length_append, List.length_singleton, List.length_drop]; omega

/-- A third DSG_OC within 60 s (R65). -/
theorem ocRepeats_append {events : List Ms} {a b now : Ms} (h : events = [a, b] ∨ ∃ x, events = [x, a, b])
    (hle : (now - a).toNat ≤ 60000) : ocRepeats (ocAppend events now) = true := by
  rcases h with rfl | ⟨x, rfl⟩ <;> simpa [ocAppend, ocRepeats] using hle

theorem packCurrentReading_low {raw : Int} (h : raw < -40000) : (packCurrentReading raw).fit16 = .below := by
  unfold packCurrentReading
  split
  · rfl
  · rw [if_neg (by omega), Reading.fit16_below (by omega)]

theorem packCurrentReading_fit16 {raw : Int} (h : -32766 ≤ raw) :
    (packCurrentReading raw).fit16 = packCurrentReading raw := by
  unfold packCurrentReading
  split
  · rfl
  · split
    · rfl
    · exact Reading.fit16_num h (by omega)

/-- An inactive CHG_OC off the dock is not judged, and on the dock it is judged by the current of the scan (R64). -/
theorem Published.chgOc_scan {s t : State} {scan : RawScan} (h : Published (formRecord s scan) s t)
    (hactive : s.prot.active.chgOc = false) (hdet : s.stick.state ≠ .detached) :
    let since := fun t0 => (s.ctl.partTime - t0).toNat
    let ceiling : Prop := 5000 < scan.packI
    let need : Prop := ((s.pack.need.limit + 500 : Nat) : Int) < scan.packI ∨ 20000 < scan.packI
    (¬ ceiling → t.prot.tChgCeiling = none) ∧ (¬ need → t.prot.tChgNeed = none) ∧
    (ceiling → s.prot.tChgCeiling = none → t.prot.tChgCeiling = some s.ctl.partTime) ∧
    (need → s.prot.tChgNeed = none → t.prot.tChgNeed = some s.ctl.partTime) ∧
    (t.prot.active.chgOc = true ↔ ∃ t0, (ceiling ∧ s.prot.tChgCeiling = some t0 ∧ 100 ≤ since t0) ∨
      (need ∧ s.prot.tChgNeed = some t0 ∧ 1000 ≤ since t0)) := by
  intro since ceiling need
  obtain ⟨hchg, htCeiling, htNeed⟩ := h.chgOc
  have hceiling : (formRecord s scan).packI.gt 5000 = true ↔ ceiling := by
    show (packCurrentReading scan.packI).gt 5000 = true ↔ 5000 < scan.packI
    rw [packCurrentReading_gt (by decide)]
    omega
  have hneed : (formRecord s scan).packI.gt ((s.pack.need.limit + 500 : Nat) : Int) = true ↔ need :=
    packCurrentReading_gt (by omega)
  rw [hchg, htCeiling, htNeed, chgOcAfter_attached hactive hdet]
  generalize (formRecord s scan).packI.gt 5000 = c at hceiling ⊢
  generalize (formRecord s scan).packI.gt ((s.pack.need.limit + 500 : Nat) : Int) = n at hneed ⊢
  refine ⟨fun hc => ?_, fun hn => ?_, fun hc ht => ?_, fun hn ht => ?_, ?_⟩
  · rw [qualify_absent _ _ _ (Bool.eq_false_iff.mpr fun hh => hc (hceiling.mp hh))]
  · rw [qualify_absent _ _ _ (Bool.eq_false_iff.mpr fun hh => hn (hneed.mp hh))]
  · rw [qualify_begins _ _ (hceiling.mpr hc) ht]
    rfl
  · rw [qualify_begins _ _ (hneed.mpr hn) ht]
    rfl
  · rw [Bool.or_eq_true, qualify_iff, qualify_iff, hceiling, hneed, exists_or, exists_and_left, exists_and_left]
    rfl

/-- A severe condition, with its timer, and the lockout that it brings (R65). -/
theorem severe_scan {s : State} {timer timer' : Option Ms} {holds locks : Bool} {time : Nat} {P Q : Prop}
    (hP : holds = true ↔ P) (ht : timer' = (qualify s.now timer holds time).1)
    (hl : locks = (qualify s.now timer holds time).2) (hQ : locks = true → Q) :
    (¬ P → timer' = none) ∧ (P → timer = none → timer' = some s.ctl.partTime) ∧
    (∀ t0, P → timer = some t0 → time ≤ (s.ctl.partTime - t0).toNat → timer' = none ∧ Q) := by
  refine ⟨fun hn => ?_, fun hp h => ?_, fun t0 hp h hle => ?_⟩
  · rw [ht, qualify_absent _ _ _ (Bool.eq_false_iff.mpr fun hh => hn (hP.mp hh))]
  · rw [ht, qualify_begins _ _ (hP.mpr hp) h]
    rfl
  · have hj := qualify_passes (now := s.now) (hP.mpr hp) h hle
    exact ⟨by rw [ht, hj], hQ (by rw [hl, hj])⟩

/-- What a severe condition leaves once it has qualified. -/
theorem Published.lockedOut {r : PackRecord} {s t : State} (h : Published r s t) (hlocked : t.prot.lockedOut = true) :
    t.prot.level = .lockout ∧ t.prot.dischargeOk = false ∧ t.prot.chargeOk = false :=
  ⟨h.lockout hlocked, h.permissions.1 hlocked⟩

/-- FULL that is not newly set leaves the charge as the causes left it (R57). -/
theorem packFilled_charge {r : PackRecord} {s : State} (h : ¬ (s.pack.full = false ∧ (packFilled r s).full = true)) :
    (packFilled r s).q = (packJudged r s).q ∧ (packFilled r s).acc = (packJudged r s).acc ∧
    (packFilled r s).valid = (packJudged r s).valid ∧ (packFilled r s).restTimer = (packJudged r s).restTimer := by
  have hfull : (packJudged r s).full = s.pack.full := by rw [packJudged_others]
  rw [← hfull] at h
  unfold packFilled Pack.judgedFull at h ⊢
  generalize packJudged r s = p at h ⊢
  split
  · exact ⟨rfl, rfl, rfl, rfl⟩
  · next hp =>
    split
    · next hj =>
      rw [if_neg hp, if_pos hj] at h
      exact absurd ⟨Bool.eq_false_iff.mpr hp, rfl⟩ h
    · exact ⟨rfl, rfl, rfl, rfl⟩

/-- Settles O46. -/
theorem causesForbid : Obligations.CausesForbid := by
  intro s scan hpower hscanning mV since r absent ceiling need
  obtain ⟨t, hexec, h⟩ := exec_published scan hpower hscanning
  have habsent : (firstAbsent r).isSome = true ↔ absent := firstAbsent_scan s scan
  obtain ⟨hov, htOv⟩ := h.cellOv
  obtain ⟨huv, htUv⟩ := h.cellUv
  obtain ⟨hot, htOt⟩ := h.dsgOt
  obtain ⟨hoc, htOc, hevents, hocClear⟩ := h.dsgOc
  obtain ⟨hchg, htCeiling, htNeed⟩ := h.chgOc
  obtain ⟨hsense, htSense⟩ := h.sense
  obtain ⟨htOvSevere, htUvSevere⟩ := h.severe
  obtain ⟨hlockRepeat, hlockOv, hlockUv⟩ := h.locked
  obtain ⟨-, hpSense, hpOv, hpChg, hpUv, hpOt, hpOc⟩ := h.permissions
  obtain ⟨hovValue, hovIndex⟩ := highestEntry_fit16 s scan
  obtain ⟨huvValue, huvIndex⟩ := lowestEntry_fit16 s scan
  obtain ⟨hovNone, hovBegins, hovLocks⟩ := severe_scan (highestAbove_scan s scan (mV := 4400) (by decide) (by decide))
    htOvSevere rfl (fun hl => And.intro (hlockOv hl) (h.entries.ovSevere hl))
  obtain ⟨huvNone, huvBegins, huvLocks⟩ := severe_scan (lowestBelow_scan s scan (mV := 1500) (by decide))
    htUvSevere rfl (fun hl => And.intro (hlockUv hl) (h.entries.uvSevere hl))
  have hcurrent : r.packI.lt (-40000) = true ↔ scan.packI < -40000 := packCurrentReading_lt (by decide) (by decide)
  have hactive : ∀ t0, scan.packI < -40000 → s.prot.active.dsgOc = false → s.prot.tOc = some t0 → 20 ≤ since t0 →
      (dsgOcAfter r s).active = true := fun t0 hi ha ht hle => by
    rw [(dsgOcAfter_inactive ha).1, qualify_iff]
    exact ⟨hcurrent.mpr hi, t0, ht, hle⟩
  have hasserted : ∀ t0, scan.packI < -40000 → s.prot.active.dsgOc = false → s.prot.tOc = some t0 → 20 ≤ since t0 →
      (dsgOcAfter r s).asserted = true := fun t0 hi ha ht hle => by
    rw [(dsgOcAfter_inactive ha).2.2.1, hactive t0 hi ha ht hle]
  refine ⟨t, hexec, by rw [h.pack, packFilled_others], fun ha => ?_, fun hs ha => ?_, ?_, ?_, ?_, ?_, ?_, fun ha => ?_,
    fun ha => ?_, fun ha => ?_, fun ha => ?_, hpOv, hpUv, hpOt, hpOc, hpChg, fun t0 hi ha ht hle => ⟨?_, fun a b hab hle' => ?_⟩,
    fun ha => ?_, fun ha hd => ?_, fun ha hd => h.chgOc_scan ha hd, hovNone, fun i hi hlt => hovBegins ⟨i, hi, hlt⟩,
    fun i t0 hi hlt ht hle => ?_, huvNone, fun i hi hlo hlt => huvBegins ⟨i, hi, hlo, hlt⟩,
    fun i t0 hi hlo hlt ht hle => ?_, fun ha hv => ?_, fun ha hv => ⟨fun hfull => ?_, ?_⟩, fun ha hv => ?_, fun ha hv => ?_,
    fun ha hv => ?_, fun k ha hk hle => ?_⟩
  · have hs : t.prot.active.sense = true := by
      rw [hsense, senseAfter]
      split
      · rw [qualify_absent _ _ _ (by rw [Option.isNone_eq_false_iff]; exact habsent.mpr ha)]
        rfl
      · exact habsent.mpr ha
    exact ⟨hs, hpSense hs⟩
  · rw [hsense, senseAfter, if_neg (by simp [hs]), Bool.eq_false_iff]
    exact fun hh => ha (habsent.mp hh)
  · refine qualifies_of_verdict (holds := (firstAbsent r).isNone) ?_ fun ha => ?_
    · rw [← habsent, Option.isNone_iff_eq_none, Option.not_isSome_iff_eq_none]
    · have hactive : s.prot.active.sense = true := by simpa using ha
      rw [hsense, htSense, senseAfter, if_pos hactive, Bool.not_not]
      exact ⟨rfl, rfl⟩
  · rw [hov, htOv]
    exact qualifies_verdict _ (highestAbove_scan s scan (by decide) (by decide))
  · rw [huv, htUv]
    exact qualifies_verdict _ (lowestBelow_scan s scan (by decide))
  · rw [hot, htOt]
    exact qualifies_verdict _ (tPack_ge_scan s scan)
  · refine qualifies_of_verdict hcurrent fun ha => ?_
    obtain ⟨hactive, htimer, -⟩ := dsgOcAfter_inactive (r := r) ha
    exact ⟨hoc.trans hactive, htOc.trans htimer⟩
  · rw [hov]
    exact verdict_released (allBelow_scan s scan (by decide)) ha
  · rw [huv]
    exact verdict_released (uvReleased_scan s scan) ha
  · rw [hot]
    exact verdict_released (tPack_lt_scan s scan) ha
  · rw [hoc, dsgOcAfter]
    simp [ha]
  · exact hocClear (hasserted t0 hi ha ht hle)
  · have hrepeats : repeatAfter r s = true := by
      rw [repeatAfter, hasserted t0 hi ha ht hle, (dsgOcAfter_inactive (r := r) ha).2.2.2 (hactive t0 hi ha ht hle)]
      exact ocRepeats_append hab hle'
    obtain ⟨hlocked, hcause⟩ := hlockRepeat hrepeats
    obtain ⟨hlevel, -, hc⟩ := h.lockedOut hlocked
    have hentered := h.entries.ocRepeat hrepeats
    rw [show (formRecord s scan).packI.fit16 = .below from packCurrentReading_low hi] at hentered
    exact ⟨hlocked, hcause, hlevel, hc, hentered⟩
  · rw [hchg, chgOcAfter_active ha]
  · rw [hchg, htCeiling, htNeed, chgOcAfter_detached ha hd]
    exact ⟨rfl, rfl, rfl⟩
  · obtain ⟨htimer, ⟨hlocked, hcause⟩, hentered⟩ := hovLocks t0 ⟨i, hi, hlt⟩ ht hle
    obtain ⟨hlevel, hd, hc⟩ := h.lockedOut hlocked
    rw [hovValue, hovIndex] at hentered
    exact ⟨hlocked, hcause, hlevel, hd, hc, htimer, hentered⟩
  · obtain ⟨htimer, ⟨hlocked, hcause⟩, hentered⟩ := huvLocks t0 ⟨i, hi, hlo, hlt⟩ ht hle
    obtain ⟨hlevel, hd, hc⟩ := h.lockedOut hlocked
    rw [huvValue, huvIndex] at hentered
    exact ⟨hlocked, hcause, hlevel, hd, hc, htimer, hentered⟩
  · have hentered := h.entries.cellOv ha (hov.symm.trans hv)
    rwa [hovValue, hovIndex] at hentered
  · have hpfull : (packFilled r s).full = false := by rw [← hfull, h.pack]
    have hasserted : uvAsserted r s = true := by
      rw [uvAsserted, ha, ← huv, hv]
      rfl
    have hq := (packFilled_charge (r := r) (s := s) (fun hh => by rw [hpfull] at hh; cases hh.2)).1
    rw [h.pack]
    show (packFilled r s).q = 0
    rw [hq, packJudged, if_pos hasserted]
    rfl
  · have hentered := h.entries.cellUv ha (huv.symm.trans hv)
    rwa [huvValue, huvIndex] at hentered
  · have hentered := h.entries.dsgOt ha (hot.symm.trans hv)
    rwa [tPack_fit16] at hentered
  · obtain ⟨hactive', -, hasserted', hevents'⟩ := dsgOcAfter_inactive (r := r) ha
    have hv' : (dsgOcAfter r s).active = true := hoc.symm.trans hv
    have hlow : scan.packI < -40000 := hcurrent.mp ((qualify_iff _ _ _ _).mp (hactive'.symm.trans hv')).1
    have hentered := h.entries.dsgOc (hasserted'.trans hv')
    have hlen : (dsgOcAfter (formRecord s scan) s).events.length ≤ 3 := by
      rw [show (dsgOcAfter (formRecord s scan) s).events = _ from hevents' hv']
      exact ocAppend_length _ _
    rw [show (formRecord s scan).packI.fit16 = .below from packCurrentReading_low hlow,
      Reading.fit16_num (by omega) (by omega)] at hentered
    rw [hevents]
    exact hentered
  · have hentered := h.entries.chgOc ha (hchg.symm.trans hv)
    have hcharging : 5000 < scan.packI ∨ ((s.pack.need.limit + 500 : Nat) : Int) < scan.packI ∨ 20000 < scan.packI := by
      by_cases hd : s.stick.state = .detached
      · rw [hchg, chgOcAfter_detached ha hd] at hv
        cases hv
      · obtain ⟨-, -, -, -, hiff⟩ := h.chgOc_scan ha hd
        obtain ⟨t0, ⟨hc, -⟩ | ⟨hn, -⟩⟩ := hiff.mp hv
        · exact .inl hc
        · exact .inr hn
    rwa [show (formRecord s scan).packI.fit16 = r.packI from packCurrentReading_fit16 (by omega)] at hentered
  · have hentered := h.entries.sense k ha hk
    rwa [Reading.fit16_num (by omega) (by omega)] at hentered

end Sys2Proof.Machine

/-! The selection of the balance set (section 3.4). -/

namespace Sys2Proof.Machine

open Sys2Proof

/-! ### The order of the candidates (R70) -/

/-- A numbered cell comes before another in the order of the candidates. -/
def Ranked (x y : Nat × Reading) : Prop := cellRank y.2 < cellRank x.2 ∨ cellRank x.2 = cellRank y.2 ∧ x.1 < y.1

theorem placeCandidate_perm (x : Nat × Reading) (l : List (Nat × Reading)) : (placeCandidate x l).Perm (x :: l) := by
  induction l with
  | nil => exact .refl _
  | cons y rest ih =>
    unfold placeCandidate
    split
    · exact .refl _
    · exact (ih.cons y).trans (.swap x y rest)

/-- A candidate placed behind those of lower index keeps the order. -/
theorem placeCandidate_ranked {x : Nat × Reading} {l : List (Nat × Reading)} (h : l.Pairwise Ranked)
    (hx : ∀ y ∈ l, y.1 < x.1) : (placeCandidate x l).Pairwise Ranked := by
  induction l with
  | nil => exact List.pairwise_singleton _ _
  | cons y rest ih =>
    obtain ⟨hy, hrest⟩ := List.pairwise_cons.mp h
    unfold placeCandidate
    split
    · next hlt =>
      refine List.pairwise_cons.mpr ⟨fun z hz => ?_, h⟩
      rcases List.mem_cons.mp hz with rfl | hz
      · exact .inl hlt
      · rcases hy z hz with hr | ⟨hr, -⟩
        · exact .inl (Int.lt_trans hr hlt)
        · exact .inl (hr ▸ hlt)
    · next hge =>
      refine List.pairwise_cons.mpr ⟨fun z hz => ?_, ih hrest fun z hz => hx z (List.mem_cons_of_mem _ hz)⟩
      rcases List.mem_cons.mp ((placeCandidate_perm x rest).mem_iff.mp hz) with rfl | hz
      · have := hx y List.mem_cons_self
        unfold Ranked
        omega
      · exact hy z hz

/-- The candidates are the numbered cells given, in their order. -/
theorem orderCandidates_spec {xs : List (Nat × Reading)} (h : xs.Pairwise (fun x y => x.1 < y.1)) :
    (orderCandidates xs).Pairwise Ranked ∧ ∀ x, x ∈ orderCandidates xs ↔ x ∈ xs := by
  suffices hfold : ∀ acc : List (Nat × Reading), acc.Pairwise Ranked → (∀ y ∈ acc, ∀ x ∈ xs, y.1 < x.1) →
      (xs.foldl (fun a x => placeCandidate x a) acc).Pairwise Ranked ∧
      ∀ x, x ∈ xs.foldl (fun a x => placeCandidate x a) acc ↔ x ∈ acc ∨ x ∈ xs by
    obtain ⟨hranked, hmem⟩ := hfold [] .nil (by simp)
    exact ⟨hranked, fun x => (hmem x).trans (by simp)⟩
  induction xs with
  | nil => exact fun acc hacc _ => ⟨hacc, by simp⟩
  | cons x xs ih =>
    intro acc hacc hlt
    obtain ⟨hx, hxs⟩ := List.pairwise_cons.mp h
    have hperm := placeCandidate_perm x acc
    obtain ⟨hranked, hmem⟩ := ih hxs (placeCandidate x acc)
      (placeCandidate_ranked hacc fun y hy => hlt y hy x List.mem_cons_self) fun y hy z hz => by
        rcases List.mem_cons.mp (hperm.mem_iff.mp hy) with rfl | hy
        · exact hx z hz
        · exact hlt y hy z (List.mem_cons_of_mem _ hz)
    refine ⟨hranked, fun z => ?_⟩
    rw [List.foldl_cons, hmem, hperm.mem_iff, List.mem_cons, List.mem_cons, or_assoc, or_left_comm]

/-! ### Candidates in the words of the spec -/

/-- A cell that no balancing is without: above its range, or a number within it (R69, R50). -/
def Reads (c : Reading) : Prop := c = .above ∨ ∃ n, c = .num n ∧ 500 ≤ n ∧ n ≤ 5000

theorem higher_iff {c d : Reading} (hc : Reads c) (hd : Reads d) : Spec.higher c d ↔ cellRank d < cellRank c := by
  rcases hc with rfl | ⟨n, rfl, hn⟩ <;> rcases hd with rfl | ⟨m, rfl, hm⟩ <;> simp [Spec.higher, cellRank] <;> omega

theorem higher_num_iff {c : Reading} {v : Int} (hc : Reads c) (hv : v ≤ 5030) : Spec.higher c (.num v) ↔ v < cellRank c := by
  rcases hc with rfl | ⟨n, rfl, hn⟩ <;> simp [Spec.higher, cellRank]
  omega

/-- The numbered cells: the n-th from 1 with its reading. -/
theorem mem_numbered (cells : List Reading) (x : Nat × Reading) :
    x ∈ cells.mapIdx (fun i c => (i + 1, c)) ↔ 1 ≤ x.1 ∧ cells[x.1 - 1]? = some x.2 := by
  obtain ⟨i, c⟩ := x
  simp only [List.mem_mapIdx, Prod.mk.injEq]
  constructor
  · rintro ⟨k, hk, rfl, rfl⟩
    exact ⟨Nat.le_add_left 1 k, by simp [hk]⟩
  · rintro ⟨hi, hc⟩
    obtain ⟨hk, hc⟩ := List.getElem?_eq_some_iff.mp hc
    exact ⟨i - 1, hk, by omega, hc⟩

theorem numbered_increasing (cells : List Reading) :
    (cells.mapIdx (fun i c => (i + 1, c))).Pairwise (fun x y => x.1 < y.1) := by
  rw [List.pairwise_iff_getElem]
  intro i j hi hj hlt
  simpa using hlt

/-- The candidates of R70, numbered. -/
def candidates (balance : List Nat) (cells : List Reading) (lowest : Int) : List (Nat × Reading) :=
  (cells.mapIdx (fun i c => (i + 1, c))).filter (isCandidate balance lowest)

theorem mem_candidates {balance : List Nat} {cells : List Reading} {lowest : Int} (hcells : ∀ c ∈ cells, Reads c)
    (hlow : lowest ≤ 5000) (x : Nat × Reading) : x ∈ candidates balance cells lowest ↔
      Spec.mayBleed balance cells lowest x.1 ∧ cells[x.1 - 1]? = some x.2 := by
  unfold candidates Spec.mayBleed
  rw [List.mem_filter, mem_numbered]
  have hcandidate : ∀ c, Reads c → (isCandidate balance lowest (x.1, c) = true ↔
      Spec.higher c (.num (lowest + if x.1 ∈ balance then 10 else 30))) := fun c hc => by
    rw [higher_num_iff hc (by split <;> omega)]
    simp [isCandidate]
  constructor
  · rintro ⟨⟨hi, hc⟩, hb⟩
    exact ⟨⟨hi, x.2, hc, (hcandidate _ (hcells _ (List.mem_of_getElem? hc))).mp hb⟩, hc⟩
  · rintro ⟨⟨hi, c, hc, hb⟩, hc'⟩
    obtain rfl : c = x.2 := Option.some.inj (hc.symm.trans hc')
    exact ⟨⟨hi, hc⟩, (hcandidate _ (hcells _ (List.mem_of_getElem? hc))).mpr hb⟩

theorem bleedsBefore_of_ranked {cells : List Reading} (hcells : ∀ c ∈ cells, Reads c) {x y : Nat × Reading}
    (hx : cells[x.1 - 1]? = some x.2) (hy : cells[y.1 - 1]? = some y.2) (h : Ranked x y) :
    Spec.bleedsBefore cells x.1 y.1 := by
  have hxr := hcells _ (List.mem_of_getElem? hx)
  have hyr := hcells _ (List.mem_of_getElem? hy)
  unfold Spec.bleedsBefore
  rw [List.getD_eq_getElem?_getD, List.getD_eq_getElem?_getD, hx, hy]
  show Spec.higher x.2 y.2 ∨ ¬ Spec.higher y.2 x.2 ∧ _
  rw [higher_iff hxr hyr, higher_iff hyr hxr]
  rcases h with h | ⟨h, hi⟩
  · exact .inl h
  · exact .inr ⟨by omega, hi⟩

/-! ### The set selected -/

theorem selectBalance_selected {balance : List Nat} {cells : List Reading} {lowest : Int} (hcells : ∀ c ∈ cells, Reads c)
    (hlow : lowestCell cells = some lowest) : Spec.Selected balance cells lowest (selectBalance balance cells) := by
  have hmax : lowest ≤ 5000 := by
    rcases hcells _ ((lowestCell_eq_some cells lowest).mp hlow).1 with h | ⟨n, h, -, hn⟩ <;> cases h
    exact hn
  have hselect : selectBalance balance cells
      = ((orderCandidates (candidates balance cells lowest)).take 3).map Prod.fst := by
    rw [selectBalance, hlow]
    rfl
  obtain ⟨hranked, hmem⟩ := orderCandidates_spec
    ((numbered_increasing cells).filter (isCandidate balance lowest))
  have hcandidate := fun x => (hmem x).trans (mem_candidates (balance := balance) hcells hmax x)
  rw [hselect]
  unfold candidates
  generalize orderCandidates ((cells.mapIdx (fun i c => (i + 1, c))).filter (isCandidate balance lowest)) = order at *
  have htake : ∀ x ∈ order.take 3, Spec.mayBleed balance cells lowest x.1 ∧ cells[x.1 - 1]? = some x.2 := fun x hx =>
    (hcandidate x).mp (List.mem_of_mem_take hx)
  refine { size := ?_, candidates := ?_, order := ?_, rest := ?_ }
  · rw [List.length_map, List.length_take]
    exact Nat.min_le_left _ _
  · intro i hi
    obtain ⟨x, hx, rfl⟩ := List.mem_map.mp hi
    exact (htake x hx).1
  · rw [List.pairwise_map]
    exact (hranked.sublist (List.take_sublist 3 order)).imp_of_mem fun hx hy h =>
      bleedsBefore_of_ranked hcells (htake _ hx).2 (htake _ hy).2 h
  · intro j hj hnot
    obtain ⟨c, hc⟩ : ∃ c, cells[j - 1]? = some c := ⟨hj.2.choose, hj.2.choose_spec.1⟩
    have hin : (j, c) ∈ order := (hcandidate (j, c)).mpr ⟨hj, hc⟩
    have hdrop : (j, c) ∈ order.drop 3 := by
      rw [← List.take_append_drop 3 order, List.mem_append] at hin
      exact hin.resolve_left fun h => hnot (List.mem_map.mpr ⟨_, h, rfl⟩)
    refine ⟨?_, fun i hi => ?_⟩
    · have hlen := List.length_pos_of_mem hdrop
      rw [List.length_drop] at hlen
      rw [List.length_map, List.length_take]
      omega
    · obtain ⟨x, hx, rfl⟩ := List.mem_map.mp hi
      rw [← List.take_append_drop 3 order, List.pairwise_append] at hranked
      exact bleedsBefore_of_ranked hcells (htake x hx).2 hc (hranked.2.2 x hx _ hdrop)

end Sys2Proof.Machine

/-! A scan: its start, its publication, the charge counter and the estimate (sections 3.1, 3.2, 3.4 and 3.5). -/

namespace Sys2Proof.Machine

open Sys2Proof

/-! ### The start of a scan (R49) -/

theorem exec_scanTimerExpiry {s : State} (hpower : s.ctl.power ≠ .ship) (htimer : s.pack.scanTimer.isSome = true) :
    exec .scanTimerExpiry s = .next (settle (scanExpired s)) := by
  show execScanTimerExpiry s = _
  rw [execScanTimerExpiry, event_occurs htimer hpower]

theorem scanInterval_eq {p : PowerMode} (h : p ≠ .ship) : scanInterval p = if p = .active then 10 else 1000 := by
  cases p
  · rfl
  · rfl
  · exact absurd rfl h

theorem scanDue {s : State} (h : s.ctl.power ≠ .ship) :
    s.after (scanInterval s.ctl.power) = s.ctl.partTime + (if s.ctl.power = .active then 10 else 1000) := by
  rw [scanInterval_eq h, State.after]
  split <;> rfl

/-! ### The charge counter (R54) -/

theorem Pack.integrate_counts (p : Pack) (current : Reading) (dt : Nat) :
    let sum := p.acc + integrationCurrent current * dt - 60 * p.balance.length * dt
    let q := (p.q : Int) + sum.tdiv 1000
    (p.integrate current dt).acc = sum - sum.tdiv 1000 * 1000 ∧
    -999 ≤ (p.integrate current dt).acc ∧ (p.integrate current dt).acc ≤ 999 ∧
    ((p.integrate current dt).q : Int)
      = (if q < 0 then 0 else if ((p.capacity * 3600 : Nat) : Int) < q then ((p.capacity * 3600 : Nat) : Int) else q) := by
  intro sum q
  have hsum : p.acc + integrationCurrent current * dt - (p.balance.length * 60 * dt : Nat) = sum := by
    show _ = p.acc + integrationCurrent current * dt - 60 * p.balance.length * dt
    rw [Int.natCast_mul, Int.natCast_mul, Int.mul_comm (p.balance.length : Int)]
    rfl
  have hacc : (p.integrate current dt).acc = sum - sum.tdiv 1000 * 1000 := by
    rw [← hsum]
    rfl
  have hq : (p.integrate current dt).q = (clampInt 0 p.fullCharge q).toNat := by
    show (clampInt 0 p.fullCharge (p.q + Int.tdiv _ 1000)).toNat = _
    rw [hsum]
  have hrem : sum - sum.tdiv 1000 * 1000 = sum.tmod 1000 := by
    have := Int.tmod_add_mul_tdiv sum 1000
    omega
  have hlo : -999 ≤ sum.tmod 1000 ∧ sum.tmod 1000 ≤ 999 := by
    constructor
    · have := Int.lt_tmod_of_pos sum (show (0 : Int) < 1000 by decide)
      omega
    · have := Int.tmod_lt_of_pos sum (show (0 : Int) < 1000 by decide)
      omega
  refine ⟨hacc, by rw [hacc, hrem]; exact hlo.1, by rw [hacc, hrem]; exact hlo.2, ?_⟩
  rw [hq, clampInt, Pack.fullCharge]
  split
  · omega
  · split <;> omega

/-! ### The estimate (R56) -/

theorem ocvSearch_cons (a b : Nat × Nat) (rest : List (Nat × Nat)) (avg : Nat) : ocvSearch (a :: b :: rest) avg
    = if avg < b.1 then interpolate a.1 a.2 b.1 b.2 avg else ocvSearch (b :: rest) avg := rfl

/-- Past every point of the table the search ends at 1,000 (R56). -/
theorem ocvSearch_past {points : List (Nat × Nat)} {avg : Nat} (h : ∀ p ∈ points, p.1 ≤ avg) :
    ocvSearch points avg = 1000 := by
  induction points with
  | nil => rfl
  | cons a rest ih =>
    cases rest with
    | nil => rfl
    | cons b rest =>
      rw [ocvSearch_cons, if_neg (Nat.not_lt.mpr (h b (by simp)))]
      exact ih fun p hp => h p (List.mem_cons_of_mem _ hp)

/-- Between two neighbours of the table the search interpolates (R56). -/
theorem ocvSearch_between {points : List (Nat × Nat)} {k avg : Nat} {a b : Nat × Nat} (ha : points[k]? = some a)
    (hb : points[k + 1]? = some b) (hbefore : ∀ j p, j ≤ k → points[j]? = some p → p.1 ≤ avg) (hlt : avg < b.1) :
    ocvSearch points avg = interpolate a.1 a.2 b.1 b.2 avg := by
  induction points generalizing k with
  | nil => simp at ha
  | cons c rest ih =>
    cases rest with
    | nil => simp at hb
    | cons d rest =>
      cases k with
      | zero =>
        simp only [List.getElem?_cons_zero, Option.some.injEq, Nat.zero_add, List.getElem?_cons_succ] at ha hb
        subst ha hb
        rw [ocvSearch_cons, if_pos hlt]
      | succ k =>
        rw [ocvSearch_cons, if_neg (Nat.not_lt.mpr (hbefore 1 d (by omega) rfl))]
        exact ih ha hb (fun j p hj hp => hbefore (j + 1) p (by omega) hp)

theorem ocvToSoc_table {table : List Nat} (hlen : table.length = 9) (hsorted : table.Pairwise (· < ·)) (avg : Nat) :
    let soc : List Nat := [0, 50, 100, 200, 350, 500, 650, 850, 1000]
    let v := fun k => table.getD k 0
    let s := fun k => soc.getD k 0
    (avg ≤ v 0 → ocvToSoc table avg = 0) ∧ (v 8 ≤ avg → ocvToSoc table avg = 1000) ∧
    (∀ k, k < 8 → v k ≤ avg → avg < v (k + 1) →
      ocvToSoc table avg = s k + (s (k + 1) - s k) * (avg - v k) / (v (k + 1) - v k)) := by
  intro soc v s
  have hv : ∀ k (h : k < 9), v k = table[k] := fun k h => by simp [v, hlen, h]
  have hmono : ∀ j k, j < k → k < 9 → v j < v k := fun j k hj hk => by
    rw [hv j (by omega), hv k hk]
    exact List.pairwise_iff_getElem.mp hsorted j k _ _ hj
  have hhead : table.headD 0 = v 0 := by
    cases table with
    | nil => cases hlen
    | cons a rest => rfl
  have hpoint : ∀ k, k < 9 → (table.zip ocvPoints)[k]? = some (v k, s k) := fun k hk => by
    have hs : ocvPoints[k]? = some (s k) := by
      show soc[k]? = some (soc.getD k 0)
      rw [List.getD_eq_getElem?_getD, List.getElem?_eq_getElem (by exact hk)]
      rfl
    rw [List.getElem?_zip_eq_some]
    exact ⟨by rw [hv k hk]; exact List.getElem?_eq_getElem _, hs⟩
  have hzip : (table.zip ocvPoints).length = 9 := by
    rw [List.length_zip, hlen]
    rfl
  have hsearch : v 0 < avg → ocvToSoc table avg = ocvSearch (table.zip ocvPoints) avg := fun h => by
    rw [ocvToSoc, hhead, if_neg (by omega)]
  refine ⟨fun h => ?_, fun h => ?_, fun k hk hlo hhi => ?_⟩
  · rw [ocvToSoc, hhead, if_pos h]
  · rw [hsearch (Nat.lt_of_lt_of_le (hmono 0 8 (by decide) (by decide)) h)]
    refine ocvSearch_past fun p hp => ?_
    obtain ⟨j, hj⟩ := List.mem_iff_getElem?.mp hp
    have hj9 : j < 9 := hzip ▸ (List.getElem?_eq_some_iff.mp hj).1
    obtain rfl : (v j, s j) = p := Option.some.inj ((hpoint j hj9).symm.trans hj)
    rcases Nat.lt_or_ge j 8 with h8 | h8
    · exact Nat.le_trans (Nat.le_of_lt (hmono j 8 h8 (by decide))) h
    · obtain rfl : j = 8 := by omega
      exact h
  · have hbetween := ocvSearch_between (hpoint k (by omega)) (hpoint (k + 1) (by omega)) (fun j p hj hp => by
      obtain rfl : (v j, s j) = p := Option.some.inj ((hpoint j (by omega)).symm.trans hp)
      rcases Nat.lt_or_ge j k with hjk | hjk
      · exact Nat.le_trans (Nat.le_of_lt (hmono j k hjk (by omega))) hlo
      · obtain rfl : j = k := by omega
        exact hlo) hhi
    by_cases hfirst : avg ≤ v 0
    · have hzero : k = 0 := by
        refine Classical.byContradiction fun hne => ?_
        have := hmono 0 k (by omega) (by omega)
        omega
      subst hzero
      rw [ocvToSoc, hhead, if_pos hfirst, Nat.le_antisymm hfirst hlo, Nat.sub_self, Nat.mul_zero, Nat.zero_div]
      rfl
    · rw [hsearch (by omega), hbetween]
      rfl

/-! ### FULL (R72) -/

theorem qualify_done {now : Ms} {timer : Option Ms} {holds : Bool} {time : Nat}
    (h : (qualify now timer holds time).2 = true) : (qualify now timer holds time).1 = none := by
  obtain ⟨hh, t0, ht, hle⟩ := (qualify_iff _ _ _ _).mp h
  rw [qualify_passes hh ht hle]

theorem packFilled_of_unfilled {r : PackRecord} {s : State} (h : s.pack.full = false) :
    (packFilled r s).full = (qualify s.now s.pack.fullTimer (fullCondition s r s.pack.need) 60000).2 ∧
    (packFilled r s).fullTimer = (qualify s.now s.pack.fullTimer (fullCondition s r s.pack.need) 60000).1 := by
  have hfull : (packJudged r s).full = false := by rw [packJudged_others]; exact h
  have htimer : (packJudged r s).fullTimer = s.pack.fullTimer := by rw [packJudged_others]
  unfold packFilled Pack.judgedFull
  rw [if_neg (by rw [hfull]; decide), htimer]
  split
  · next hj => exact ⟨hj.symm, (qualify_done hj).symm⟩
  · next hj => exact ⟨hfull.trans (Bool.eq_false_iff.mpr hj).symm, rfl⟩

theorem packFilled_of_full {r : PackRecord} {s : State} (h : s.pack.full = true) :
    (packFilled r s).full = !fullCleared r s.gov.limits.cellTarget ∧ (packFilled r s).fullTimer = none := by
  have hfull : (packJudged r s).full = true := by rw [packJudged_others]; exact h
  unfold packFilled Pack.judgedFull
  rw [if_pos hfull]
  exact ⟨rfl, rfl⟩

theorem fullCondition_iff (s : State) (r : PackRecord) (need : Need) : fullCondition s r need = true ↔
    s.stick.state = .charging ∧
      (r.packI = .below ∨ ∃ n, r.packI = .num n ∧ n < ((max 50 (need.limit / 20) : Nat) : Int)) ∧
      (r.packV = .above ∨ ∃ n, r.packV = .num n ∧ ((need.target - 10 * s.cellCount : Nat) : Int) ≤ n) := by
  simp only [fullCondition, Bool.and_eq_true, decide_eq_true_eq, Reading.lt_iff, Reading.ge_iff, and_assoc]

theorem fullCleared_iff (r : PackRecord) (cellTarget : Nat) : fullCleared r cellTarget = true ↔
    (∃ n, .num n ∈ r.cells) ∧ ∀ c ∈ r.cells, c ≠ .above ∧ ∀ n, c = .num n → n < (cellTarget : Int) - 100 := by
  unfold fullCleared
  rcases highestCell_cases r.cells with ⟨ha, h⟩ | ⟨ha, m, h, hm, hmax⟩ | ⟨-, h, hnone⟩
  · rw [h]
    exact ⟨fun hf => absurd hf Bool.false_ne_true, fun ⟨_, hall⟩ => absurd rfl (hall _ ha).1⟩
  · rw [h]
    simp only [Reading.numLt, decide_eq_true_eq]
    constructor
    · intro hlt
      refine ⟨⟨m, hm⟩, fun c hc => ⟨fun he => ha (he ▸ hc), fun n hn => ?_⟩⟩
      exact Int.lt_of_le_of_lt (hmax n (hn ▸ hc)) hlt
    · exact fun ⟨_, hall⟩ => (hall _ hm).2 m rfl
  · rw [h]
    exact ⟨fun hf => absurd hf Bool.false_ne_true, fun ⟨⟨n, hn⟩, _⟩ => absurd hn (hnone n)⟩

/-! ### The calibration points (R56, R57) -/

theorem packFilled_of_filled {r : PackRecord} {s : State} (h : s.pack.full = false) (hfilled : (packFilled r s).full = true) :
    (packFilled r s).valid = true ∧ (packFilled r s).acc = 0 ∧ (packFilled r s).restTimer = none ∧
    (packFilled r s).q = s.pack.capacity * 3600 := by
  have hcapacity : (packJudged r s).capacity = s.pack.capacity := by rw [packJudged_others]
  have hfull : (packJudged r s).full = false := by rw [packJudged_others]; exact h
  have htimer : (packJudged r s).fullTimer = s.pack.fullTimer := by rw [packJudged_others]
  rw [(packFilled_of_unfilled h).1] at hfilled
  unfold packFilled Pack.judgedFull
  rw [if_neg (by rw [hfull]; decide), htimer, if_pos hfilled]
  exact ⟨rfl, rfl, rfl, by rw [← hcapacity]; rfl⟩

theorem packJudged_of_cutOff {r : PackRecord} {s : State} (h : uvAsserted r s = true) :
    (packJudged r s).valid = true ∧ (packJudged r s).acc = 0 ∧ (packJudged r s).restTimer = none ∧
    (packJudged r s).q = 0 := by
  rw [packJudged, if_pos h]
  exact ⟨rfl, rfl, rfl, rfl⟩

theorem atRest_iff (r : PackRecord) : r.atRest = true ↔
    (∃ n, r.packI = .num n ∧ -50 < n ∧ n < 50) ∧ ∀ c ∈ r.cells, ∃ n, c = .num n := by
  simp only [PackRecord.atRest, Bool.and_eq_true, List.all_eq_true, Reading.isNum_iff]
  refine and_congr_left fun _ => ?_
  cases r.packI <;> simp [Reading.within]
  omega

/-- The charge without a calibration by FULL or CELL_UV: counted, and estimated once a pack of no valid charge has rested
for 2 s (R54, R56). -/
theorem packTaken_counts (r : PackRecord) (s : State) :
    let counted := s.pack.integrate r.packI s.sincePublication
    let j := qualify s.now s.pack.restTimer r.atRest 2000
    (s.pack.valid = true → (packTaken r s).valid = true ∧ (packTaken r s).restTimer = none ∧
      (packTaken r s).q = counted.q ∧ (packTaken r s).acc = counted.acc) ∧
    (s.pack.valid = false → (packTaken r s).valid = j.2 ∧ (packTaken r s).restTimer = j.1 ∧
      (j.2 = false → (packTaken r s).q = counted.q ∧ (packTaken r s).acc = counted.acc) ∧
      (j.2 = true → (packTaken r s).q
        = ocvToSoc s.pack.ocv ((cellSum r.cells).toNat / r.cells.length) * s.pack.capacity * 36 / 10 ∧
        (packTaken r s).acc = 0)) := by
  intro counted j
  have hvalid : counted.valid = s.pack.valid := rfl
  have htimer : counted.restTimer = s.pack.restTimer := rfl
  have htaken : packTaken r s = { counted.rest r s.now with record := some r, scanning := false } := rfl
  rw [htaken]
  unfold Pack.rest
  refine ⟨fun hv => ?_, fun hv => ?_⟩
  · rw [if_pos (hvalid.trans hv)]
    exact ⟨hv, rfl, rfl, rfl⟩
  · rw [if_neg (by rw [hvalid, hv]; decide)]
    dsimp only
    rw [htimer]
    cases hj : j.2 with
    | false =>
      rw [if_neg Bool.false_ne_true]
      exact ⟨hv, rfl, fun _ => ⟨rfl, rfl⟩, fun h => absurd h (by decide)⟩
    | true =>
      rw [if_pos rfl]
      exact ⟨rfl, (qualify_done hj).symm, fun h => absurd h (by decide), fun _ => ⟨rfl, rfl⟩⟩

/-! ### The charge need record (R71) -/

/-- A need record that asks for no charge. -/
def refusedNeed (s : State) (reason : NeedReason) : Need := ⟨s.needTarget, 0, false, reason, false⟩

theorem needOf_forbidden {t : State} (h : t.prot.chargeOk = false) :
    needOf t = refusedNeed t (if t.prot.active.chgOc then .cutoffChg else .protection) := by
  have hreason : needReason t t.needInputs.1 = if t.prot.active.chgOc then .cutoffChg else .protection := if_pos h
  unfold needOf
  dsimp only
  rw [hreason]
  cases t.prot.active.chgOc <;> rfl

theorem needInputs_some {t : State} {r : PackRecord} (h : t.pack.record = some r) : t.needInputs = (r.tPack, r.cells) := by
  unfold State.needInputs
  rw [h]

theorem needOf_temp {t : State} {r : PackRecord} (hr : t.pack.record = some r) (h : t.prot.chargeOk = true)
    (htemp : (r.tPack.lt 0 || r.tPack.gt 450) = true) : needOf t = refusedNeed t .temp := by
  have hreason : needReason t r.tPack = .temp := by
    rw [needReason, if_neg (by rw [h]; decide), if_pos htemp]
  unfold needOf
  dsimp only
  rw [needInputs_some hr, hreason]
  rfl

theorem needReason_mild {t : State} {r : PackRecord} {n : Int} (h : t.prot.chargeOk = true)
    (ht : r.tPack = .num n) (hlo : 0 ≤ n) (hhi : n ≤ 450) :
    needReason t r.tPack = if t.pack.full then .full else .none := by
  have htemp : (r.tPack.lt 0 || r.tPack.gt 450) = false := by
    rw [ht]
    simp [Reading.lt, Reading.gt]
    omega
  rw [needReason, if_neg (by rw [h]; decide), if_neg (by rw [htemp]; decide)]

theorem needOf_full {t : State} {r : PackRecord} {n : Int} (hr : t.pack.record = some r) (h : t.prot.chargeOk = true)
    (ht : r.tPack = .num n) (hlo : 0 ≤ n) (hhi : n ≤ 450) (hfull : t.pack.full = true) :
    needOf t = refusedNeed t .full := by
  unfold needOf
  dsimp only
  rw [needInputs_some hr, needReason_mild h ht hlo hhi, if_pos hfull]
  rfl

theorem needOf_asks {t : State} {r : PackRecord} {n : Int} (hr : t.pack.record = some r) (h : t.prot.chargeOk = true)
    (ht : r.tPack = .num n) (hlo : 0 ≤ n) (hhi : n ≤ 450) (hfull : t.pack.full = false) :
    let limit := if n < 100 then t.gov.limits.charge / 2 else t.gov.limits.charge
    needOf t = if lowestBelow r.cells 3000 then ⟨t.needTarget, max 100 (limit / 10), true, .none, true⟩
      else ⟨t.needTarget, limit, true, .none, false⟩ := by
  intro limit
  have hhalved : (if r.tPack.ge 0 && r.tPack.lt 100 then t.gov.limits.charge / 2 else t.gov.limits.charge) = limit := by
    rw [ht]
    simp [Reading.ge, Reading.lt, hlo, limit]
  unfold needOf
  dsimp only
  rw [needInputs_some hr, needReason_mild h ht hlo hhi, if_neg (by rw [hfull]; decide)]
  rw [needLimits, hhalved]
  show (let l := if lowestBelow r.cells 3000 = true then (max 100 (limit / 10), true) else (limit, false)
    (⟨t.needTarget, l.1, true, .none, l.2⟩ : Need)) = _
  cases lowestBelow r.cells 3000 <;> rfl

/-! ### Balancing (R69) -/

theorem balancingActive_iff (s : State) (r : PackRecord) : balancingActive s r = true ↔
    s.drive.state.drives = false ∧ (s.stick.state = .charging ∨ ∃ n, r.packI = .num n ∧ -200 < n ∧ n < 200) ∧
      (∃ c ∈ r.cells, c = .above ∨ ∃ n, c = .num n ∧ 3900 ≤ n) ∧ (∀ c ∈ r.cells, c ≠ .absent) ∧
      (lowestCell r.cells).isSome = true := by
  have hwithin : r.packI.within 200 = true ↔ ∃ n, r.packI = .num n ∧ -200 < n ∧ n < 200 := by
    cases r.packI <;> simp [Reading.within]
    omega
  have hany : r.cells.any Reading.isNum = true ↔ (lowestCell r.cells).isSome = true := by
    rw [lowestCell_isSome, List.any_eq_true]
    simp only [Reading.isNum_iff]
    exact ⟨fun ⟨c, hc, n, hn⟩ => ⟨n, hn ▸ hc⟩, fun ⟨n, hn⟩ => ⟨_, hn, n, rfl⟩⟩
  have hactive : ∀ high : Bool, (high = true ↔ ∃ c ∈ r.cells, c = .above ∨ ∃ n, c = .num n ∧ 3900 ≤ n) →
      ((s.bridgeOff && (decide (s.stick.state = .charging) || r.packI.within 200) && high && noneAbsent r.cells
        && r.cells.any Reading.isNum) = true ↔
      s.drive.state.drives = false ∧ (s.stick.state = .charging ∨ ∃ n, r.packI = .num n ∧ -200 < n ∧ n < 200) ∧
      (∃ c ∈ r.cells, c = .above ∨ ∃ n, c = .num n ∧ 3900 ≤ n) ∧ (∀ c ∈ r.cells, c ≠ .absent) ∧
      (lowestCell r.cells).isSome = true) := fun high hhigh => by
    have habsent : .absent ∉ r.cells ↔ ∀ c ∈ r.cells, c ≠ .absent :=
      ⟨fun hno c hc he => hno (he ▸ hc), fun hall hc => hall _ hc rfl⟩
    simp only [Bool.and_eq_true, Bool.or_eq_true, decide_eq_true_eq, noneAbsent_iff, hwithin, hany, State.bridgeOff,
      Bool.not_eq_true', and_assoc, hhigh, habsent]
  unfold balancingActive
  rcases highestCell_cases r.cells with ⟨ha, h⟩ | ⟨ha, m, h, hm, hmax⟩ | ⟨ha, h, hnone⟩
  · rw [h]
    exact hactive (Reading.above.ge 3900) ⟨fun _ => ⟨_, ha, .inl rfl⟩, fun _ => rfl⟩
  · rw [h]
    refine hactive ((Reading.num m).ge 3900) ⟨fun hge => ⟨_, hm, .inr ⟨m, rfl, of_decide_eq_true hge⟩⟩, ?_⟩
    rintro ⟨c, hc, rfl | ⟨n, rfl, hle⟩⟩
    · exact absurd hc ha
    · exact decide_eq_true (Int.le_trans hle (hmax n hc))
  · rw [h]
    refine hactive false ⟨fun hf => absurd hf Bool.false_ne_true, ?_⟩
    rintro ⟨c, hc, rfl | ⟨n, rfl, -⟩⟩
    · exact absurd hc ha
    · exact absurd hc (hnone n)

/-! ### The publication -/

/-- The record of a scan in the words of the spec (R50, R51). -/
theorem formRecord_reads (s : State) (scan : RawScan) : let r := formRecord s scan
    r.scanTime = s.ctl.partTime ∧ r.cells.length = s.cellCount ∧
    (∀ i, i < s.cellCount → let mV := scan.taps.getD i 0 + s.pack.offsets.getD i 0
      r.cells[i]? = some (if mV < 500 then .absent else if 5000 < mV then .above else .num mV)) := by
  refine ⟨rfl, cells_length s scan, fun i hi => ?_⟩
  simp only [formRecord, scanCells, List.getElem?_map, List.getElem?_range hi]
  rfl

section
variable {r : PackRecord} {s t : State}

/-- What the publication leaves of FULL, of the charge and of the record. -/
theorem Published.packed (h : Published r s t) : t.pack.record = some r ∧ t.pack.scanning = false ∧
    t.pack.capacity = s.pack.capacity ∧ t.pack.full = (packFilled r s).full ∧ t.pack.fullTimer = (packFilled r s).fullTimer ∧
    t.pack.q = (packFilled r s).q ∧ t.pack.acc = (packFilled r s).acc ∧ t.pack.valid = (packFilled r s).valid ∧
    t.pack.restTimer = (packFilled r s).restTimer := by
  rw [h.pack]
  refine ⟨?_, ?_, ?_, rfl, rfl, rfl, rfl, rfl, rfl⟩ <;> rw [packFilled_others]

theorem Published.target (h : Published r s t) : t.needTarget = s.cellCount * s.gov.limits.cellTarget := by
  rw [State.needTarget, State.cellCount, h.role, h.cells, h.limits]
  rfl

theorem Published.evaluated (h : Published r s t) : t.prot.evaluated = true := by
  obtain ⟨x, y, hp⟩ := h.prot
  rw [hp]
  rfl

/-- The need record of the publication (R71). -/
theorem Published.needs (h : Published r s t) :
    let lowest := lowestCell r.cells
    let target := s.cellCount * s.gov.limits.cellTarget
    let refused : NeedReason → Need := fun reason => ⟨target, 0, false, reason, false⟩
    (t.prot.chargeOk = false → t.pack.need = refused (if t.prot.active.chgOc then .cutoffChg else .protection)) ∧
    (t.prot.chargeOk = true → r.tPack = .below ∨ r.tPack = .above ∨ (∃ n, r.tPack = .num n ∧ (n < 0 ∨ 450 < n)) →
      t.pack.need = refused .temp) ∧
    (∀ n, t.prot.chargeOk = true → r.tPack = .num n → 0 ≤ n → n ≤ 450 →
      (t.pack.full = true → t.pack.need = refused .full) ∧
      (t.pack.full = false → let limit := if n < 100 then s.gov.limits.charge / 2 else s.gov.limits.charge
        (lowest = none ∨ (∃ v, lowest = some v ∧ 3000 ≤ v) → t.pack.need = ⟨target, limit, true, .none, false⟩) ∧
        (∀ v, lowest = some v → v < 3000 → t.pack.need = ⟨target, max 100 (limit / 10), true, .none, true⟩))) := by
  intro lowest target refused
  have hrefused : ∀ reason, refusedNeed t reason = refused reason := fun reason => by
    rw [refusedNeed, h.target]
  have hrecord := h.packed.1
  rw [h.need]
  refine ⟨fun hc => ?_, fun hc ht => ?_, fun n hc ht hlo hhi => ⟨fun hfull => ?_, fun hfull => ?_⟩⟩
  · rw [needOf_forbidden hc, hrefused]
  · rw [needOf_temp hrecord hc ?_, hrefused]
    rcases ht with ht | ht | ⟨n, ht, hn⟩ <;> rw [ht] <;> simp [Reading.lt, Reading.gt]
    exact hn
  · rw [needOf_full hrecord hc ht hlo hhi hfull, hrefused]
  · intro limit
    have hasks := needOf_asks hrecord hc ht hlo hhi hfull
    rw [h.target, h.limits] at hasks
    refine ⟨fun hlow => ?_, fun v hv hlt => ?_⟩
    · rw [hasks, if_neg]
      rw [lowestCell_below_iff]
      rintro ⟨v, hv, hlt⟩
      rcases hlow with hnone | ⟨w, hw, hle⟩
      · cases hnone.symm.trans hv
      · cases hw.symm.trans hv
        omega
    · rw [hasks, if_pos]
      exact (lowestCell_below_iff _ _).mpr ⟨v, hv, hlt⟩

/-- FULL at the publication (R72). -/
theorem Published.fills (h : Published r s t) :
    Spec.qualifies s s.pack.full t.pack.full s.pack.fullTimer t.pack.fullTimer (s.stick.state = .charging ∧
      (r.packI = .below ∨ ∃ n, r.packI = .num n ∧ n < ((max 50 (s.pack.need.limit / 20) : Nat) : Int)) ∧
      (r.packV = .above ∨ ∃ n, r.packV = .num n ∧ ((s.pack.need.target - 10 * s.cellCount : Nat) : Int) ≤ n)) 60000 ∧
    (s.pack.full = true → t.pack.fullTimer = none ∧ (t.pack.full = false ↔ (∃ n, .num n ∈ r.cells) ∧
      ∀ c ∈ r.cells, c ≠ .above ∧ ∀ n, c = .num n → n < (s.gov.limits.cellTarget : Int) - 100)) := by
  obtain ⟨-, -, -, hfull, htimer, -⟩ := h.packed
  refine ⟨qualifies_of_verdict (fullCondition_iff s r s.pack.need) fun hs => ?_, fun hs => ?_⟩
  · obtain ⟨hf, ht⟩ := packFilled_of_unfilled (r := r) hs
    exact ⟨hfull.trans hf, htimer.trans ht⟩
  · obtain ⟨hf, ht⟩ := packFilled_of_full (r := r) hs
    exact ⟨htimer.trans ht, by rw [hfull, hf, Bool.not_eq_false', fullCleared_iff]⟩

/-- The charge at the publication (R54 to R57). -/
theorem Published.charges (h : Published r s t) :
    let counted := s.pack.integrate r.packI s.sincePublication
    let filled : Prop := s.pack.full = false ∧ t.pack.full = true
    let cutOff : Prop := s.prot.active.cellUv = false ∧ t.prot.active.cellUv = true
    let atRest : Prop := (∃ n, r.packI = .num n ∧ -50 < n ∧ n < 50) ∧ ∀ c ∈ r.cells, ∃ n, c = .num n
    let mean := (cellSum r.cells).toNat / r.cells.length
    (filled ∨ cutOff → t.pack.valid = true ∧ t.pack.acc = 0 ∧ t.pack.restTimer = none ∧
      (filled → t.pack.q = s.pack.capacity * 3600) ∧ (¬ filled → t.pack.q = 0)) ∧
    (¬ filled → ¬ cutOff →
      Spec.qualifies s s.pack.valid t.pack.valid s.pack.restTimer t.pack.restTimer atRest 2000 ∧
      (s.pack.valid = true → t.pack.valid = true ∧ t.pack.restTimer = none) ∧
      (s.pack.valid = t.pack.valid → t.pack.q = counted.q ∧ t.pack.acc = counted.acc) ∧
      (s.pack.valid ≠ t.pack.valid → t.pack.q = ocvToSoc s.pack.ocv mean * s.pack.capacity * 36 / 10 ∧
        t.pack.acc = 0)) := by
  intro counted filled cutOff atRest mean
  obtain ⟨-, -, -, hfull, -, hq, hacc, hvalid, hrest⟩ := h.packed
  have hasserted : uvAsserted r s = true ↔ cutOff := by
    show (!s.prot.active.cellUv && (cellUvAfter r s).1) = true ↔ _
    rw [← h.cellUv.1]
    simp [cutOff]
  have hjudged : ¬ filled → t.pack.q = (packJudged r s).q ∧ t.pack.acc = (packJudged r s).acc ∧
      t.pack.valid = (packJudged r s).valid ∧ t.pack.restTimer = (packJudged r s).restTimer := fun hno => by
    rw [hq, hacc, hvalid, hrest]
    exact packFilled_charge fun hf => hno ⟨hf.1, hfull.trans hf.2⟩
  refine ⟨fun hcal => ?_, fun hf hc => ?_⟩
  · by_cases hf : filled
    · obtain ⟨hv, ha, ht, hqq⟩ := packFilled_of_filled hf.1 (hfull.symm.trans hf.2)
      exact ⟨hvalid.trans hv, hacc.trans ha, hrest.trans ht, fun _ => hq.trans hqq, fun hno => absurd hf hno⟩
    · obtain ⟨hqj, haj, hvj, htj⟩ := hjudged hf
      obtain ⟨hv, ha, ht, hqq⟩ := packJudged_of_cutOff (hasserted.mpr (hcal.resolve_left hf))
      exact ⟨hvj.trans hv, haj.trans ha, htj.trans ht, fun hyes => absurd hyes hf, fun _ => hqj.trans hqq⟩
  · obtain ⟨hqj, haj, hvj, htj⟩ := hjudged hf
    have htaken : packJudged r s = packTaken r s := by
      rw [packJudged, if_neg (fun hh => hc (hasserted.mp hh))]
    obtain ⟨hwas, hnot⟩ := packTaken_counts r s
    rw [hqj, haj, hvj, htj, htaken]
    refine ⟨qualifies_of_verdict (atRest_iff r) fun hv => ?_, fun hv => ?_, fun hsame => ?_, fun hdiff => ?_⟩
    · exact ⟨(hnot hv).1, (hnot hv).2.1⟩
    · exact ⟨(hwas hv).1, (hwas hv).2.1⟩
    · cases hv : s.pack.valid with
      | true => exact (hwas hv).2.2
      | false =>
        obtain ⟨hvt, -, hcounted, -⟩ := hnot hv
        exact hcounted (hvt.symm.trans (hsame.symm.trans hv))
    · cases hv : s.pack.valid with
      | true => exact absurd (hv.trans (hwas hv).1.symm) hdiff
      | false =>
        obtain ⟨hvt, -, -, hestimated⟩ := hnot hv
        refine hestimated ?_
        rw [← hvt]
        rw [hv] at hdiff
        exact eq_true_of_ne_false fun hh => hdiff hh.symm

end

/-- The balance set at the publication of a scan (R69, R70). -/
theorem Published.balances {s t : State} {scan : RawScan} (h : Published (formRecord s scan) s t)
    (hpower : t.ctl.power ≠ .ship) :
    let r := formRecord s scan
    let active : Prop := t.drive.state.drives = false ∧
      (s.stick.state = .charging ∨ ∃ n, r.packI = .num n ∧ -200 < n ∧ n < 200) ∧
      (∃ c ∈ r.cells, c = .above ∨ ∃ n, c = .num n ∧ 3900 ≤ n) ∧ (∀ c ∈ r.cells, c ≠ .absent) ∧
      (lowestCell r.cells).isSome = true
    (¬ active → t.pack.balance = []) ∧
    (∀ v, active → lowestCell r.cells = some v → Spec.Selected s.pack.balance r.cells v t.pack.balance) := by
  intro r active
  have hactive : balancingActive t r = true ↔ active := by
    have := balancingActive_iff t r
    rwa [h.stick] at this
  rw [h.balance hpower]
  refine ⟨fun hno => if_neg fun hh => hno (hactive.mp hh), fun v hyes hv => ?_⟩
  rw [if_pos (hactive.mpr hyes)]
  refine selectBalance_selected (fun c hc => ?_) hv
  cases c with
  | above => exact .inl rfl
  | num n =>
    obtain ⟨i, -, -, hlo, hhi⟩ := (num_mem_cells s scan n).mp hc
    exact .inr ⟨n, rfl, hlo, hhi⟩
  | below => exact absurd hc (below_not_mem_cells s scan)
  | absent => exact absurd rfl (hyes.2.2.2.1 _ hc)

/-- Settles O45. -/
theorem scanIsPublished : Obligations.ScanIsPublished := by
  refine ⟨fun s hpower htimer => ⟨fun hscan => ?_, fun hscan => ?_⟩, fun s scan hpower hscanning => ?_,
    fun p current dt => ?_, fun table avg hlen hsorted => ocvToSoc_table hlen hsorted avg⟩
  · rw [exec_scanTimerExpiry hpower htimer, scanExpired, if_neg (by rw [hscan]; decide), scanDue hpower]
    rfl
  · rw [exec_scanTimerExpiry hpower htimer, scanExpired, if_pos hscan, scanDue hpower]
  · obtain ⟨t, hexec, h⟩ := exec_published scan hpower hscanning
    obtain ⟨htime, hlen, hcells⟩ := formRecord_reads s scan
    obtain ⟨hrecord, hscanned, hcapacity, -⟩ := h.packed
    obtain ⟨hforbidden, htemp, hmild⟩ := h.needs
    obtain ⟨hfills, hclears⟩ := h.fills
    exact ⟨t, formRecord s scan, hexec, hrecord, hscanned, h.evaluated, htime, hlen, hcells, rfl, rfl, ⟨rfl, rfl, rfl⟩,
      hcapacity, h.stick, h.store, hforbidden, htemp, hmild, hfills, hclears, h.charges, h.balances⟩
  · exact p.integrate_counts current dt

end Sys2Proof.Machine

/-! What a fault of channel A leaves, and the crossings, commutations and misses in RUN (sections 1.3 and 1.4). -/

namespace Sys2Proof.Machine

open Sys2Proof

/-! ### Reports of the drive's blocks (R22, R87, R113, R137) -/

theorem reportDrive_reported (c : DriveCause) (s : State) : Reported s (reportDrive c s) := handReport_reported _ s

theorem reportMove_reported (c : DriveCause) (before after : State) : Reported after (reportMove c before after) := by
  unfold reportMove
  exact .ite (reportDrive_reported c after) (.refl after)

theorem reportRoll_reported (c : DriveCause) (s : State) : Reported s (reportRoll c s) := handReport_reported _ s

theorem reportDirt_reported (before after : State) : Reported after (reportDirt before after) := by
  unfold reportDirt
  exact .ite (handReport_reported _ after) (.ite (handReport_reported _ after) (.refl after))

theorem reportDock_reported (c : DockCause) (before after : State) : Reported after (reportDock c before after) := by
  unfold reportDock
  exact .ite (handReport_reported _ after) (.refl after)

theorem reportStart_reported (before after : State) : Reported after (reportStart before after) := by
  unfold reportStart
  exact .ite (reportDrive_reported _ after) (.refl after)

theorem reportRun_reported (k : Option RunKind) (r : RunResult) (s : State) : Reported s (reportRun k r s) := by
  unfold reportRun
  exact .ite (handReport_reported _ s) (.refl s)

/-! ### The ends of a calibration and of a run (R93, R134, R152) -/

theorem endCalibration_of_none {r : DoneResult} {s : State} (h : s.debris.cal = none) : endCalibration r s = s := by
  unfold endCalibration
  rw [h]

theorem endCalibration_reported {r : DoneResult} {s : State} (h : s.debris.cal.isSome = true) :
    Reported { s with debris := { s.debris with cal := none }, gov := { s.gov with pHold := none } }
      (endCalibration r s) := by
  obtain ⟨k, hk⟩ := Option.isSome_iff_exists.mp h
  unfold endCalibration
  rw [hk]
  exact handReport_reported _ _

@[simp] theorem endCalibration_faultNew (r : DoneResult) (s : State) :
    (endCalibration r s).host.faultNew = s.host.faultNew := by
  cases h : s.debris.cal with
  | none => rw [endCalibration_of_none h]
  | some k => exact (endCalibration_reported (by rw [h]; rfl)).faultNew

theorem endRunRecords_of_none {r : RunResult} {s : State} (h : s.evac.phase = .none) : endRunRecords r s = s := by
  unfold endRunRecords
  rw [if_pos h]

/-- The end of a run in flight, at the run's own record and at the session (R134, R152). -/
theorem endRunRecords_reported {r : RunResult} {s : State} (h : s.evac.phase ≠ .none) :
    Reported { s with
      evac := s.evac.ended r s.now
      dock := { (s.dock.recordResult s.evac.kind r).afterRun (decide (s.charger.state ≠ .off)) s.now with
                report := runEvacState r } } (endRunRecords r s) := by
  unfold endRunRecords
  rw [if_neg h]
  exact reportRun_reported _ _ _

@[simp] theorem endRunRecords_faultNew (r : RunResult) (s : State) :
    (endRunRecords r s).host.faultNew = s.host.faultNew := by
  by_cases h : s.evac.phase = .none
  · rw [endRunRecords_of_none h]
  · exact (endRunRecords_reported h).faultNew

@[simp] theorem endRunRecords_phase (r : RunResult) (s : State) : (endRunRecords r s).evac.phase = .none := by
  by_cases h : s.evac.phase = .none
  · rw [endRunRecords_of_none h, h]
  · rw [(endRunRecords_reported h).state]
    rfl

/-! ### A fault of channel A (R18, R22) -/

/-- The state of a fault before released is decided: FAULT, with the calibration and the run ended. -/
def faultEnded (cause : DriveFault) (value : Reading) (second : Option Reading) (s : State) : State :=
  endRunRecords .failed (endCalibration .driveFault (appendFault .channelA (driveFaultEntry cause) value second
    { leaveIfRun .fault s with drive := faultRecord cause s.now (s.after 3000) (leaveIfRun .fault s).drive }))

theorem driveFault_eq (cause : DriveFault) (value : Reading) (second : Option Reading) (s : State) :
    driveFault cause value second s = reportDock .evacuation s
      (reportDrive (driveFaultCause cause) (decideReleased (faultEnded cause value second s))) := rfl

theorem faultEnded_drive (cause : DriveFault) (value : Reading) (second : Option Reading) (s : State) :
    (faultEnded cause value second s).drive
      = faultRecord cause s.now (s.after 3000) (leaveIfRun .fault s).drive := by
  simp [faultEnded]

theorem faultEnded_owner (cause : DriveFault) (value : Reading) (second : Option Reading) (s : State) :
    (faultEnded cause value second s).drive.owner = s.drive.owner := by
  rw [faultEnded_drive]
  by_cases hrun : s.drive.state = .run
  · simp [leaveIfRun_of_run _ hrun, faultRecord]
  · simp [leaveIfRun_of_not_run _ hrun, faultRecord]

theorem faultEnded_runRequest (cause : DriveFault) (value : Reading) (second : Option Reading) (s : State) :
    (faultEnded cause value second s).runRequest = (decide (s.drive.owner = .host) && decide (s.drive.mode ≠ .off)) := by
  have howner := faultEnded_owner cause value second s
  have hmode : (faultEnded cause value second s).drive.mode = s.drive.mode := by
    rw [faultEnded_drive]
    simp [faultRecord]
  have hcal : (faultEnded cause value second s).debris.cal = none := by simp [faultEnded]
  have hphase : (faultEnded cause value second s).evac.phase = .none := by simp [faultEnded]
  unfold State.runRequest
  rw [howner, hmode, hcal, hphase]
  cases s.drive.owner <;> simp

theorem decideReleased_of_request {s : State} (h : s.runRequest = true) :
    (decideReleased s).drive = { s.drive with released := some false } := by
  unfold decideReleased
  rw [if_pos h]

theorem decideReleased_of_none {s : State} (h : s.runRequest = false) :
    (decideReleased s).drive = { s.drive with released := some true, owner := .none } := by
  unfold decideReleased
  rw [if_neg (by rw [h]; decide)]

theorem decideReleased_drive (s : State) : ∃ x y, (decideReleased s).drive = { s.drive with released := x, owner := y } := by
  unfold decideReleased
  split
  · exact ⟨_, s.drive.owner, rfl⟩
  · exact ⟨_, _, rfl⟩

/-- The state before a fault, for what the words of a fault read: the time, the fault ring, the claim, and the blocks that a
fault leaves alone. -/
structure FaultsAs (s u : State) : Prop where
  ctl : u.ctl = s.ctl
  owner : u.drive.owner = s.drive.owner
  mode : u.drive.mode = s.drive.mode
  pack : u.pack = s.pack
  prot : u.prot = s.prot
  stick : u.stick = s.stick
  charger : u.charger = s.charger
  store : u.store = s.store
  limits : u.gov.limits = s.gov.limits

/-- A state whose drive, free values and readings alone are written faults as before. -/
theorem faultsAs_setDrive {s : State} {d : Drive} (k : Nat) (samples : CurrentSum) (howner : d.owner = s.drive.owner)
    (hmode : d.mode = s.drive.mode) :
    FaultsAs s { s with drive := d, freeCount := k, gov := { s.gov with busSamples := samples } } :=
  ⟨rfl, howner, hmode, rfl, rfl, rfl, rfl, rfl, rfl⟩

theorem driveFault_faulted {cause : DriveFault} (value : Reading) (second : Option Reading) {s u : State}
    (h : FaultsAs s u) : Spec.Faulted s (driveFault cause value second u) cause (driveFaultEntry cause) value.fit16
      (second.map Reading.fit16) := by
  obtain ⟨x, y, hdrive⟩ := decideReleased_drive (faultEnded cause value second u)
  have hnow : u.now = s.now := congrArg Ctl.partTime h.ctl
  have hdriveFault : (driveFault cause value second u).drive = { faultRecord cause u.now (u.after 3000)
      (leaveIfRun .fault u).drive with released := x, owner := y } := by
    rw [driveFault_eq, reportDock_drive, reportDrive_drive, hdrive, faultEnded_drive]
  have hrequest := faultEnded_runRequest cause value second u
  rw [h.owner, h.mode] at hrequest
  refine
    { state := ?_, timer := ?_, waiting := ?_, ended := ?_, host := ?_, others := ?_, logged := ?_, mode := ?_, kept := ?_ }
  · rw [hdriveFault]
    exact ⟨rfl, rfl, rfl⟩
  · rw [hdriveFault]
    show some (u.ctl.partTime + _) = _
    rw [h.ctl]
    rfl
  · rw [hdriveFault]
    exact ⟨rfl, rfl, rfl⟩
  · rw [driveFault_eq]
    simp [faultEnded]
  · intro howner hmode
    have hstands : (faultEnded cause value second u).runRequest = true := by rw [hrequest]; simp [howner, hmode]
    rw [driveFault_eq, reportDock_drive, reportDrive_drive, decideReleased_of_request hstands]
    exact ⟨rfl, (faultEnded_owner cause value second u).trans (h.owner.trans howner)⟩
  · intro howner
    have hgone : (faultEnded cause value second u).runRequest = false := by rw [hrequest]; simp [howner]
    rw [driveFault_eq, reportDock_drive, reportDrive_drive, decideReleased_of_none hgone]
    exact ⟨rfl, rfl⟩
  · have hreported := (reportDrive_reported (driveFaultCause cause) (decideReleased (faultEnded cause value second u))).trans
      (reportDock_reported .evacuation u _)
    have hctl : (driveFault cause value second u).ctl = (faultEnded cause value second u).ctl := by
      rw [driveFault_eq, hreported.state]
      exact decideReleased_ctl _
    unfold Spec.Logged
    rw [hctl, driveFault_eq, hreported.faultNew, decideReleased_host]
    refine ⟨?_, ?_, ?_⟩
    · simp only [faultEnded, endRunRecords_ctl, endCalibration_ctl, appendFault_logs, faultEntry, leaveIfRun_ctl, h.ctl]
    · simp [faultEnded, h.ctl]
    · simp [faultEnded]
  · rw [hdriveFault]
    simp [faultRecord, h.mode]
  · refine ⟨.inl ((driveFault_pack _ _ _ _).trans h.pack), (driveFault_prot _ _ _ _).trans h.prot,
      (driveFault_stick _ _ _ _).trans h.stick, (driveFault_charger _ _ _ _).trans h.charger,
      (driveFault_store _ _ _ _).trans h.store, ?_⟩
    rw [← h.limits, driveFault_eq]
    simp [faultEnded]

/-- What follows an event keeps what the words of a fault say. -/
theorem Faulted.settled {s t : State} {cause : DriveFault} {code : FaultCode} {value : Reading} {second : Option Reading}
    (h : Spec.Faulted s t cause code value second) (hpack : t.pack = s.pack) :
    Spec.Faulted s (settle t) cause code value second := by
  obtain ⟨state, timer, waiting, ended, host, others, ⟨hring, hseq, hnew⟩, mode, -, hprot, hstick, hcharger, hstore,
    hlimits⟩ := h
  have hkept : Spec.PackKept s (settle t) := by
    rcases (settle_leavesAs t).pack with hp | ⟨hs, hp⟩
    · exact .inl (hp.trans hpack)
    · exact .inr ⟨hs, by rw [hp, hpack]⟩
  exact
    { state := by rwa [settle_drive], timer := by rwa [settle_drive], waiting := by rwa [settle_drive]
      ended := by rwa [settle_debris, settle_evac]
      host := by rwa [settle_drive]
      others := by rwa [settle_drive]
      logged := ⟨by rwa [settle_ctl_ring], by rwa [settle_ctl_nextSeq], by rwa [settle_host_faultNew]⟩
      mode := by rwa [settle_drive]
      kept := ⟨hkept, by rwa [settle_prot], by rwa [settle_stick], by rwa [settle_charger], by rwa [settle_store],
        by rwa [settle_gov_limits]⟩ }

/-- An event that faults channel A. -/
theorem settle_driveFault {cause : DriveFault} (value : Reading) (second : Option Reading) {s u : State}
    (h : FaultsAs s u) : Spec.Faulted s (settle (driveFault cause value second u)) cause (driveFaultEntry cause) value.fit16
      (second.map Reading.fit16) :=
  Faulted.settled (driveFault_faulted value second h) ((driveFault_pack _ _ _ _).trans h.pack)

/-! ### Crossings in RUN (R1 to R3, R20, R21) -/

theorem ringPush_eq (ring : List Nat) (interval : Nat) : ringPush ring interval = Spec.ringWith ring interval := by
  unfold ringPush Spec.ringWith
  split
  · next h => rw [show ring.length - 5 = 0 by omega, List.drop_zero]
  · next h => rw [List.drop_append_of_le_length (by omega)]

theorem ringSpeed_eq {ring : List Nat} (k : Nat) (h : 0 < ring.sum) : ringSpeed k ring = Spec.speedOf ring := by
  unfold ringSpeed Spec.speedOf
  rw [if_neg (by omega : ¬ ring.sum = 0)]

theorem speedOf_pushed {ring : List Nat} {interval : Nat} (h : 5 ≤ ring.length) :
    Spec.speedOf (Spec.ringWith ring interval) = some (600000000 / (Spec.ringWith ring interval).sum) := by
  unfold Spec.speedOf
  rw [if_neg]
  rw [Spec.ringWith, List.length_drop, List.length_append, List.length_singleton]
  omega

/-- A crossing whose interval enters the ring (R2). -/
theorem acceptCrossing_counted (ts : Ticks) {interval : Nat} {s : State}
    (h : 0 < (Spec.ringWith s.drive.ring interval).sum) : acceptCrossing ts interval s = { s with drive := { s.drive with
      ring := Spec.ringWith s.drive.ring interval, xref := some ⟨ts, interval⟩,
      speed := Spec.speedOf (Spec.ringWith s.drive.ring interval) } } := by
  unfold acceptCrossing
  dsimp only
  rw [ringPush_eq, if_neg (by omega : ¬ (Spec.ringWith s.drive.ring interval).sum = 0), ringSpeed_eq _ h]

theorem exec_zeroCrossing (ts : Ticks) {s : State} (h : s.ctl.power ≠ .ship) :
    exec (.zeroCrossing ts) s = .next (settle (crossing ts s)) := by
  show execZeroCrossing ts s = _
  rw [execZeroCrossing, event_occurs rfl h]

theorem crossing_of_run (ts : Ticks) {s : State} (h : s.drive.state = .run) :
    crossing ts s = crossInRun ts { s with drive := { s.drive with captureTimer := ts } } := by
  unfold crossing
  dsimp only
  rw [h]

theorem crossInRun_outside {ts : Ticks} {s : State} {ref : CrossRef} (href : s.drive.xref = some ref)
    (h : ¬ (3 * ref.pRef / 4 ≤ intervalOf ref ts ∧ intervalOf ref ts ≤ 5 * ref.pRef / 4)) : crossInRun ts s = s := by
  have hwindow : inWindow ref ts = none := if_neg h
  unfold crossInRun
  rw [href, Option.bind_some, hwindow]

theorem crossInRun_inside {ts : Ticks} {s : State} {ref : CrossRef} (href : s.drive.xref = some ref)
    (hlo : 3 * ref.pRef / 4 ≤ intervalOf ref ts) (hhi : intervalOf ref ts ≤ 5 * ref.pRef / 4) :
    crossInRun ts s = runValid ts (intervalOf ref ts) s := by
  have hwindow : inWindow ref ts = some (intervalOf ref ts) := if_pos ⟨hlo, hhi⟩
  unfold crossInRun
  rw [href, Option.bind_some, hwindow]

/-- The drive after a valid crossing in RUN, before its speed is judged (R2, R3). -/
def crossedRun (ts : Ticks) (interval : Nat) (d : Drive) : Drive :=
  { d with captureTimer := ts, ring := Spec.ringWith d.ring interval, xref := some ⟨ts, interval⟩,
           speed := Spec.speedOf (Spec.ringWith d.ring interval), missCount := 0, commIn := some (interval / 2) }

/-- A valid crossing in RUN enters the ring, and its speed is judged (R3). -/
theorem crossInRun_counted {ts : Ticks} {s : State} {ref : CrossRef} (hcapture : s.drive.captureTimer = ts)
    (href : s.drive.xref = some ref) (hlo : 3 * ref.pRef / 4 ≤ intervalOf ref ts)
    (hhi : intervalOf ref ts ≤ 5 * ref.pRef / 4) (hsum : 0 < (Spec.ringWith s.drive.ring (intervalOf ref ts)).sum) :
    crossInRun ts s = judgeSpeed { s with drive := crossedRun ts (intervalOf ref ts) s.drive } := by
  rw [crossInRun_inside href hlo hhi, runValid, acceptCrossing_counted ts hsum, crossedRun, hcapture.symm]

theorem crossing_inside {ts : Ticks} {s : State} {ref : CrossRef} (hrun : s.drive.state = .run)
    (href : s.drive.xref = some ref) (hlo : 3 * ref.pRef / 4 ≤ intervalOf ref ts)
    (hhi : intervalOf ref ts ≤ 5 * ref.pRef / 4) (hsum : 0 < (Spec.ringWith s.drive.ring (intervalOf ref ts)).sum) :
    crossing ts s = judgeSpeed { s with drive := crossedRun ts (intervalOf ref ts) s.drive } := by
  rw [crossing_of_run ts hrun]
  exact crossInRun_counted (s := { s with drive := { s.drive with captureTimer := ts } }) rfl href hlo hhi hsum

/-- The judgement of a speed, by the timers of its conditions (R20). -/
theorem judgeSpeed_eq (s : State) :
    let stall := holdTimer s.now s.drive.stallTimer (slowerThan s.drive.speed 15000) 100
    let fast := holdTimer s.now s.drive.overTimer (fasterThan s.drive.speed (speedMax s.ctl.role + 8001)) 50
    let t : State := { s with drive := { s.drive with stallTimer := stall.1, overTimer := fast.1 } }
    judgeSpeed s = if stall.2 then driveFault .stall (speedReading s.drive.speed) none t
      else if fast.2 then driveFault .overspeed (speedReading s.drive.speed) none t
      else judgeBlocked t := rfl

theorem holdTimer_absent (now : Ms) (timer : Option Ms) {holds : Bool} (time : Nat) (h : holds = false) :
    holdTimer now timer holds time = (none, false) := by
  simp [holdTimer, h]

theorem holdTimer_passes {now t0 : Ms} {timer : Option Ms} {holds : Bool} {time : Nat} (h : holds = true)
    (ht : timer = some t0) (hle : time ≤ (now - t0).toNat) : holdTimer now timer holds time = (some t0, true) := by
  have hdone : decide (time ≤ (now - t0).toNat) = true := decide_eq_true hle
  simp only [holdTimer, h, ht, hdone]

theorem slowerThan_some {v rpm : Nat} : slowerThan (some v) rpm = decide (v < rpm) := rfl

theorem fasterThan_some {v rpm : Nat} : fasterThan (some v) rpm = decide (rpm ≤ v) := rfl

/-- A speed that meets none of the conditions leaves their timers absent (R20, R21). -/
theorem judgeSpeed_calm {s : State} {v : Nat} (hspeed : s.drive.speed = some v) (hlo : 15000 ≤ v)
    (hhi : v < speedMax s.ctl.role - 5000) : judgeSpeed s = { s with drive := { s.drive with
      stallTimer := none, overTimer := none, blockTimer := none } } := by
  have hslow : slowerThan s.drive.speed 15000 = false := by rw [hspeed, slowerThan_some]; exact decide_eq_false (by omega)
  have hfast : fasterThan s.drive.speed (speedMax s.ctl.role + 8001) = false := by
    rw [hspeed, fasterThan_some]; exact decide_eq_false (by omega)
  have hblock : fasterThan s.drive.speed (speedMax s.ctl.role - 5000) = false := by
    rw [hspeed, fasterThan_some]; exact decide_eq_false (by omega)
  rw [judgeSpeed_eq, holdTimer_absent _ _ _ hslow, holdTimer_absent _ _ _ hfast]
  unfold judgeBlocked
  simp only [holdTimer_absent _ _ _ hblock, Bool.false_eq_true, if_false, Bool.false_and]

/-! ### Commutations and misses (R1, R3) -/

/-- A miss in RUN: the drive commutates, and the reference moves by its period (R3). -/
def missedRun (ref : CrossRef) (d : Drive) : Drive :=
  { d with step := (d.step + 1) % 6, duty := d.heldDuty.getD d.duty, heldDuty := none,
           xref := some ⟨ref.tRef + BitVec.ofNat 24 ref.pRef, ref.pRef⟩, missCount := d.missCount + 1 }

theorem missInRun_eq (ref : CrossRef) (s : State) : missInRun ref s
    = if 4 ≤ s.drive.missCount + 1 then
        driveFault .desync (speedReading s.drive.speed) (some (.num ((s.drive.step + 1) % 6 : Nat)))
          { s with drive := missedRun ref s.drive }
      else { s with drive := missedRun ref s.drive } := rfl

theorem exec_crossingWindowExpiry {s : State} {ref : CrossRef} (h : s.ctl.power ≠ .ship)
    (hopen : (s.drive.windowed || s.lastMissAtEnd) = true) (href : s.drive.xref = some ref) :
    exec .crossingWindowExpiry s = .next (settle (judgeAtEnd expireWindow expireWindow s)) := by
  show execCrossingWindowExpiry s = _
  rw [execCrossingWindowExpiry, event_occurs (by rw [hopen, href]; rfl) h]

theorem expireWindow_some {s : State} {ref : CrossRef} (href : s.drive.xref = some ref) :
    expireWindow s = windowExpired ref s := by
  unfold expireWindow
  rw [href]

theorem windowExpired_of_run (ref : CrossRef) {s : State} (h : s.drive.state = .run) :
    windowExpired ref s = missInRun ref s := by
  unfold windowExpired
  rw [h]

theorem exec_windowExpiry_run {s : State} {ref : CrossRef} (h : s.ctl.power ≠ .ship) (hrun : s.drive.state = .run)
    (href : s.drive.xref = some ref) : exec .crossingWindowExpiry s = .next (settle (missInRun ref s)) := by
  have hwindowed : s.drive.windowed = true := by rw [Drive.windowed, hrun]
  rw [exec_crossingWindowExpiry h (by rw [hwindowed]; rfl) href,
    judgeAtEnd_of_none (missesAtEnd_of_not_coast (by rw [hrun]; decide)), expireWindow_some href, windowExpired_of_run ref hrun]

theorem speedReading_some {v : Nat} (h : v ≤ 300000) : (speedReading (some v)).fit16 = .num (v / 10 : Nat) := by
  have hreading : speedReading (some v) = .num (v / 10 : Nat) := if_neg (by omega)
  rw [hreading, Reading.fit16_num (by omega) (by omega)]

/-- The second value of a DESYNC entry, the step, is within 16 bits. -/
theorem step_fit16 (step : Nat) : (Reading.num (step % 6 : Nat)).fit16 = .num (step % 6 : Nat) :=
  Reading.fit16_num (by omega) (by omega)

/-- The fourth miss in a row (R3, R22). -/
theorem missInRun_fourth {ref : CrossRef} {s : State} (h : s.drive.missCount = 3) : missInRun ref s
    = driveFault .desync (speedReading s.drive.speed) (some (.num ((s.drive.step + 1) % 6 : Nat)))
        { s with drive := missedRun ref s.drive } := by
  rw [missInRun_eq, if_pos (by omega)]

theorem missInRun_faults {ref : CrossRef} {s : State} (h : s.drive.missCount = 3) :
    Spec.Faulted s (settle (missInRun ref s)) .desync .desync (speedReading s.drive.speed).fit16
      (some (.num ((s.drive.step + 1) % 6 : Nat))) := by
  have hfaults := settle_driveFault (cause := .desync) (speedReading s.drive.speed)
    (some (.num ((s.drive.step + 1) % 6 : Nat)))
    (faultsAs_setDrive (d := missedRun ref s.drive) s.freeCount s.gov.busSamples rfl rfl)
  rw [Option.map_some, step_fit16] at hfaults
  rw [missInRun_fourth h]
  exact hfaults

/-- Settles O35. -/
theorem runIsTimed : Obligations.RunIsTimed := by
  intro s hpower hrun
  refine ⟨fun ts ref href => ⟨fun hlt => ?_, fun hlo hhi hlen hsum hslow hfast => ?_⟩, fun hcomm => ?_,
    fun ref href => ⟨fun hmiss => ?_, fun v hmiss hspeed hv => ?_, fun hmiss hspeed => ?_⟩⟩
  · rw [exec_zeroCrossing ts hpower, crossing_of_run ts hrun,
      crossInRun_outside (s := { s with drive := { s.drive with captureTimer := ts } }) href
        (fun hwindow => absurd hlt (Nat.not_lt.mpr hwindow.1))]
  · have hspeed := speedOf_pushed (interval := intervalOf ref ts) hlen
    rw [exec_zeroCrossing ts hpower, crossing_inside hrun href hlo hhi hsum,
      judgeSpeed_calm (s := { s with drive := crossedRun ts (intervalOf ref ts) s.drive }) hspeed hslow hfast]
    show Host.Outcome.next (settle { s with drive := { crossedRun ts (intervalOf ref ts) s.drive with
      stallTimer := none, overTimer := none, blockTimer := none } }) = _
    rw [crossedRun, hspeed]
    rfl
  · show execCommutation s = _
    rw [execCommutation, event_occurs (by rw [hrun, hcomm]; rfl) hpower]
    rfl
  · rw [exec_windowExpiry_run hpower hrun href, missInRun_eq, if_neg (by omega)]
    rfl
  · have hfaults := missInRun_faults (ref := ref) hmiss
    rw [hspeed, speedReading_some hv] at hfaults
    exact ⟨_, exec_windowExpiry_run hpower hrun href, hfaults⟩
  · have hfaults := missInRun_faults (ref := ref) hmiss
    rw [hspeed] at hfaults
    exact ⟨_, exec_windowExpiry_run hpower hrun href, hfaults⟩

end Sys2Proof.Machine

/-! The readings of channel A, the conditions on its speed, and the faults at the instant of the end of a run (sections 1.3,
1.4 and 7.6). -/

namespace Sys2Proof.Machine

open Sys2Proof

/-! ### Bus current readings (R13, R19) -/

theorem exec_busCurrentReading (r : Reading) {s : State} (hpower : s.ctl.power ≠ .ship) (hdrives : s.drive.state.drives = true) :
    exec (.busCurrentReading r) s = .next (settle (busReadingTaken r s)) := by
  show execBusCurrentReading r s = _
  rw [execBusCurrentReading, event_occurs hdrives hpower]

theorem busReadingTaken_within {r : Reading} (s : State) (h : r.gt 45000 = false) :
    busReadingTaken r s = busSample r s := by
  unfold busReadingTaken
  dsimp only
  rw [if_neg (by rw [h]; decide)]

theorem busReadingTaken_beyond {r : Reading} (s : State) (h : r.gt 45000 = true) : busReadingTaken r s
    = driveFault .overcurrent r (some (.num (driveStateCode s.drive.state))) (busSample r s) := by
  unfold busReadingTaken
  dsimp only
  rw [if_pos h]

theorem beyond_fit16 {r : Reading} (h : r.gt 45000 = true) : r.fit16 = .above := by
  rcases (Reading.gt_iff r 45000).mp h with rfl | ⟨n, rfl, hn⟩
  · rfl
  · exact Reading.fit16_above (by omega)

theorem driveStateCode_le (x : DriveState) : driveStateCode x ≤ 5 := by
  cases x <;> decide

/-! ### The conditions on the speed (R20, R21) -/

theorem holdTimer_holds (now : Ms) (timer : Option Ms) (time : Nat) :
    (holdTimer now timer true time).1 = some (timer.getD now) ∧
    ((holdTimer now timer true time).2 = true ↔ ∃ t0, timer = some t0 ∧ time ≤ (now - t0).toNat) := by
  cases timer <;> simp [holdTimer]

theorem judgeSpeed_stalled {s : State} {v : Nat} {t0 : Ms} (hspeed : s.drive.speed = some v) (hv : v < 15000)
    (htimer : s.drive.stallTimer = some t0) (hle : 100 ≤ (s.ctl.partTime - t0).toNat) :
    ∃ x y, judgeSpeed s = driveFault .stall (speedReading (some v)) none
      { s with drive := { s.drive with stallTimer := x, overTimer := y } } := by
  have hslow : slowerThan s.drive.speed 15000 = true := by rw [hspeed]; exact decide_eq_true hv
  have hstall : (holdTimer s.now s.drive.stallTimer (slowerThan s.drive.speed 15000) 100).2 = true := by
    rw [holdTimer_passes (now := s.now) hslow htimer hle]
  rw [judgeSpeed_eq, if_pos hstall, hspeed]
  exact ⟨_, _, rfl⟩

theorem judgeSpeed_over {s : State} {v : Nat} {t0 : Ms} (hspeed : s.drive.speed = some v)
    (hv : speedMax s.ctl.role + 8000 < v) (htimer : s.drive.overTimer = some t0) (hle : 50 ≤ (s.ctl.partTime - t0).toNat) :
    ∃ x y, judgeSpeed s = driveFault .overspeed (speedReading (some v)) none
      { s with drive := { s.drive with stallTimer := x, overTimer := y } } := by
  have hmax : 40000 ≤ speedMax s.ctl.role := by cases s.ctl.role <;> decide
  have hslow : slowerThan s.drive.speed 15000 = false := by rw [hspeed]; exact decide_eq_false (by omega)
  have hfast : fasterThan s.drive.speed (speedMax s.ctl.role + 8001) = true := by
    rw [hspeed]; exact decide_eq_true (by omega)
  have hover : (holdTimer s.now s.drive.overTimer (fasterThan s.drive.speed (speedMax s.ctl.role + 8001)) 50).2 = true := by
    rw [holdTimer_passes (now := s.now) hfast htimer hle]
  rw [judgeSpeed_eq, holdTimer_absent _ _ _ hslow, if_neg Bool.false_ne_true, if_pos hover, hspeed]
  exact ⟨_, _, rfl⟩

theorem judgeBlocked_eq (s : State) :
    let j := holdTimer s.now s.drive.blockTimer (fasterThan s.drive.speed (speedMax s.ctl.role - 5000)) 2000
    let t : State := { s with drive := { s.drive with blockTimer := j.1 } }
    judgeBlocked s = if j.2 && !s.drive.blocked then reportDock .evacuation s (reportDrive .blocked (blockedSet t))
      else t := rfl

/-- The blocked condition while it holds (R21). -/
theorem judgeBlocked_holding {s : State} (hblock : fasterThan s.drive.speed (speedMax s.ctl.role - 5000) = true) :
    let held : Prop := ∃ t0, s.drive.blockTimer = some t0 ∧ 2000 ≤ (s.ctl.partTime - t0).toNat
    let t : State := { s with drive := { s.drive with blockTimer := some (s.drive.blockTimer.getD s.ctl.partTime) } }
    (¬ held ∨ s.drive.blocked = true → judgeBlocked s = t) ∧
    (held → s.drive.blocked = false →
      judgeBlocked s = reportDock .evacuation s (reportDrive .blocked (blockedSet t))) := by
  intro held t
  obtain ⟨htimer, hheld⟩ := holdTimer_holds s.now s.drive.blockTimer 2000
  rw [judgeBlocked_eq, hblock]
  generalize holdTimer s.now s.drive.blockTimer true 2000 = j at htimer hheld ⊢
  obtain ⟨timer, done⟩ := j
  dsimp only at htimer hheld ⊢
  subst htimer
  refine ⟨fun hno => if_neg fun hset => ?_, fun hyes hb => if_pos ?_⟩
  · rw [Bool.and_eq_true, hheld, Bool.not_eq_true'] at hset
    rcases hno with hno | hno
    · exact hno hset.1
    · exact Bool.false_ne_true (hset.2.symm.trans hno)
  · rw [Bool.and_eq_true, hheld, Bool.not_eq_true']
    exact ⟨hyes, hb⟩

/-- A speed in the range in which blocked is judged (R20, R21). -/
theorem judgeSpeed_blocking {s : State} {v : Nat} (hspeed : s.drive.speed = some v)
    (hlo : speedMax s.ctl.role - 5000 ≤ v) (hhi : v ≤ speedMax s.ctl.role + 8000) : judgeSpeed s
      = judgeBlocked { s with drive := { s.drive with stallTimer := none, overTimer := none } } ∧
    fasterThan s.drive.speed (speedMax s.ctl.role - 5000) = true := by
  have hmax : 40000 ≤ speedMax s.ctl.role := by cases s.ctl.role <;> decide
  have hslow : slowerThan s.drive.speed 15000 = false := by rw [hspeed]; exact decide_eq_false (by omega)
  have hfast : fasterThan s.drive.speed (speedMax s.ctl.role + 8001) = false := by
    rw [hspeed]; exact decide_eq_false (by omega)
  rw [judgeSpeed_eq, holdTimer_absent _ _ _ hslow, holdTimer_absent _ _ _ hfast, if_neg Bool.false_ne_true,
    if_neg Bool.false_ne_true]
  refine ⟨rfl, ?_⟩
  rw [hspeed, fasterThan_some]
  exact decide_eq_true hlo

/-! ### A stop in RUN (R14, R16, R21) -/

/-- The drive after a stop in RUN. -/
def coastedRun (now : Ms) (d : Drive) : Drive :=
  { d with owner := .none, state := .coast, duty := 0, lastRunDuty := d.duty, speedAtStop := d.speed, blocked := false,
           missCount := 0, zeroGrant := 0, heldDuty := none, forcedPeriod := none, forcedIn := none, commIn := none,
           startPending := false, retryPending := false, alignTimer := none, rampTimer := none,
           coastTimer := some (now + 3000), crossTimer := some (now + 100), enteredAt := now }

theorem driveStop_of_run {s : State} (h : s.drive.state = .run) : driveStop s = stopDriving s := by
  unfold driveStop
  rw [h]

theorem stopDriving_drive_run {s : State} (h : s.drive.state = .run) :
    (stopDriving s).drive = coastedRun s.ctl.partTime s.drive := by
  unfold stopDriving enterCoast
  rw [leaveIfRun_of_run _ h]
  simp [coastedRun, State.now, State.after]

theorem endRun_reported {r : RunResult} {s : State} (h : s.evac.phase ≠ .none) : endRun r s = driveStop (endRunRecords r s) := by
  unfold endRun
  rw [if_neg h]

/-- The setting of blocked ends a run of the fan (R21, R151). -/
theorem blockedSet_dock {s : State} (hrole : s.ctl.role = .dock) (hrun : s.drive.state = .run)
    (hphase : s.evac.phase ≠ .none) :
    (blockedSet s).evac = s.evac.ended .blocked s.ctl.partTime ∧
    (blockedSet s).drive = coastedRun s.ctl.partTime { s.drive with blocked := true } := by
  have hended : (endRunRecords .blocked { s with drive := { s.drive with blocked := true } }).drive.state = .run := by
    rw [endRunRecords_drive]
    exact hrun
  unfold blockedSet
  dsimp only
  rw [if_pos (by simp [State.isDock, hrole]), endRun_reported (by exact hphase)]
  constructor
  · rw [driveStop_evac, (endRunRecords_reported (s := { s with drive := { s.drive with blocked := true } }) hphase).state]
    rfl
  · rw [driveStop_of_run hended, stopDriving_drive_run hended, endRunRecords_ctl, endRunRecords_drive]

theorem blockedSet_stick {s : State} (hrole : s.ctl.role = .stick) :
    blockedSet s = { s with drive := { s.drive with blocked := true } } := by
  unfold blockedSet
  dsimp only
  rw [if_neg (by simp [State.isDock, hrole])]

/-! ### Faults at the instant of the end of a run (R152) -/

/-- What a fault leaves of the records of an exit from RUN that came before it (R152). -/
def atEndRecord (before d : Drive) : Drive :=
  { d with lastRunDuty := before.lastRunDuty, speedAtStop := before.speedAtStop, coastTimer := none, crossTimer := none }

theorem judgeAtEnd_of_fault {judge otherwise : State → State} {s : State} {misses : Nat}
    (h : s.missesAtEnd = some misses)
    (hfault : (judge { s with drive := { s.drive with state := .run, missCount := misses } }).drive.state = .fault) :
    let j := judge { s with drive := { s.drive with state := .run, missCount := misses } }
    judgeAtEnd judge otherwise s = { j with drive := atEndRecord s.drive j.drive } := by
  intro j
  unfold judgeAtEnd
  rw [h]
  exact if_pos hfault

theorem driveFault_evac {cause : DriveFault} (value : Reading) (second : Option Reading) {s : State}
    (h : s.evac.phase = .none) : (driveFault cause value second s).evac = s.evac := by
  have hfaulted : (appendFault .channelA (driveFaultEntry cause) value second
      { leaveIfRun .fault s with drive := faultRecord cause s.now (s.after 3000) (leaveIfRun .fault s).drive }).evac
      = s.evac := by
    simp
  have hended : (faultEnded cause value second s).evac = s.evac := by
    unfold faultEnded
    rw [endRunRecords_of_none (by rw [endCalibration_evac, hfaulted, h]), endCalibration_evac, hfaulted]
  rw [driveFault_eq, reportDock_evac, reportDrive_evac, decideReleased_evac, hended]

/-- A fault of the fan at the instant at which its run has ended (R152). -/
theorem judgeAtEnd_faults {judge otherwise : State → State} {s0 s : State} {misses : Nat} {cause : DriveFault}
    {value : Reading} {second : Option Reading} {u : State} (h : s.missesAtEnd = some misses) (hu : FaultsAs s0 u)
    (hevac : u.evac = s.evac) (hjudge : judge { s with drive := { s.drive with state := .run, missCount := misses } }
      = driveFault cause value second u) :
    let t := settle (judgeAtEnd judge otherwise s)
    Spec.Faulted s0 t cause (driveFaultEntry cause) value.fit16 (second.map Reading.fit16) ∧ t.evac = s.evac := by
  intro t
  obtain ⟨-, -, -, hphase, -⟩ := missesAtEnd_some h
  have hfault := driveFault_state cause value second u
  rw [← hjudge] at hfault
  have hjudged := judgeAtEnd_of_fault (otherwise := otherwise) h hfault
  rw [hjudge] at hjudged
  have hfaulted := driveFault_faulted (cause := cause) value second hu
  have hpack : (driveFault cause value second u).pack = s0.pack := (driveFault_pack _ _ _ _).trans hu.pack
  show Spec.Faulted s0 (settle _) _ _ _ _ ∧ (settle _).evac = _
  rw [hjudged, settle_evac]
  refine ⟨Faulted.settled ?_ hpack, ?_⟩
  · exact ⟨hfaulted.state, hfaulted.timer, hfaulted.waiting, hfaulted.ended, hfaulted.host, hfaulted.others,
      hfaulted.logged, hfaulted.mode, hfaulted.kept⟩
  · show (driveFault cause value second u).evac = s.evac
    rw [driveFault_evac value second (by rw [hevac, hphase]), hevac]

theorem crossing_at_end (ts : Ticks) {s : State} {misses : Nat} (h : s.missesAtEnd = some misses) : crossing ts s
    = judgeAtEnd (crossInRun ts) (crossInCoast ts) { s with drive := { s.drive with captureTimer := ts } } := by
  obtain ⟨hcoast, hcatch, -⟩ := missesAtEnd_some h
  unfold crossing
  dsimp only
  rw [hcoast, hcatch]

theorem faultsAs_drive {s : State} {d : Drive} (howner : d.owner = s.drive.owner) (hmode : d.mode = s.drive.mode) :
    FaultsAs s { s with drive := d } :=
  ⟨rfl, howner, hmode, rfl, rfl, rfl, rfl, rfl, rfl⟩

theorem FaultsAs.setDrive {s u : State} {d : Drive} (h : FaultsAs s u) (howner : d.owner = u.drive.owner)
    (hmode : d.mode = u.drive.mode) : FaultsAs s { u with drive := d } :=
  ⟨h.ctl, howner.trans h.owner, hmode.trans h.mode, h.pack, h.prot, h.stick, h.charger, h.store, h.limits⟩

theorem judgeSpeed_stall_faulted {s u : State} {v : Nat} {t0 : Ms} (hu : FaultsAs s u) (hspeed : u.drive.speed = some v)
    (hv : v < 15000) (htimer : u.drive.stallTimer = some t0) (hle : 100 ≤ (s.ctl.partTime - t0).toNat) :
    Spec.Faulted s (settle (judgeSpeed u)) .stall .stall (.num (v / 10 : Nat)) none := by
  obtain ⟨x, y, hjudged⟩ := judgeSpeed_stalled hspeed hv htimer (by rw [hu.ctl]; exact hle)
  have hfaults := settle_driveFault (cause := .stall) (speedReading (some v)) none
    (hu.setDrive (d := { u.drive with stallTimer := x, overTimer := y }) rfl rfl)
  rw [speedReading_some (by omega)] at hfaults
  rw [hjudged]
  exact hfaults

theorem judgeSpeed_over_faulted {s u : State} {v : Nat} {t0 : Ms} (hu : FaultsAs s u) (hspeed : u.drive.speed = some v)
    (hv : speedMax s.ctl.role + 8000 < v) (hmax : v ≤ 300000) (htimer : u.drive.overTimer = some t0)
    (hle : 50 ≤ (s.ctl.partTime - t0).toNat) :
    Spec.Faulted s (settle (judgeSpeed u)) .overspeed .overspeed (.num (v / 10 : Nat)) none := by
  obtain ⟨x, y, hjudged⟩ := judgeSpeed_over hspeed (by rw [hu.ctl]; exact hv) htimer (by rw [hu.ctl]; exact hle)
  have hfaults := settle_driveFault (cause := .overspeed) (speedReading (some v)) none
    (hu.setDrive (d := { u.drive with stallTimer := x, overTimer := y }) rfl rfl)
  rw [speedReading_some hmax] at hfaults
  rw [hjudged]
  exact hfaults

/-- The drive after a valid crossing in RUN with a speed in the range in which blocked is judged (R21). -/
def blockingDrive (now : Ms) (ts : Ticks) (interval v : Nat) (d : Drive) : Drive :=
  { d with captureTimer := ts, ring := Spec.ringWith d.ring interval, xref := some ⟨ts, interval⟩, speed := some v,
           missCount := 0, commIn := some (interval / 2), stallTimer := none, overTimer := none,
           blockTimer := some (d.blockTimer.getD now) }

theorem judgeSpeed_crossed_blocking {ts : Ticks} {interval v : Nat} {s : State}
    (hspeed : (crossedRun ts interval s.drive).speed = some v) (hlo : speedMax s.ctl.role - 5000 ≤ v)
    (hhi : v ≤ speedMax s.ctl.role + 8000) :
    let held : Prop := ∃ t0, s.drive.blockTimer = some t0 ∧ 2000 ≤ (s.ctl.partTime - t0).toNat
    let t : State := { s with drive := blockingDrive s.ctl.partTime ts interval v s.drive }
    let u := judgeSpeed { s with drive := crossedRun ts interval s.drive }
    (¬ held ∨ s.drive.blocked = true → u = t) ∧
    (held → s.drive.blocked = false → Reported (blockedSet t) u) := by
  intro held t u
  obtain ⟨hjudged, hblock⟩ := judgeSpeed_blocking (s := { s with drive := crossedRun ts interval s.drive }) hspeed hlo hhi
  obtain ⟨hquiet, hset⟩ := judgeBlocked_holding (s := { s with drive := { crossedRun ts interval s.drive with
    stallTimer := none, overTimer := none } }) hblock
  have hdrive : ({ crossedRun ts interval s.drive with
      stallTimer := none, overTimer := none, blockTimer := some (s.drive.blockTimer.getD s.ctl.partTime) } : Drive)
      = blockingDrive s.ctl.partTime ts interval v s.drive := by
    rw [blockingDrive, ← hspeed]
    rfl
  refine ⟨fun hno => ?_, fun hyes hb => ?_⟩
  · show judgeSpeed _ = ({ s with drive := blockingDrive s.ctl.partTime ts interval v s.drive } : State)
    rw [hjudged, hquiet hno, ← hdrive]
    rfl
  · show Reported (blockedSet ({ s with drive := blockingDrive s.ctl.partTime ts interval v s.drive } : State)) (judgeSpeed _)
    rw [hjudged, hset hyes hb, ← hdrive]
    exact (reportDrive_reported _ _).trans (reportDock_reported _ _ _)

/-- The drive of a fan whose run has just ended, taken to be in RUN still, at a crossing (R152). -/
def endedRun (ts : Ticks) (misses : Nat) (d : Drive) : Drive :=
  { d with captureTimer := ts, state := .run, missCount := misses }

/-- A valid crossing at the instant of the end of a run is judged as in RUN (R152). -/
theorem crossInRun_ended {ts : Ticks} {s : State} {ref : CrossRef} (misses : Nat) (href : s.drive.xref = some ref)
    (hlo : 3 * ref.pRef / 4 ≤ intervalOf ref ts) (hhi : intervalOf ref ts ≤ 5 * ref.pRef / 4)
    (hsum : 0 < (Spec.ringWith s.drive.ring (intervalOf ref ts)).sum) :
    crossInRun ts { s with drive := endedRun ts misses s.drive }
      = judgeSpeed { s with drive := crossedRun ts (intervalOf ref ts) (endedRun ts misses s.drive) } :=
  crossInRun_counted (s := { s with drive := endedRun ts misses s.drive }) rfl href hlo hhi hsum

section
variable {ts : Ticks} {s : State} {ref : CrossRef} {misses v : Nat} {t0 : Ms}

theorem crossInRun_stall_at_end (hend : s.missesAtEnd = some misses) (href : s.drive.xref = some ref)
    (hlo : 3 * ref.pRef / 4 ≤ intervalOf ref ts) (hhi : intervalOf ref ts ≤ 5 * ref.pRef / 4)
    (hlen : 5 ≤ s.drive.ring.length) (hsum : 0 < (Spec.ringWith s.drive.ring (intervalOf ref ts)).sum)
    (hv : 600000000 / (Spec.ringWith s.drive.ring (intervalOf ref ts)).sum < 15000)
    (htimer : s.drive.stallTimer = some t0) (hle : 100 ≤ (s.ctl.partTime - t0).toNat) :
    let t := settle (judgeAtEnd (crossInRun ts) (crossInCoast ts) { s with drive := { s.drive with captureTimer := ts } })
    Spec.Faulted s t .stall .stall (.num (600000000 / (Spec.ringWith s.drive.ring (intervalOf ref ts)).sum / 10 : Nat)) none ∧
      t.evac = s.evac := by
  obtain ⟨x, y, hjudged⟩ := judgeSpeed_stalled
    (s := { s with drive := crossedRun ts (intervalOf ref ts) (endedRun ts misses s.drive) })
    (speedOf_pushed hlen) hv htimer hle
  have hfaults := judgeAtEnd_faults (otherwise := crossInCoast ts)
    (s := { s with drive := { s.drive with captureTimer := ts } }) hend
    (u := { s with drive := { crossedRun ts (intervalOf ref ts) (endedRun ts misses s.drive) with
      stallTimer := x, overTimer := y } }) (faultsAs_drive rfl rfl) rfl
    ((crossInRun_ended misses href hlo hhi hsum).trans hjudged)
  rw [speedReading_some (v := 600000000 / (Spec.ringWith (endedRun ts misses s.drive).ring (intervalOf ref ts)).sum)
    (Nat.le_trans (Nat.le_of_lt hv) (by decide))] at hfaults
  exact hfaults

theorem crossInRun_over_at_end (hend : s.missesAtEnd = some misses) (href : s.drive.xref = some ref)
    (hlo : 3 * ref.pRef / 4 ≤ intervalOf ref ts) (hhi : intervalOf ref ts ≤ 5 * ref.pRef / 4)
    (hlen : 5 ≤ s.drive.ring.length) (hsum : 0 < (Spec.ringWith s.drive.ring (intervalOf ref ts)).sum)
    (hv : speedMax s.ctl.role + 8000 < 600000000 / (Spec.ringWith s.drive.ring (intervalOf ref ts)).sum)
    (hmax : 600000000 / (Spec.ringWith s.drive.ring (intervalOf ref ts)).sum ≤ 300000)
    (htimer : s.drive.overTimer = some t0) (hle : 50 ≤ (s.ctl.partTime - t0).toNat) :
    let t := settle (judgeAtEnd (crossInRun ts) (crossInCoast ts) { s with drive := { s.drive with captureTimer := ts } })
    Spec.Faulted s t .overspeed .overspeed
      (.num (600000000 / (Spec.ringWith s.drive.ring (intervalOf ref ts)).sum / 10 : Nat)) none ∧ t.evac = s.evac := by
  obtain ⟨x, y, hjudged⟩ := judgeSpeed_over
    (s := { s with drive := crossedRun ts (intervalOf ref ts) (endedRun ts misses s.drive) })
    (speedOf_pushed hlen) hv htimer hle
  have hfaults := judgeAtEnd_faults (otherwise := crossInCoast ts)
    (s := { s with drive := { s.drive with captureTimer := ts } }) hend
    (u := { s with drive := { crossedRun ts (intervalOf ref ts) (endedRun ts misses s.drive) with
      stallTimer := x, overTimer := y } }) (faultsAs_drive rfl rfl) rfl
    ((crossInRun_ended misses href hlo hhi hsum).trans hjudged)
  rw [speedReading_some (v := 600000000 / (Spec.ringWith (endedRun ts misses s.drive).ring (intervalOf ref ts)).sum)
    hmax] at hfaults
  exact hfaults

end

/-- Settles O36. -/
theorem driveFaultsAreTaken : Obligations.DriveFaultsAreTaken := by
  refine ⟨fun s hpower hdrives => ⟨fun n hn => ?_, fun r hr => ?_, fun r hr => ?_⟩, fun s r hdrives => ?_,
    fun s ts ref hpower hrun href => ?_, fun s misses hpower hend => ⟨fun ref v hm href hspeed hv => ?_,
    fun ref ts href => ?_⟩⟩
  · have hwithin : (Reading.num n).gt 45000 = false := decide_eq_false (by omega)
    rw [exec_busCurrentReading _ hpower hdrives, busReadingTaken_within s hwithin]
    simp [busSample, CurrentSum.add, Reading.toInt?]
  · have hwithin : r.gt 45000 = false ∧ (r.toInt?.getD 0).toNat = 0 ∧ decide (r = .above) = false := by
      rcases hr with rfl | rfl | ⟨n, rfl, hn⟩
      · exact ⟨rfl, rfl, rfl⟩
      · exact ⟨rfl, rfl, rfl⟩
      · exact ⟨decide_eq_false (by omega), Int.toNat_of_nonpos (by exact Int.le_of_lt hn), rfl⟩
    obtain ⟨hgt, hnat, habove⟩ := hwithin
    rw [exec_busCurrentReading _ hpower hdrives, busReadingTaken_within s hgt, busSample, CurrentSum.add, hnat, habove,
      Nat.add_zero, Bool.or_false]
  · have hbeyond := (Reading.gt_iff r 45000).mpr hr
    have hcode := driveStateCode_le s.drive.state
    have hfaults := settle_driveFault (cause := .overcurrent) r (some (.num (driveStateCode s.drive.state)))
      (faultsAs_setDrive (s := s) (d := s.drive) s.freeCount (s.gov.busSamples.add r) rfl rfl)
    rw [beyond_fit16 hbeyond, Option.map_some, Reading.fit16_num (by omega) (by omega)] at hfaults
    refine ⟨_, exec_busCurrentReading r hpower hdrives, ?_⟩
    rw [busReadingTaken_beyond s hbeyond]
    exact hfaults
  · show execBusCurrentReading r s = _
    rw [execBusCurrentReading, hdrives]
    exact event_absent
  · intro interval ring v hlo hhi hlen hsum
    have hspeed : (crossedRun ts interval s.drive).speed = some v := speedOf_pushed hlen
    have hexec : exec (.zeroCrossing ts) s
        = .next (settle (judgeSpeed { s with drive := crossedRun ts interval s.drive })) := by
      rw [exec_zeroCrossing ts hpower, crossing_inside hrun href hlo hhi hsum]
      rfl
    refine ⟨fun t0 hv htimer hle => ⟨_, hexec, ?_⟩, fun t0 hv hmax htimer hle => ⟨_, hexec, ?_⟩,
      fun hvlo hvhi => ?_⟩
    · exact judgeSpeed_stall_faulted (faultsAs_drive rfl rfl) hspeed hv htimer hle
    · exact judgeSpeed_over_faulted (faultsAs_drive rfl rfl) hspeed hv hmax htimer hle
    · intro d held
      obtain ⟨hquiet, hset⟩ := judgeSpeed_crossed_blocking hspeed hvlo hvhi
      refine ⟨fun hno => ?_, fun hyes hb => ⟨fun hrole => ⟨_, hexec, ?_⟩, fun hrole hphase => ⟨_, hexec, ?_⟩⟩⟩
      · rw [hexec, hquiet hno]
        rfl
      · have hreported := hset hyes hb
        rw [blockedSet_stick (by exact hrole)] at hreported
        exact leavesAs_settle hreported
      · obtain ⟨hevac, hdrive⟩ := blockedSet_dock (s := { s with drive := blockingDrive s.ctl.partTime ts interval v s.drive })
          hrole hrun hphase
        rw [settle_evac, settle_drive, (hset hyes hb).state]
        show (blockedSet _).evac.phase = _ ∧ (blockedSet _).evac.lastResult = _ ∧ (blockedSet _).evac.lastKind = _ ∧
          (blockedSet _).evac.lastEnd = _ ∧ (blockedSet _).evac.durationTimer = _ ∧ (blockedSet _).drive.state = _ ∧
          (blockedSet _).drive.owner = _ ∧ (blockedSet _).drive.duty = _ ∧ (blockedSet _).drive.lastRunDuty = _ ∧
          (blockedSet _).drive.speedAtStop = _
        rw [hevac, hdrive]
        exact ⟨rfl, rfl, rfl, rfl, rfl, rfl, rfl, rfl, rfl, rfl⟩
  · subst hm
    have hopen : (s.drive.windowed || s.lastMissAtEnd) = true := by
      rw [State.lastMissAtEnd, hend]
      exact Bool.or_true _
    refine ⟨_, exec_crossingWindowExpiry hpower hopen href, ?_⟩
    have hfaults := judgeAtEnd_faults (judge := expireWindow) (otherwise := expireWindow) hend
      (faultsAs_drive (d := missedRun ref { s.drive with state := .run, missCount := 3 }) rfl rfl) rfl
      ((expireWindow_some (by exact href)).trans ((windowExpired_of_run ref rfl).trans (missInRun_fourth rfl)))
    rw [Option.map_some, step_fit16] at hfaults
    have hvalue : (speedReading s.drive.speed).fit16 = .num (v / 10 : Nat) := by rw [hspeed, speedReading_some hv]
    rw [← hvalue]
    exact hfaults
  · intro interval ring v hlo hhi hlen hsum
    have hexec := exec_zeroCrossing ts hpower
    rw [crossing_at_end ts hend] at hexec
    refine ⟨fun t0 hv htimer hle => ⟨_, hexec, ?_⟩, fun t0 hv hmax htimer hle => ⟨_, hexec, ?_⟩⟩
    · exact crossInRun_stall_at_end hend href hlo hhi hlen hsum hv htimer hle
    · exact crossInRun_over_at_end hend href hlo hhi hlen hsum hv hmax htimer hle

end Sys2Proof.Machine

/-! The start sequence: ALIGN, RAMP and the entry to RUN (sections 1.3 and 1.4). -/

namespace Sys2Proof.Machine

open Sys2Proof

/-! ### Crossings in RAMP (R4, R11) -/

theorem crossing_of_ramp (ts : Ticks) {s : State} (h : s.drive.state = .ramp) :
    crossing ts s = crossInRamp ts { s with drive := { s.drive with captureTimer := ts } } := by
  unfold crossing
  dsimp only
  rw [h]

theorem crossInRamp_first {s : State} (ts : Ticks) (h : s.drive.xref = none) :
    crossInRamp ts s = { s with drive := { s.drive with xref := some ⟨ts, 0⟩ } } := by
  unfold crossInRamp
  rw [h]

theorem crossInRamp_window {s : State} (ts : Ticks) {ref : CrossRef} {p : Nat} (href : s.drive.xref = some ref)
    (hp : s.drive.forcedPeriod = some p) : crossInRamp ts s
      = if 3 * p / 4 ≤ intervalOf ref ts ∧ intervalOf ref ts ≤ 5 * p / 4 then rampValid ts (intervalOf ref ts) s else s := by
  unfold crossInRamp
  rw [href, hp]
  rfl

/-- The drive after a valid crossing in RAMP (R4). -/
def countedRamp (ts : Ticks) (interval : Nat) (d : Drive) : Drive :=
  { d with captureTimer := ts, ring := Spec.ringWith d.ring interval, xref := some ⟨ts, interval⟩,
           speed := Spec.speedOf (Spec.ringWith d.ring interval), validCount := d.validCount + 1 }

theorem rampValid_counted {ts : Ticks} {interval : Nat} {s : State} (hcapture : s.drive.captureTimer = ts)
    (hsum : 0 < (Spec.ringWith s.drive.ring interval).sum) : rampValid ts interval s
      = if 12 ≤ s.drive.validCount + 1 then
          let r := enterRun 410 { s with drive := countedRamp ts interval s.drive }
          reportDrive .rampDone { r with drive := { r.drive with commIn := some (interval / 2) } }
        else { s with drive := countedRamp ts interval s.drive } := by
  unfold rampValid
  rw [acceptCrossing_counted ts hsum, countedRamp, ← hcapture]

/-! ### The entry to RUN (R13, R37, R69, R78, R91, R151) -/

/-- The drive at the entry to RUN. -/
def enteredRun (d0 : Nat) (now : Ms) (d : Drive) : Drive :=
  { d with state := .run, duty := d0, heldDuty := none, attempts := 0, missCount := 0, zeroGrant := 0, blocked := false,
           stallTimer := none, overTimer := none, blockTimer := none, catchCount := none, forcedPeriod := none,
           forcedIn := none, rampTimer := none, coastTimer := none, crossTimer := none, enteredAt := now }

/-- What the other blocks make of the entry to RUN leaves everything but the debris sensor and the run of the fan alone. -/
theorem runBegins_others (s : State) :
    runBegins s = { s with host := (runBegins s).host, debris := (runBegins s).debris, evac := (runBegins s).evac } := by
  unfold runBegins startSpell
  split
  · have h := reportDirt_reported s { s with debris := s.debris.enterRun (s.after 50) (s.after 3000) }
    generalize reportDirt s { s with debris := s.debris.enterRun (s.after 50) (s.after 3000) } = t at h
    rw [h.state]
  · split <;> rfl

theorem runBegins_starts (s : State) : Spec.RunStarts s (runBegins s) where
  stick hrole := by
    have h := reportDirt_reported s { s with debris := s.debris.enterRun (s.after 50) (s.after 3000) }
    unfold runBegins
    rw [hrole]
    dsimp only
    rw [h.state]
    exact ⟨rfl, rfl⟩
  dock hrole := by
    unfold runBegins startSpell
    rw [hrole]
    dsimp only
    refine ⟨?_, fun hp => ?_, fun hp => ?_⟩
    · split <;> rfl
    · rw [if_pos hp]
      rfl
    · rw [if_neg hp]

/-- The entry to RUN, in what it writes. -/
structure RunEntered (d0 : Nat) (s t : State) : Prop where
  drive : t.drive = enteredRun d0 s.ctl.partTime s.drive
  gov : t.gov = s.gov.bumpless d0
  pack : t.pack = { s.pack with balance := [] }
  others : t = { s with drive := t.drive, gov := t.gov, pack := t.pack, host := t.host, debris := t.debris, evac := t.evac }
  starts : Spec.RunStarts s t

theorem enterRun_entered (d0 : Nat) (s : State) : RunEntered d0 s (enterRun d0 s) := by
  have hothers := runBegins_others { s with
    drive := enteredRun d0 s.ctl.partTime s.drive, gov := s.gov.bumpless d0, pack := { s.pack with balance := [] } }
  have hstarts := runBegins_starts { s with
    drive := enteredRun d0 s.ctl.partTime s.drive, gov := s.gov.bumpless d0, pack := { s.pack with balance := [] } }
  have henter : enterRun d0 s = runBegins { s with
    drive := enteredRun d0 s.ctl.partTime s.drive, gov := s.gov.bumpless d0, pack := { s.pack with balance := [] } } := rfl
  rw [henter]
  generalize runBegins _ = t at hothers hstarts ⊢
  exact ⟨by rw [hothers], by rw [hothers], by rw [hothers], by rw [hothers], ⟨hstarts.stick, hstarts.dock⟩⟩

/-! ### The ends of a start (R12) -/

theorem rampFailed_retries {s : State} (h : s.drive.attempts < 2) : rampFailed s = reportDrive .retry
    (enterCoast { s with drive := { s.drive with attempts := s.drive.attempts + 1, retryPending := true } }) := by
  unfold rampFailed
  dsimp only
  rw [if_pos (by omega)]

theorem rampFailed_third {s : State} (h : s.drive.attempts = 2) : rampFailed s
    = driveFault .startFail (.num 3) none { s with drive := { s.drive with attempts := 3 } } := by
  unfold rampFailed
  dsimp only
  rw [if_neg (by omega), h]
  rfl

theorem exec_alignTimerExpiry {s : State} (hpower : s.ctl.power ≠ .ship) (halign : s.drive.state = .align)
    (htimer : s.drive.alignTimer.isSome = true) : exec .alignTimerExpiry s
      = .next (settle (reportDrive (ownerCause s.drive.owner) (enterRamp s))) := by
  show execAlignTimerExpiry s = _
  rw [execAlignTimerExpiry, event_occurs (by rw [halign, htimer]; rfl) hpower]

theorem exec_forcedCommutation {s : State} (hpower : s.ctl.power ≠ .ship) (hramp : s.drive.state = .ramp)
    (htimer : s.drive.forcedIn.isSome = true) : exec .forcedCommutation s = .next (settle (forceCommutation s)) := by
  show execForcedCommutation s = _
  rw [execForcedCommutation, event_occurs (by rw [hramp, htimer]; rfl) hpower]

theorem exec_rampTimerExpiry {s : State} (hpower : s.ctl.power ≠ .ship) (hramp : s.drive.state = .ramp)
    (htimer : s.drive.rampTimer.isSome = true) : exec .rampTimerExpiry s = .next (settle (rampFailed s)) := by
  show execRampTimerExpiry s = _
  rw [execRampTimerExpiry, event_occurs (by rw [hramp, htimer]; rfl) hpower]

/-- The twelfth valid crossing in RAMP enters RUN with its commutation scheduled (R4, R13). -/
theorem rampDone_enters (s : State) (d : Drive) (interval : Nat) :
    let c : State := { s with drive := d }
    let r := enterRun 410 c
    let t := settle (reportDrive .rampDone { r with drive := { r.drive with commIn := some (interval / 2) } })
    t.drive = { enteredRun 410 s.ctl.partTime d with commIn := some (interval / 2) } ∧
      t.gov.a = 410 * 65536 ∧ t.gov.residue = 0 ∧ t.gov.prev = 410 ∧ t.pack.balance = [] ∧ t.pack.q = s.pack.q ∧
      t.prot = s.prot ∧ t.roll = s.roll ∧ t.stick = s.stick ∧ t.store = s.store ∧ Spec.RunStarts s t := by
  intro c r t
  have hentered : RunEntered 410 c r := enterRun_entered 410 c
  have hleaves : Spec.LeavesAs { r with drive := { r.drive with commIn := some (interval / 2) } } t :=
    leavesAs_settle (reportDrive_reported _ _)
  obtain ⟨hdrive, hgov, hpack, hothers, hstick, hdock⟩ := hentered
  obtain ⟨blocks, pack, -, gov, -, -, -, -⟩ := hleaves
  have hbalance : t.pack.balance = [] ∧ t.pack.q = s.pack.q := by
    have hr : r.pack.balance = [] ∧ r.pack.q = s.pack.q := by
      rw [hpack]
      exact ⟨rfl, rfl⟩
    rcases pack with hp | ⟨-, hp⟩ <;> rw [hp]
    · exact hr
    · exact ⟨rfl, hr.2⟩
  have hdebris : t.debris = r.debris := blocks.debris
  have hevac : t.evac = r.evac := blocks.evac
  obtain ⟨hprotKept, hrollKept, hstickKept, hstoreKept⟩ :
      r.prot = s.prot ∧ r.roll = s.roll ∧ r.stick = s.stick ∧ r.store = s.store := by
    rw [hothers]
    exact ⟨rfl, rfl, rfl, rfl⟩
  refine ⟨?_, by rw [gov, hgov]; rfl, by rw [gov, hgov]; rfl, by rw [gov, hgov]; rfl, hbalance.1, hbalance.2,
    blocks.prot.trans hprotKept, blocks.roll.trans hrollKept, blocks.stick.trans hstickKept,
    blocks.store.trans hstoreKept, ?_, ?_⟩
  · rw [blocks.drive, hdrive]
  · rw [hdebris, hevac]
    exact hstick
  · rw [hdebris, hevac]
    exact hdock

/-- Settles O34. -/
theorem startSequenceRuns : Obligations.StartSequenceRuns := by
  intro s hpower
  refine ⟨fun halign htimer => ⟨_, exec_alignTimerExpiry hpower halign htimer, ?_⟩, fun hramp => ⟨fun p hp hin => ?_,
    fun ts href => ?_, fun ts ref p href hp => ?_, fun ref href => ?_,
    fun htimer hlt => ⟨_, exec_rampTimerExpiry hpower hramp htimer, ?_⟩,
    fun htimer htwo => ⟨_, exec_rampTimerExpiry hpower hramp htimer, ?_⟩⟩⟩
  · exact leavesAs_settle (reportDrive_reported _ _)
  · rw [exec_forcedCommutation hpower hramp hin, forceCommutation, hp]
    rfl
  · rw [exec_zeroCrossing ts hpower, crossing_of_ramp ts hramp,
      crossInRamp_first (s := { s with drive := { s.drive with captureTimer := ts } }) ts href]
  · intro interval ring counted
    have hcross := crossInRamp_window (s := { s with drive := { s.drive with captureTimer := ts } }) ts href hp
    have hexec : exec (.zeroCrossing ts) s = .next (settle (if 3 * p / 4 ≤ interval ∧ interval ≤ 5 * p / 4 then
        rampValid ts interval { s with drive := { s.drive with captureTimer := ts } }
        else { s with drive := { s.drive with captureTimer := ts } })) := by
      rw [exec_zeroCrossing ts hpower, crossing_of_ramp ts hramp, hcross]
      rfl
    have hvalid := fun hsum => rampValid_counted (interval := interval)
      (s := { s with drive := { s.drive with captureTimer := ts } }) rfl hsum
    have hcounted : countedRamp ts interval { s.drive with captureTimer := ts } = counted := rfl
    refine ⟨fun hout => ?_, fun hlo hhi hsum hlt => ?_, fun hlo hhi hsum hle => ?_⟩
    · rw [hexec, if_neg (by omega)]
    · rw [hexec, if_pos ⟨hlo, hhi⟩, hvalid hsum, if_neg (by exact Nat.not_le.mpr (Nat.succ_lt_succ hlt)), hcounted]
    · rw [if_pos ⟨hlo, hhi⟩, hvalid hsum, if_pos (by exact Nat.succ_le_succ hle), hcounted] at hexec
      refine ⟨_, hexec, ?_⟩
      exact rampDone_enters s counted interval
  · rw [exec_crossingWindowExpiry hpower (by rw [Drive.windowed, hramp]; rfl) href,
      judgeAtEnd_of_none (missesAtEnd_of_not_coast (by rw [hramp]; decide)), expireWindow_some href, windowExpired, hramp]
  · rw [rampFailed_retries hlt]
    exact leavesAs_settle (reportDrive_reported _ _)
  · have hfaults := settle_driveFault (cause := .startFail) (.num 3) none
      (faultsAs_drive (s := s) (d := { s.drive with attempts := 3 }) rfl rfl)
    rw [rampFailed_third htwo]
    exact hfaults

end Sys2Proof.Machine

/-! SET_SUCTION (sections 1.3 to 1.5 and 4.5). -/

namespace Sys2Proof.Machine

open Sys2Proof

/-! ### The taking, and what an act leaves before its reply (R159) -/

/-- The taking of a request leaves the part in ACTIVE (R173). -/
theorem heads_active {s : State} {code : Nat} {kind : Byte} {p : List Byte} {rest : List HostFrame}
    (h : Spec.Heads s code kind p rest) : (beginTaking rest s).ctl.power = .active := by
  cases hp : s.ctl.power with
  | ship => exact absurd hp h.awake
  | standby =>
    unfold beginTaking restartStandby enterActive
    rw [if_pos ⟨hp, h.link⟩]
    simp
  | active =>
    unfold beginTaking restartStandby enterActive
    rw [if_neg (by simp [hp])]
    exact hp

/-- A request that its own stage answers OK with a state and fields. -/
theorem request_acts_ok {q : RequestSpec} {s u : State} {kind : Byte} {p fields : List Byte} {rest : List HostFrame}
    (h : Spec.Heads s q.code kind p rest) (hs : q.alwaysSummary = false) (hr : q.resets = false)
    (hrole : q.accepts s.ctl.role = true) (hl : q.lengthOk p = true) (hc : q.canonical p = true)
    (hj : q.act p (beginTaking rest s) = ⟨.ok, u, fields⟩) :
    request q s = .next (settle (Spec.reply kind 0x00 fields u)) := by
  rw [request_acts_as h hs hr hrole hl hc hj]
  rfl

/-- A request that its own stage refuses. -/
theorem request_acts_refused {q : RequestSpec} {s : State} {kind : Byte} {p : List Byte} {rest : List HostFrame} {r : Result}
    (h : Spec.Heads s q.code kind p rest) (hs : q.alwaysSummary = false) (hr : q.resets = false)
    (hrole : q.accepts s.ctl.role = true) (hl : q.lengthOk p = true) (hc : q.canonical p = true)
    (hj : q.act p (beginTaking rest s) = refuse r (beginTaking rest s)) :
    request q s = .next (settle (Spec.reply kind (resultCode r) [] (beginTaking rest s))) := by
  rw [request_acts_as h hs hr hrole hl hc hj]
  rfl

/-- Reports handed over make no difference that the words of an effect speak of. -/
theorem leavesAs_reported {u v : State} (h : Reported u v) : Spec.LeavesAs u v := by
  obtain ⟨hstate, hrxq, hmask, hperiod, herrors, hlink, hnew⟩ := h
  generalize v.host = l at hstate hrxq hmask hperiod herrors hlink hnew
  subst hstate
  exact ⟨⟨rfl, rfl, rfl, rfl, rfl, rfl, rfl, rfl, rfl, rfl, rfl, rfl, rfl, rfl⟩, .inl rfl, .inl rfl, rfl,
    .inl ⟨rfl, rfl⟩, rfl, rfl, ⟨hrxq, hmask, hperiod, herrors, hlink, hnew⟩⟩

/-- An act that neither reads nor changes the host link acts alike on either side of a report. -/
theorem Reported.map {f : State → State} (hf : ∀ (w : State) (l : HostLink), f { w with host := l } = { f w with host := l })
    {u v : State} (h : Reported u v) : Reported (f u) (f v) := by
  have hhost : ∀ w : State, (f w).host = w.host := fun w => by
    have hself := congrArg State.host (hf w w.host)
    exact hself
  exact ⟨by rw [hhost, h.state, hf], by rw [hhost, hhost, h.rxq], by rw [hhost, hhost, h.mask],
    by rw [hhost, hhost, h.supPeriod], by rw [hhost, hhost, h.errors], by rw [hhost, hhost, h.linkError],
    by rw [hhost, hhost, h.faultNew]⟩

theorem Reported.setDrive {u v : State} (f : Drive → Drive) (h : Reported u v) :
    Reported { u with drive := f u.drive } { v with drive := f v.drive } :=
  h.map (f := fun w => { w with drive := f w.drive }) fun _ _ => rfl

/-! ### Start requests (R8, R17) -/

/-- The drive with a start requested by an owner. -/
def claimed (owner : Owner) (d : Drive) : Drive := { d with owner := owner, attempts := 0, retryPending := false }

/-- The drive at the entry to ALIGN (R10). -/
def aligned (now : Ms) (d : Drive) : Drive :=
  { d with state := .align, step := 0, ring := [], xref := none, speed := none, duty := 330, heldDuty := none,
           forcedPeriod := none, forcedIn := none, commIn := none, startPending := false, retryPending := false,
           lastRunDuty := 0, speedAtStop := none, alignTimer := some (now + 40), coastTimer := none, crossTimer := none,
           faultTimer := none, enteredAt := now }

theorem enterAlign_eq (s : State) : enterAlign s
    = { s with drive := aligned s.ctl.partTime s.drive, pack := { s.pack with balance := [] } } := rfl

section
variable {owner : Owner} {s : State} (h : s.ctl.power = .active)
include h

/-- A start request in ACTIVE acts by the drive's state alone. -/
theorem startRequest_off (hstate : s.drive.state = .off) :
    startRequest owner s = startInOff { s with drive := claimed owner s.drive } := by
  unfold startRequest
  rw [enterActive_of_active _ { s with drive := { s.drive with owner := owner, attempts := 0, retryPending := false } } h]
  dsimp only
  split
  case h_1 => rfl
  all_goals simp_all only [reduceCtorEq]

theorem startRequest_coast (hstate : s.drive.state = .coast) :
    startRequest owner s = startInCoast { s with drive := claimed owner s.drive } := by
  unfold startRequest
  rw [enterActive_of_active _ { s with drive := { s.drive with owner := owner, attempts := 0, retryPending := false } } h]
  dsimp only
  split
  case h_2 => rfl
  all_goals simp_all only [reduceCtorEq]

end

theorem fasterThan_iff (speed : Option Nat) (rpm : Nat) : fasterThan speed rpm = true ↔ ∃ v, speed = some v ∧ rpm ≤ v := by
  cases speed <;> simp [fasterThan]

theorem slowerThan_iff (speed : Option Nat) (rpm : Nat) : slowerThan speed rpm = true ↔ ∃ v, speed = some v ∧ v < rpm := by
  cases speed <;> simp [slowerThan]

/-! ### A mode other than OFF (R23) -/

section
variable {b : State} {mode : SuctionMode}

theorem suctionOn_of_start (hcal : b.debris.cal = none) (hstart : b.drive.state.startable = true) :
    Reported (startRequest .host { b with drive := { b.drive with mode := mode } }) (suctionOn mode b) := by
  unfold suctionOn
  dsimp only
  rw [if_neg (c := b.debris.cal.isSome = true) (by rw [hcal]; decide), if_pos hstart]
  exact reportStart_reported _ _

/-- In OFF the start conditions hold and ALIGN is entered (R8, R10). -/
theorem suctionOn_off (hactive : b.ctl.power = .active)
    (hrole : b.ctl.role = .stick) (hmode : mode ≠ .off) (hdetached : b.stick.state = .detached)
    (hok : b.prot.dischargeOk = true) (hcal : b.debris.cal = none) (hoff : b.drive.state = .off) :
    Reported { b with pack := { b.pack with balance := [] }
                      drive := aligned b.ctl.partTime (claimed .host { b.drive with mode := mode }) } (suctionOn mode b) := by
  have hstarts : State.startOk { b with drive := claimed .host { b.drive with mode := mode } } = true := by
    simp [State.startOk, State.runRequest, claimed, hmode, hrole, hdetached, hok, hcal, hoff]
  have hreported := suctionOn_of_start (mode := mode) hcal (by rw [hoff]; rfl)
  rw [startRequest_off (s := { b with drive := { b.drive with mode := mode } }) hactive hoff, startInOff, if_pos hstarts]
    at hreported
  exact hreported

section
variable (hactive : b.ctl.power = .active) (hcal : b.debris.cal = none) (hcoast : b.drive.state = .coast)
include hactive hcal hcoast

/-- In COAST a catch goes on or begins, or the start waits (R17). -/
theorem suctionOn_coast :
    Reported (startInCoast { b with drive := claimed .host { b.drive with mode := mode } }) (suctionOn mode b) := by
  have hreported := suctionOn_of_start (mode := mode) hcal (by rw [hcoast]; rfl)
  rw [startRequest_coast (s := { b with drive := { b.drive with mode := mode } }) hactive hcoast] at hreported
  exact hreported

theorem suctionOn_catching (hcatch : b.drive.catchCount.isSome = true) :
    Reported { b with drive := claimed .host { b.drive with mode := mode } } (suctionOn mode b) := by
  have hreported := suctionOn_coast (mode := mode) hactive hcal hcoast
  rw [startInCoast, if_pos (by exact hcatch)] at hreported
  exact hreported

theorem suctionOn_fast (hcatch : b.drive.catchCount = none) (hstop : b.drive.speedAtStop.isSome = true)
    (hspeed : ∃ v, b.drive.speed = some v ∧ 20000 ≤ v) :
    Reported { b with drive := { claimed .host { b.drive with mode := mode } with
      catchCount := some 0, ring := [], speed := none } } (suctionOn mode b) := by
  have hreported := suctionOn_coast (mode := mode) hactive hcal hcoast
  rw [startInCoast, if_neg (by simp [claimed, hcatch]),
    if_pos (by simp [claimed, hstop, (fasterThan_iff b.drive.speed 20000).mpr hspeed])] at hreported
  exact hreported

theorem suctionOn_slow (hcatch : b.drive.catchCount = none)
    (hslow : ¬ (b.drive.speedAtStop.isSome = true ∧ ∃ v, b.drive.speed = some v ∧ 20000 ≤ v)) :
    Reported { b with drive := { claimed .host { b.drive with mode := mode } with startPending := true } } (suctionOn mode b) := by
  have hreported := suctionOn_coast (mode := mode) hactive hcal hcoast
  have hfast : ¬ (fasterThan b.drive.speed 20000 && b.drive.speedAtStop.isSome) = true := by
    rw [Bool.and_eq_true, fasterThan_iff]
    exact fun h => hslow h.symm
  rw [startInCoast, if_neg (by simp [claimed, hcatch]), if_neg (by exact hfast)] at hreported
  exact hreported

end

theorem startable_of_drives {st : DriveState} (h : st.drives = true) : st.startable = false := by
  cases st <;> simp_all [DriveState.drives, DriveState.startable]

/-- While the drive drives, the mode alone is set. -/
theorem suctionOn_drives (hcal : b.debris.cal = none) (hdrives : b.drive.state.drives = true) :
    suctionOn mode b = { b with drive := { b.drive with mode := mode } } := by
  unfold suctionOn
  dsimp only
  rw [if_neg (c := b.debris.cal.isSome = true) (by rw [hcal]; decide), if_neg (by rw [startable_of_drives hdrives]; decide)]

/-- The debris sensor once a calibration that held a drive in a state has been taken over (R93). -/
def Debris.takenOver (state : DriveState) (x : Debris) : Debris :=
  if state = .run then { x with cal := none, s := 0, d := none, dirtyLogged := false } else { x with cal := none }

theorem takeOverCalibration_reported (hcal : b.debris.cal.isSome = true) :
    Reported { b with drive := { b.drive with owner := .host }, gov := { b.gov with pHold := none }
                      debris := b.debris.takenOver b.drive.state } (takeOverCalibration b) := by
  have howned := (endCalibration_reported (r := .aborted) hcal).setDrive (fun x => { x with owner := .host })
  have hdrive : (endCalibration .aborted b).drive = b.drive := endCalibration_drive _ _
  unfold takeOverCalibration Debris.takenOver
  dsimp only
  by_cases hrun : b.drive.state = .run
  · rw [if_pos hrun, if_pos (by rw [hdrive]; exact hrun)]
    exact (howned.map (f := fun w => { w with debris := w.debris.calibrationLeft }) fun _ _ => rfl).trans
      (reportDirt_reported _ _)
  · rw [if_neg hrun, if_neg (by rw [hdrive]; exact hrun)]
    exact howned

/-- A calibration that held a driving drive ends and leaves it to the host (R23, R93). -/
theorem suctionOn_takeOver (hcal : b.debris.cal.isSome = true) (hdrives : b.drive.state.drives = true) :
    Reported { b with drive := { b.drive with mode := mode, owner := .host }, gov := { b.gov with pHold := none }
                      debris := b.debris.takenOver b.drive.state } (suctionOn mode b) := by
  have htaken := takeOverCalibration_reported (b := { b with drive := { b.drive with mode := mode } }) hcal
  have hstate : (takeOverCalibration { b with drive := { b.drive with mode := mode } }).drive.state = b.drive.state := by
    rw [htaken.state]
  unfold suctionOn
  dsimp only
  rw [if_pos (c := b.debris.cal.isSome = true) hcal, if_neg (by rw [hstate, startable_of_drives hdrives]; decide)]
  exact htaken

end

/-! ### OFF (R14, R18, R23) -/

/-- The roll drive once a latched one has been released (R112). -/
def rollReleased (now : Ms) (r : Roll) : Roll :=
  if r.state = .jamLatched ∨ r.state = .fault then
    { r with state := .off, appliedDuty := 0, jamTimer := none, waitTimer := none, faultCause := none, jamCount := 0,
             enteredAt := now }
  else r

theorem held_iff (st : RollState) : st.held = true ↔ st = .jamLatched ∨ st = .fault := by
  cases st <;> decide

theorem rollRelease_reported (c : DriveCause) (s : State) :
    Reported { s with roll := rollReleased s.ctl.partTime s.roll } (rollRelease c s) := by
  unfold rollRelease rollReleased
  by_cases h : s.roll.state = .jamLatched ∨ s.roll.state = .fault
  · rw [if_pos h, if_pos ((held_iff _).mpr h)]
    exact reportRoll_reported _ _
  · rw [if_neg h, if_neg (fun hheld => h ((held_iff _).mp hheld))]
    exact .refl _

theorem rollRelease_held (c : DriveCause) (s : State) : (rollRelease c s).roll.state.held = false := by
  unfold rollRelease
  split
  · simp [RollState.held]
  · next h => exact Bool.eq_false_iff.mpr h

/-- The exit from RUN leaves a roll drive that is not latched in OFF (R107). -/
theorem leaveRun_rollOff {next : DriveState} (hnext : next ≠ .run) {s : State} (hheld : s.roll.state.held = false) :
    (leaveRun next s).roll.state = .off := by
  have hruns := leaveRun_roll hnext s
  have hstate : (leaveRun next s).roll.state = .off ∨ (leaveRun next s).roll.state = s.roll.state := by
    unfold leaveRun rollEvaluate
    split
    · exact .inl rfl
    · exact .inr rfl
  rcases hstate with h | h
  · exact h
  · rw [h] at hruns ⊢
    cases hst : s.roll.state <;> simp_all [RollState.runs, RollState.held]

/-- The drive coasting after a stop in ALIGN or RAMP (R14, R16). -/
def coasted (now : Ms) (d : Drive) : Drive :=
  { d with owner := .none, state := .coast, duty := 0, missCount := 0, zeroGrant := 0, heldDuty := none,
           forcedPeriod := none, forcedIn := none, commIn := none, startPending := false, retryPending := false,
           alignTimer := none, rampTimer := none, coastTimer := some (now + 3000), crossTimer := some (now + 100),
           enteredAt := now }

/-- A stop in RUN leaves by way of the exit from RUN (R14). -/
theorem stopDriving_of_run {s : State} (h : s.drive.state = .run) (hheld : s.roll.state.held = false) :
    (stopDriving s).gov = s.gov.leaveRun ∧ (stopDriving s).roll.state = .off ∧
      (stopDriving s).debris = { s.debris with windowTimer := none, c := 0 } := by
  unfold stopDriving enterCoast
  rw [leaveIfRun_of_run _ h]
  exact ⟨leaveRun_gov _ _, leaveRun_rollOff (by decide) hheld, leaveRun_debris _ _⟩

theorem driveStop_of_start {s : State} {now : Ms} (hnow : s.ctl.partTime = now)
    (h : s.drive.state = .align ∨ s.drive.state = .ramp) : driveStop s = { s with drive := coasted now s.drive } := by
  subst hnow
  have hstops : driveStop s = stopDriving s := by
    unfold driveStop
    rcases h with h | h <;> rw [h]
  have hnot : s.drive.state ≠ .run := by rcases h with h | h <;> rw [h] <;> decide
  rw [hstops, stopDriving, leaveIfRun_of_not_run _ hnot]
  rfl

/-- The drive in COAST after a stop: no start, retry or catch waits (R14). -/
def coastStopped (d : Drive) : Drive :=
  { d with owner := .none, startPending := false, retryPending := false, catchCount := none, speedAtStop := none }

theorem driveStop_of_coast {s : State} (h : s.drive.state = .coast) :
    driveStop s = { s with drive := coastStopped s.drive } := by
  unfold driveStop
  rw [h]
  rfl

/-- The drive in OFF after a fault that has been left with no start waiting (R9, R18). -/
def faultLeft (now : Ms) (d : Drive) : Drive :=
  { offRecord now d with owner := .none, startPending := false, retryPending := false }

section
variable {s : State} (hrequest : s.runRequest = false)
include hrequest

theorem releaseFault_of_slow {now : Ms} (hnow : s.ctl.partTime = now) (hnew : s.drive.released ≠ some true)
    (hslow : s.drive.faultTimer = none ∨ ∃ v, s.drive.speed = some v ∧ v < 3000) :
    releaseFault s = { s with drive := faultLeft now s.drive } := by
  subst hnow
  unfold releaseFault enterOff serveWaiting
  dsimp only
  rw [if_neg (c := s.runRequest = true) (by rw [hrequest]; decide), if_pos ⟨hnew, by rwa [slowerThan_iff]⟩,
    if_neg (by simp [State.startOk, State.runRequest, offRecord])]
  rfl

theorem releaseFault_of_held
    (h : s.drive.released = some true ∨ ¬ (s.drive.faultTimer = none ∨ ∃ v, s.drive.speed = some v ∧ v < 3000)) :
    releaseFault s = { s with drive := { s.drive with released := some true, owner := .none } } := by
  unfold releaseFault
  dsimp only
  rw [if_neg (c := s.runRequest = true) (by rw [hrequest]; decide), if_neg]
  rw [slowerThan_iff]
  rintro ⟨hnew, hslow⟩
  exact h.elim hnew fun hno => hno hslow

end

/-- The part with the mode OFF, before the drive is stopped: a latched roll drive is released (R112). -/
def offAsked (b : State) : State :=
  { b with roll := rollReleased b.ctl.partTime b.roll, drive := { b.drive with mode := .off } }

/-- The same, with the report of the release. -/
def offReleased (b : State) : State := rollRelease .release { b with drive := { b.drive with mode := .off } }

section
variable {b : State}

theorem offAsked_reported (b : State) : Reported (offAsked b) (offReleased b) :=
  rollRelease_reported .release { b with drive := { b.drive with mode := .off } }

@[simp] theorem offReleased_drive (b : State) : (offReleased b).drive = { b.drive with mode := .off } := rollRelease_drive _ _

@[simp] theorem offReleased_ctl (b : State) : (offReleased b).ctl = b.ctl := rollRelease_ctl _ _

@[simp] theorem offReleased_debris (b : State) : (offReleased b).debris = b.debris := rollRelease_debris _ _

theorem suctionOff_eq (b : State) : suctionOff b =
    if (offReleased b).debris.cal.isSome then
      reportMove .calibration b (driveStop (endCalibration .aborted (offReleased b)))
    else if (offReleased b).drive.state = .fault then reportMove .release b (releaseFault (offReleased b))
    else if (offReleased b).drive.owner = .host then reportMove .request b (driveStop (offReleased b))
    else offReleased b := rfl

theorem suctionOff_reported (hcal : b.debris.cal = none) :
    Reported (if b.drive.state = .fault then releaseFault (offReleased b)
      else if b.drive.owner = .host then driveStop (offReleased b)
      else offReleased b) (suctionOff b) := by
  rw [suctionOff_eq, offReleased_debris, offReleased_drive]
  rw [if_neg (c := b.debris.cal.isSome = true) (by rw [hcal]; decide)]
  split
  · exact reportMove_reported _ _ _
  · split
    · exact reportMove_reported _ _ _
    · exact .refl _

section
variable (hcal : b.debris.cal = none)
include hcal

theorem suctionOff_off (hoff : b.drive.state = .off) : Reported (offAsked b) (suctionOff b) := by
  have hreported := suctionOff_reported hcal
  rw [if_neg (by rw [hoff]; decide)] at hreported
  have hstop : driveStop (offReleased b)
      = offReleased b := by
    unfold driveStop
    rw [offReleased_drive]
    dsimp only
    rw [hoff]
  rw [hstop, ite_self] at hreported
  exact (offAsked_reported b).trans hreported

section
variable (howner : b.drive.owner = .host)
include howner

theorem suctionOff_stops (hfault : b.drive.state ≠ .fault) :
    Reported (driveStop (offReleased b)) (suctionOff b) := by
  have hreported := suctionOff_reported hcal
  rw [if_neg hfault, if_pos howner] at hreported
  exact hreported

theorem suctionOff_start (h : b.drive.state = .align ∨ b.drive.state = .ramp) :
    Reported { offAsked b with drive := coasted b.ctl.partTime (offAsked b).drive } (suctionOff b) := by
  have hstops := suctionOff_stops hcal howner (by rcases h with h | h <;> rw [h] <;> decide)
  rw [driveStop_of_start (congrArg Ctl.partTime (offReleased_ctl b)) (by rwa [offReleased_drive])] at hstops
  exact ((offAsked_reported b).setDrive _).trans hstops

theorem suctionOff_coast (h : b.drive.state = .coast) :
    Reported { offAsked b with drive := coastStopped (offAsked b).drive } (suctionOff b) := by
  have hstops := suctionOff_stops hcal howner (by rw [h]; decide)
  rw [driveStop_of_coast (by rwa [offReleased_drive])] at hstops
  exact ((offAsked_reported b).setDrive _).trans hstops

theorem suctionOff_releases (h : b.drive.state = .fault) :
    Reported (releaseFault (offReleased b)) (suctionOff b) ∧
      (offReleased b).runRequest = false := by
  have hreported := suctionOff_reported hcal
  rw [if_pos h] at hreported
  exact ⟨hreported, by simp [State.runRequest, howner]⟩

theorem suctionOff_slow (h : b.drive.state = .fault) (hnew : b.drive.released ≠ some true)
    (hslow : b.drive.faultTimer = none ∨ ∃ v, b.drive.speed = some v ∧ v < 3000) :
    Reported { offAsked b with drive := faultLeft b.ctl.partTime (offAsked b).drive } (suctionOff b) := by
  obtain ⟨hreported, hrequest⟩ := suctionOff_releases hcal howner h
  rw [releaseFault_of_slow hrequest (congrArg Ctl.partTime (offReleased_ctl b)) (by rwa [offReleased_drive])
    (by rwa [offReleased_drive])] at hreported
  exact ((offAsked_reported b).setDrive _).trans hreported

theorem suctionOff_held (h : b.drive.state = .fault) (hheld : b.drive.released = some true ∨
      ¬ (b.drive.faultTimer = none ∨ ∃ v, b.drive.speed = some v ∧ v < 3000)) :
    Reported { offAsked b with drive := { (offAsked b).drive with released := some true, owner := .none } }
      (suctionOff b) := by
  obtain ⟨hreported, hrequest⟩ := suctionOff_releases hcal howner h
  rw [releaseFault_of_held hrequest (by rwa [offReleased_drive])] at hreported
  exact ((offAsked_reported b).setDrive fun d => { d with released := some true, owner := .none }).trans hreported

/-- OFF in RUN ends the roll with the run (R14, R107). -/
theorem suctionOff_run (h : b.drive.state = .run) :
    let u := suctionOff b
    u.drive = coastedRun b.ctl.partTime { b.drive with mode := .off } ∧ u.gov = b.gov.leaveRun ∧ u.roll.state = .off ∧
      u.debris = { b.debris with windowTimer := none, c := 0 } ∧ u.pack = b.pack ∧ u.prot = b.prot ∧ u.att = b.att ∧
      u.stick = b.stick ∧ u.store = b.store ∧ u.evacSet = b.evacSet := by
  intro u
  have hstops := (suctionOff_stops hcal howner (by rw [h]; decide)).state
  have hrun : (offReleased b).drive.state = .run := by
    rw [offReleased_drive]
    exact h
  have hdrive := stopDriving_drive_run hrun
  obtain ⟨hgov, hroll, hdebris⟩ := stopDriving_of_run hrun (rollRelease_held _ _)
  rw [← driveStop_of_run hrun, offReleased_ctl, offReleased_drive] at hdrive
  rw [← driveStop_of_run hrun] at hgov hroll hdebris
  show (suctionOff b).drive = _ ∧ (suctionOff b).gov = _ ∧ (suctionOff b).roll.state = _ ∧ (suctionOff b).debris = _ ∧
    (suctionOff b).pack = _ ∧ (suctionOff b).prot = _ ∧ (suctionOff b).att = _ ∧ (suctionOff b).stick = _ ∧
    (suctionOff b).store = _ ∧ (suctionOff b).evacSet = _
  rw [hstops]
  refine ⟨hdrive, hgov.trans ?_, hroll, hdebris.trans ?_, ?_, ?_, ?_, ?_, ?_, ?_⟩ <;> simp [offReleased]

end

end

/-- The part with the mode OFF and the calibration ended, before the drive is stopped (R93). -/
def calibrationOff (b : State) : State :=
  { offAsked b with debris := { b.debris with cal := none }, gov := { b.gov with pHold := none } }

theorem suctionOff_calibrating (hcal : b.debris.cal.isSome = true) :
    ∃ m, Reported (calibrationOff b) m ∧ Reported (driveStop m) (suctionOff b) := by
  have hended := (endCalibration_reported (r := .aborted)
    (s := offReleased b) (by rwa [offReleased_debris]))
  refine ⟨endCalibration .aborted (offReleased b), ?_, ?_⟩
  · exact ((offAsked_reported b).map (f := fun w =>
      { w with debris := { w.debris with cal := none }, gov := { w.gov with pHold := none } }) fun _ _ => rfl).trans hended
  · rw [suctionOff_eq, offReleased_debris]
    rw [if_pos (c := b.debris.cal.isSome = true) hcal]
    exact reportMove_reported _ _ _

theorem driveStop_pHold {s : State} (h : s.gov.pHold = none) : (driveStop s).gov.pHold = none := by
  have hgov : (driveStop s).gov = s.gov ∨ (driveStop s).gov = s.gov.leaveRun := by
    unfold driveStop
    split
    case h_2 | h_3 | h_4 =>
      by_cases hrun : s.drive.state = .run
      · rw [stopDriving, leaveIfRun_of_run _ hrun]
        exact .inr (leaveRun_gov _ _)
      · rw [stopDriving, leaveIfRun_of_not_run _ hrun]
        exact .inl rfl
    case h_6 => exact .inl (releaseFault_gov s)
    all_goals exact .inl rfl
  rcases hgov with hgov | hgov <;> rw [hgov]
  · exact h
  · rfl

section
variable (hcal : b.debris.cal.isSome = true)
include hcal

theorem suctionOff_ends_calibration : (suctionOff b).debris.cal = none ∧ (suctionOff b).gov.pHold = none ∧
    (suctionOff b).drive.mode = .off ∧ (suctionOff b).prot = b.prot := by
  obtain ⟨m, hm, hstops⟩ := suctionOff_calibrating hcal
  have hhold : m.gov.pHold = none := by rw [hm.state]; rfl
  rw [hstops.state]
  refine ⟨?_, driveStop_pHold hhold, ?_, ?_⟩
  · exact (driveStop_cal m).trans (by rw [hm.state]; rfl)
  · exact (driveStop_mode m).trans (by rw [hm.state]; rfl)
  · exact (driveStop_prot m).trans (by rw [hm.state]; rfl)

theorem suctionOff_calibrating_start (h : b.drive.state = .align ∨ b.drive.state = .ramp) :
    Reported { calibrationOff b with drive := coasted b.ctl.partTime (calibrationOff b).drive } (suctionOff b) := by
  obtain ⟨m, hm, hstops⟩ := suctionOff_calibrating hcal
  have hdrive : m.drive = (calibrationOff b).drive := by rw [hm.state]
  have hnow : m.ctl.partTime = b.ctl.partTime := by rw [hm.state]; rfl
  rw [driveStop_of_start hnow (by rw [hdrive]; exact h)] at hstops
  exact (hm.setDrive _).trans hstops

theorem suctionOff_calibrating_run (h : b.drive.state = .run) :
    (suctionOff b).drive.state = .coast ∧ (suctionOff b).drive.owner = .none ∧ (suctionOff b).drive.duty = 0 ∧
      (suctionOff b).drive.lastRunDuty = b.drive.duty ∧ (suctionOff b).drive.speedAtStop = b.drive.speed ∧
      (suctionOff b).debris.windowTimer = none := by
  obtain ⟨m, hm, hstops⟩ := suctionOff_calibrating hcal
  have hdrive : m.drive = (calibrationOff b).drive := by rw [hm.state]
  have hrun : m.drive.state = .run := by rw [hdrive]; exact h
  have hcoasted := stopDriving_drive_run hrun
  have hwindow : (stopDriving m).debris.windowTimer = none := by
    unfold stopDriving
    rw [leaveIfRun_of_run _ hrun]
    simp
  rw [← driveStop_of_run hrun, hdrive] at hcoasted
  rw [← driveStop_of_run hrun] at hwindow
  rw [hstops.state]
  dsimp only
  rw [hcoasted]
  exact ⟨rfl, rfl, rfl, rfl, rfl, hwindow⟩

end

end

/-! ### The request (R23) -/

theorem suctionMode_read (mode : SuctionMode) : suctionModeOf (byteAt [BitVec.ofNat 8 (suctionModeCode mode)] 0) = some mode := by
  cases mode <;> rfl

theorem suctionMode_outOfRange {m : Byte} (h : 4 < m.toNat) : suctionModeOf (byteAt [m] 0) = none := by
  obtain ⟨n, hn⟩ : ∃ n, m.toNat = n + 5 := ⟨m.toNat - 5, by omega⟩
  show suctionModeOf m.toNat = none
  rw [hn]
  rfl

/-- The stage of SET_SUCTION for a mode other than OFF. -/
theorem setSuctionSpec_act_on {mode : SuctionMode} (hmode : mode ≠ .off) (b : State) :
    setSuctionSpec.act [BitVec.ofNat 8 (suctionModeCode mode)] b
      = if b.drive.state = .fault ∨ b.stick.state ≠ .detached ∨ b.prot.dischargeOk = false then refuse .denied b
        else ⟨.ok, suctionOn mode b, []⟩ := by
  unfold setSuctionSpec
  dsimp only
  rw [suctionMode_read]
  cases mode with
  | off => exact absurd rfl hmode
  | eco | med | boost | auto => rfl

theorem setSuctionSpec_act_off (b : State) : setSuctionSpec.act [0x00] b = ⟨.ok, suctionOff b, []⟩ := rfl

theorem setSuctionSpec_act_outOfRange {m : Byte} (h : 4 < m.toNat) (b : State) :
    setSuctionSpec.act [m] b = refuse .outOfRange b := by
  unfold setSuctionSpec
  dsimp only
  rw [suctionMode_outOfRange h]

section
variable {s : State} {kind : Byte} {rest : List HostFrame}

theorem exec_setSuction_denied {mode : SuctionMode} (hmode : mode ≠ .off)
    (heads : Spec.Heads s 0x10 kind [BitVec.ofNat 8 (suctionModeCode mode)] rest) (hrole : s.ctl.role = .stick)
    (h : s.drive.state = .fault ∨ s.stick.state ≠ .detached ∨ s.prot.dischargeOk = false) :
    exec .setSuction s = .next (settle (Spec.reply kind 0x16 [] (beginTaking rest s))) := by
  have hact := setSuctionSpec_act_on hmode (beginTaking rest s)
  rw [beginTaking_drive, beginTaking_stick, beginTaking_prot, if_pos h] at hact
  exact request_acts_refused (q := setSuctionSpec) (r := .denied) heads rfl rfl (accepts_stick hrole rfl) rfl rfl hact

theorem exec_setSuction_on {mode : SuctionMode} (hmode : mode ≠ .off)
    (heads : Spec.Heads s 0x10 kind [BitVec.ofNat 8 (suctionModeCode mode)] rest) (hrole : s.ctl.role = .stick)
    (hfault : s.drive.state ≠ .fault) (hdetached : s.stick.state = .detached) (hok : s.prot.dischargeOk = true) :
    exec .setSuction s = .next (settle (Spec.reply kind 0x00 [] (suctionOn mode (beginTaking rest s)))) := by
  have hact := setSuctionSpec_act_on hmode (beginTaking rest s)
  rw [beginTaking_drive, beginTaking_stick, beginTaking_prot, if_neg (by simp [hfault, hdetached, hok])] at hact
  exact request_acts_ok (q := setSuctionSpec) heads rfl rfl (accepts_stick hrole rfl) rfl rfl hact

theorem exec_setSuction_off (heads : Spec.Heads s 0x10 kind [0x00] rest) (hrole : s.ctl.role = .stick) :
    exec .setSuction s = .next (settle (Spec.reply kind 0x00 [] (suctionOff (beginTaking rest s)))) :=
  request_acts_ok (q := setSuctionSpec) heads rfl rfl (accepts_stick hrole rfl) rfl rfl (setSuctionSpec_act_off _)

end

/-- Settles O33: each clause by the drive's state and the calibration. -/
theorem setSuctionActs : Obligations.SetSuctionActs := by
  refine ⟨?on, ?offInRun, ?off, ?refused⟩
  case on =>
    intro s kind rest mode heads hrole hmode b
    have hd : s.drive = b.drive := (beginTaking_drive rest s).symm
    have hnow : s.ctl.partTime = b.ctl.partTime := (beginTaking_ctl_partTime rest s).symm
    have hdebris : s.debris = b.debris := (beginTaking_debris rest s).symm
    have hprot : s.prot = b.prot := (beginTaking_prot rest s).symm
    have hsession : s.stick = b.stick := (beginTaking_stick rest s).symm
    have hactive : b.ctl.power = .active := heads_active heads
    have hstick : b.ctl.role = .stick := (beginTaking_ctl_role rest s).trans hrole
    have htaken := exec_setSuction_on hmode heads hrole
    refine ⟨exec_setSuction_denied hmode heads hrole, ?_⟩
    change _ → _ → _ → exec .setSuction s = .next (settle (Spec.reply kind 0x00 [] (suctionOn mode b))) at htaken
    clear_value b
    rw [hd, hsession, hprot] at htaken
    rw [hd, hnow, hdebris, hprot, hsession]
    refine ⟨fun hdetached hok hcal => ⟨fun hoff => ?_, fun hcoast => ?_, fun hdrives => ?_⟩,
      fun hdetached hok hcal hdrives => ?_⟩
    · exact ⟨_, htaken (by rw [hoff]; decide) hdetached hok,
        leavesAs_reported (suctionOn_off hactive hstick hmode hdetached hok hcal hoff)⟩
    · intro fast started
      refine ⟨_, htaken (by rw [hcoast]; decide) hdetached hok, fun hcatch => ?_, fun hno hfast => ?_, fun hno hslow => ?_⟩
      · exact leavesAs_reported (suctionOn_catching (mode := mode) hactive hcal hcoast hcatch)
      · exact leavesAs_reported (suctionOn_fast (mode := mode) hactive hcal hcoast hno hfast.1 hfast.2)
      · exact leavesAs_reported (suctionOn_slow (mode := mode) hactive hcal hcoast hno hslow)
    · rw [htaken (fun hfault => by rw [hfault] at hdrives; exact absurd hdrives (by decide)) hdetached hok,
        suctionOn_drives hcal hdrives]
    · exact ⟨_, htaken (fun hfault => by rw [hfault] at hdrives; exact absurd hdrives (by decide)) hdetached hok,
        leavesAs_reported (suctionOn_takeOver hcal hdrives)⟩
  case offInRun =>
    intro s kind rest heads hrole hrun howner hcal
    obtain ⟨hdrive, hgov, hroll, hdebris, hpack, hprot, hatt, hstick, hstore, hevac⟩ :=
      suctionOff_run (b := beginTaking rest s) (by rwa [beginTaking_debris]) (by rwa [beginTaking_drive])
        (by rwa [beginTaking_drive])
    refine ⟨_, exec_setSuction_off heads hrole, ?_, ?_, hroll, ?_, ?_, ?_, ?_, ?_, ?_, ?_⟩
    · rw [hdrive, beginTaking_drive, beginTaking_ctl_partTime]
      rfl
    · rw [hgov, beginTaking_gov]
      rfl
    · rw [hdebris, beginTaking_debris]
    · rw [hpack, beginTaking_pack_q]
    · rw [hprot, beginTaking_prot]
    · rw [hatt, beginTaking_att]
    · rw [hstick, beginTaking_stick]
    · rw [hstore, beginTaking_store]
    · rw [hevac, beginTaking_evacSet]
  case off =>
    intro s kind rest heads hrole b
    have hd : s.drive = b.drive := (beginTaking_drive rest s).symm
    have hnow : s.ctl.partTime = b.ctl.partTime := (beginTaking_ctl_partTime rest s).symm
    have hdebris : s.debris = b.debris := (beginTaking_debris rest s).symm
    have hroll : s.roll = b.roll := (beginTaking_roll rest s).symm
    have hprot : s.prot = b.prot := (beginTaking_prot rest s).symm
    have htaken := exec_setSuction_off heads hrole
    change exec .setSuction s = .next (settle (Spec.reply kind 0x00 [] (suctionOff b))) at htaken
    have hoff : Spec.offDrive s = Spec.offDrive b := by
      rw [Spec.offDrive, hd, hnow]
      rfl
    clear_value b
    rw [hoff, hd, hnow, hdebris, hroll, hprot]
    intro now roll slow coasting
    refine ⟨_, htaken, fun hcal hst => leavesAs_reported (suctionOff_off hcal hst),
      fun hcal howner hst => leavesAs_reported (suctionOff_start hcal howner hst),
      fun hcal howner hst => leavesAs_reported (suctionOff_coast hcal howner hst),
      fun hcal howner hst => ⟨fun hnew hslow => leavesAs_reported (suctionOff_slow hcal howner hst hnew hslow),
        fun hheld => leavesAs_reported (suctionOff_held hcal howner hst hheld)⟩, fun hcal => ?_⟩
    obtain ⟨hcal', hhold, hmode, hp⟩ := suctionOff_ends_calibration hcal
    exact ⟨hcal', hhold, hmode, hp, fun hst => leavesAs_reported (suctionOff_calibrating_start hcal hst),
      fun hst => suctionOff_calibrating_run hcal hst⟩
  case refused =>
    intro s kind p rest heads hrole
    refine ⟨fun hl => ?_, fun m hp hm => ?_⟩
    · exact request_badLength (q := setSuctionSpec) heads rfl rfl (accepts_stick hrole rfl) (lengthIs_of_ne hl)
    · subst hp
      exact request_acts_refused (q := setSuctionSpec) (r := .outOfRange) heads rfl rfl (accepts_stick hrole rfl) rfl rfl
        (setSuctionSpec_act_outOfRange hm _)

end Sys2Proof.Machine

/-! The roll drive (sections 5.3 to 5.5). -/

namespace Sys2Proof.Machine

open Sys2Proof

/-! ### Readings and shorts (R106, R111) -/

/-- An event that logs one fault entry in a state with the ring and the time as before (R169). -/
theorem appendFault_logged (src : FaultSource) (code : FaultCode) (value : Reading) (second : Option Reading) {s u : State}
    (h : u.ctl = s.ctl) : Spec.Logged s (appendFault src code value second u) src code value.fit16 (second.map Reading.fit16) := by
  refine ⟨?_, ?_, ?_⟩
  · rw [appendFault_logs, ← h]
    rfl
  · rw [← h]
    simp
  · simp

/-- What follows an event keeps the entry logged last. -/
theorem Logged.settled {s t : State} {src : FaultSource} {code : FaultCode} {value : Reading} {second : Option Reading}
    (h : Spec.Logged s t src code value second) : Spec.Logged s (settle t) src code value second := by
  obtain ⟨hring, hseq, hnew⟩ := h
  exact ⟨by rwa [settle_ctl_ring], by rwa [settle_ctl_nextSeq], by rwa [settle_host_faultNew]⟩

/-- Reports handed over keep the entry logged last. -/
theorem Logged.reported {s t u : State} {src : FaultSource} {code : FaultCode} {value : Reading} {second : Option Reading}
    (h : Spec.Logged s t src code value second) (hu : Reported t u) : Spec.Logged s u src code value second := by
  obtain ⟨hring, hseq, hnew⟩ := h
  refine ⟨?_, ?_, hu.faultNew.trans hnew⟩
  · rw [hu.state]; exact hring
  · rw [hu.state]; exact hseq

theorem packKept_settle {s t : State} (h : t.pack = s.pack) : Spec.PackKept s (settle t) := by
  rcases (settle_leavesAs t).pack with hp | ⟨hs, hp⟩
  · exact .inl (hp.trans h)
  · exact .inr ⟨hs, by rw [hp, h]⟩

theorem exec_rollCurrentReading (r : Reading) {s : State} (hpower : s.ctl.power ≠ .ship)
    (hdrives : s.roll.state.drives = true) : exec (.rollCurrentReading r) s = .next (settle (rollReadingTaken r s)) :=
  event_occurs hdrives hpower

theorem rollReadingTaken_within {r : Reading} (s : State) (h : (rollReading r).gt 8000 = false) :
    rollReadingTaken r s = rollSample (rollReading r) s := by
  unfold rollReadingTaken
  dsimp only
  rw [h]
  rfl

theorem rollReadingTaken_beyond {r : Reading} (s : State) (h : (rollReading r).gt 8000 = true) :
    rollReadingTaken r s = rollShort (rollReading r) (rollSample (rollReading r) s) := by
  unfold rollReadingTaken
  dsimp only
  rw [h]
  rfl

/-- The roll drive at the entry to FAULT (R111). -/
def rollFaulted (now : Ms) (r : Roll) : Roll :=
  { r with state := .fault, appliedDuty := 0, jamTimer := none, waitTimer := none, faultCause := some .short,
           enteredAt := now }

theorem rollShort_reported (r : Reading) (s : State) :
    Reported (appendFault .channelB .rollShort r (some (.num (rollStateCode s.roll.state)))
      { s with roll := rollFaulted s.ctl.partTime s.roll }) (rollShort r s) := reportRoll_reported _ _

theorem rollStateCode_le (st : RollState) : rollStateCode st ≤ 5 := by
  cases st <;> decide

/-- A short at once: FAULT with its entry, and nothing else touched (R111, R113). -/
theorem rollShort_effect (r : Reading) {s u : State} (hctl : u.ctl = s.ctl) (hroll : u.roll = s.roll)
    (hdrive : u.drive = s.drive) (hpack : u.pack = s.pack) (hprot : u.prot = s.prot) :
    let t := settle (rollShort r u)
    t.roll = rollFaulted s.ctl.partTime s.roll ∧ t.drive = s.drive ∧ Spec.PackKept s t ∧ t.prot = s.prot ∧
      Spec.Logged s t .channelB .rollShort r.fit16 (some (.num (rollStateCode s.roll.state))) := by
  intro t
  have hreported := rollShort_reported r u
  have hlogged := Logged.reported (appendFault_logged .channelB .rollShort r (some (.num (rollStateCode u.roll.state)))
    (s := s) (u := { u with roll := rollFaulted u.ctl.partTime u.roll }) hctl) hreported
  have hcode := rollStateCode_le s.roll.state
  rw [hroll, Option.map_some, Reading.fit16_num (by omega) (by omega)] at hlogged
  have hstate := hreported.state
  refine ⟨?_, ?_, packKept_settle ?_, ?_, Logged.settled hlogged⟩
  · rw [settle_roll, hstate]
    simp [hroll, hctl]
  · rw [settle_drive, hstate]
    simp [hdrive]
  · rw [hstate]
    simp [hpack]
  · rw [settle_prot, hstate]
    simp [hprot]

/-! ### The hand-over (R107 to R110) -/

/-- The roll grant and the roll duty handed over, before the run condition is judged. -/
def rollHanded (grant duty : Nat) (s : State) : State :=
  { s with roll := { s.roll with grant := grant, grantedDuty := duty } }

theorem rollCondition_iff (s : State) : s.rollCondition = true ↔
    s.drive.state = .run ∧ s.rollEntry = true ∧ 0 < s.roll.grant ∧ s.debris.cal = none := by
  simp [State.rollCondition, and_assoc]

section
variable {grant duty : Nat} {s : State}

theorem rollHandOver_off (h : s.roll.state = .off) : rollHandOver grant duty s
    = if (rollHanded grant duty s).rollCondition then rollEnterSpinup (rollHanded grant duty s)
      else rollHanded grant duty s := by
  unfold rollHandOver
  dsimp only
  split
  case h_1 => rfl
  all_goals simp_all only [reduceCtorEq]

theorem rollHandOver_spinup (h : s.roll.state = .spinup) : rollHandOver grant duty s
    = if (rollHanded grant duty s).rollCondition then rollSpinStep (rollHanded grant duty s)
      else rollEnterOff false (rollHanded grant duty s) := by
  unfold rollHandOver
  dsimp only
  split
  case h_2 => rfl
  all_goals simp_all only [reduceCtorEq]

theorem rollHandOver_run (h : s.roll.state = .run) : rollHandOver grant duty s
    = if (rollHanded grant duty s).rollCondition then rollRunStep (rollHanded grant duty s)
      else rollEnterOff false (rollHanded grant duty s) := by
  unfold rollHandOver
  dsimp only
  split
  case h_3 => rfl
  all_goals simp_all only [reduceCtorEq]

theorem rollHandOver_jamWait (h : s.roll.state = .jamWait) : rollHandOver grant duty s
    = rollEvaluate (rollHanded grant duty s) := by
  unfold rollHandOver
  dsimp only
  split
  case h_4 => rfl
  all_goals simp_all only [reduceCtorEq]

theorem rollHandOver_held (h : s.roll.state = .jamLatched ∨ s.roll.state = .fault) : rollHandOver grant duty s
    = rollHanded grant duty s := by
  unfold rollHandOver
  dsimp only
  split
  case h_5 | h_6 => rfl
  all_goals simp_all only [reduceCtorEq, or_self]

/-- Without the run condition a roll drive that runs is stopped, with its jam count kept (R107, R108). -/
theorem rollHandOver_stops (hno : (rollHanded grant duty s).rollCondition = false)
    (h : s.roll.state = .spinup ∨ s.roll.state = .run ∨ s.roll.state = .jamWait) :
    rollHandOver grant duty s = rollEnterOff false (rollHanded grant duty s) := by
  rcases h with h | h | h
  · rw [rollHandOver_spinup h, hno]
    rfl
  · rw [rollHandOver_run h, hno]
    rfl
  · have hruns : (rollHanded grant duty s).roll.state.runs = true := by
      show s.roll.state.runs = true
      rw [h]
      rfl
    rw [rollHandOver_jamWait h, rollEvaluate, hno, hruns]
    rfl

/-- The drive applies the granted duty in RUN, before a jam is judged (R109). -/
def rollRan (now : Ms) (r : Roll) : Roll :=
  { r with appliedDuty := r.grantedDuty, jamCount := if 10000 ≤ (now - r.enteredAt).toNat then 0 else r.jamCount }

theorem rollRunStep_eq (s : State) : rollRunStep s =
    let judged := holdTimer s.now s.roll.jamTimer (s.roll.current.gt s.jamLimit) 100
    let t : State := { s with roll := { rollRan s.ctl.partTime s.roll with jamTimer := judged.1 } }
    if judged.2 then rollJam t else t := rfl

theorem rollHandOver_runs (hyes : (rollHanded grant duty s).rollCondition = true) (h : s.roll.state = .run) :
    rollHandOver grant duty s = rollRunStep (rollHanded grant duty s) := by
  rw [rollHandOver_run h, hyes]
  rfl

/-- In RUN with no jam that has qualified the roll goes on (R109). -/
theorem rollRunStep_goes {timer : Option Ms}
    (h : holdTimer s.now s.roll.jamTimer (s.roll.current.gt s.jamLimit) 100 = (timer, false)) :
    rollRunStep s = { s with roll := { rollRan s.ctl.partTime s.roll with jamTimer := timer } } := by
  rw [rollRunStep_eq, h]
  rfl

theorem rollRunStep_jams {t0 : Ms} (hjam : s.roll.current.gt s.jamLimit = true) (ht : s.roll.jamTimer = some t0)
    (hle : 100 ≤ (s.ctl.partTime - t0).toNat) :
    rollRunStep s = rollJam { s with roll := { rollRan s.ctl.partTime s.roll with jamTimer := some t0 } } := by
  rw [rollRunStep_eq, holdTimer_passes (now := s.now) hjam ht hle]
  rfl

/-! ### A jam (R110, R113) -/

theorem rollJam_waits (h : s.roll.jamCount < 2) : (rollJam s).roll = { s.roll with
    state := .jamWait, appliedDuty := 0, jamTimer := none, enteredAt := s.ctl.partTime, jamCount := s.roll.jamCount + 1,
    waitTimer := some (s.ctl.partTime + 2000) } := by
  unfold rollJam
  rw [if_pos h, (reportRoll_reported _ _).state]
  rfl

theorem rollJam_latches (h : ¬ s.roll.jamCount < 2) :
    Reported (appendFault .channelB .rollJam s.roll.current ((matchIndex s.att.result).map (fun i => Reading.num i))
      { s with roll := { s.roll with state := .jamLatched, appliedDuty := 0, jamTimer := none, waitTimer := none,
                                     enteredAt := s.ctl.partTime, jamCount := 3 } }) (rollJam s) := by
  unfold rollJam
  rw [if_neg h]
  exact reportRoll_reported _ _

theorem rollJam_latched_roll (h : ¬ s.roll.jamCount < 2) : (rollJam s).roll = { s.roll with
    state := .jamLatched, appliedDuty := 0, jamTimer := none, waitTimer := none, enteredAt := s.ctl.partTime,
    jamCount := 3 } := by
  rw [(rollJam_latches h).state]
  simp

end

/-! ### What a hand-over leaves -/

/-- A work of the roll drive leaves the other blocks and what was handed over. -/
structure RollActs (s u : State) : Prop where
  drive : u.drive = s.drive
  gov : u.gov = s.gov
  debris : u.debris = s.debris
  grant : u.roll.grant = s.roll.grant
  duty : u.roll.grantedDuty = s.roll.grantedDuty
  current : u.roll.current = s.roll.current
  pack : u.pack = s.pack
  role : u.ctl.role = s.ctl.role
  govSat : u.host.govSat = s.host.govSat

theorem RollActs.refl (s : State) : RollActs s s := ⟨rfl, rfl, rfl, rfl, rfl, rfl, rfl, rfl, rfl⟩

theorem RollActs.trans {s u v : State} (h : RollActs s u) (k : RollActs u v) : RollActs s v :=
  ⟨k.drive.trans h.drive, k.gov.trans h.gov, k.debris.trans h.debris, k.grant.trans h.grant, k.duty.trans h.duty,
    k.current.trans h.current, k.pack.trans h.pack, k.role.trans h.role, k.govSat.trans h.govSat⟩

theorem rollJam_acts (s : State) : RollActs s (rollJam s) := by
  by_cases h : s.roll.jamCount < 2
  · have hroll := rollJam_waits h
    unfold rollJam at hroll ⊢
    rw [if_pos h] at hroll ⊢
    exact ⟨by simp [reportRoll], by simp [reportRoll], by simp [reportRoll], by rw [hroll], by rw [hroll], by rw [hroll],
      by simp [reportRoll], by simp [reportRoll], by simp [reportRoll]⟩
  · have hroll := rollJam_latched_roll h
    unfold rollJam at hroll ⊢
    rw [if_neg h] at hroll ⊢
    exact ⟨by simp [reportRoll], by simp [reportRoll], by simp [reportRoll], by rw [hroll], by rw [hroll], by rw [hroll],
      by simp [reportRoll], by simp [reportRoll], by simp [reportRoll]⟩

theorem rollRunStep_acts (s : State) : RollActs s (rollRunStep s) := by
  rw [rollRunStep_eq]
  dsimp only
  split
  · refine .trans ?_ (rollJam_acts _)
    exact ⟨rfl, rfl, rfl, rfl, rfl, rfl, rfl, rfl, rfl⟩
  · exact ⟨rfl, rfl, rfl, rfl, rfl, rfl, rfl, rfl, rfl⟩

theorem rollSpinStep_acts (s : State) : RollActs s (rollSpinStep s) := by
  unfold rollSpinStep
  dsimp only
  split <;> exact ⟨rfl, rfl, rfl, rfl, rfl, rfl, rfl, rfl, rfl⟩

theorem rollEnterOff_acts (clear : Bool) (s : State) : RollActs s (rollEnterOff clear s) :=
  ⟨rfl, rfl, rfl, rfl, rfl, rfl, rfl, rfl, rfl⟩

theorem rollHandOver_acts (grant duty : Nat) (s : State) :
    RollActs (rollHanded grant duty s) (rollHandOver grant duty s) := by
  cases h : s.roll.state with
  | off =>
    rw [rollHandOver_off h]
    split
    · exact ⟨rfl, rfl, rfl, rfl, rfl, rfl, rfl, rfl, rfl⟩
    · exact .refl _
  | spinup =>
    rw [rollHandOver_spinup h]
    split
    · exact rollSpinStep_acts _
    · exact rollEnterOff_acts _ _
  | run =>
    rw [rollHandOver_run h]
    split
    · exact rollRunStep_acts _
    · exact rollEnterOff_acts _ _
  | jamWait =>
    rw [rollHandOver_jamWait h, rollEvaluate]
    split
    · exact rollEnterOff_acts _ _
    · exact .refl _
  | jamLatched => rw [rollHandOver_held (.inl h)]; exact .refl _
  | fault => rw [rollHandOver_held (.inr h)]; exact .refl _

/-- What a hand-over makes of the roll drive follows from the roll drive, the time, the attachment table, the drive's state
and the calibration alone. -/
structure RollSees (s u : State) : Prop where
  roll : u.roll = s.roll
  now : u.ctl.partTime = s.ctl.partTime
  att : u.att = s.att
  drive : u.drive.state = s.drive.state
  cal : u.debris.cal = s.debris.cal

section
variable {s u : State}

theorem RollSees.handed (h : RollSees s u) (grant duty : Nat) : RollSees (rollHanded grant duty s) (rollHanded grant duty u) :=
  ⟨by simp only [rollHanded, h.roll], h.now, h.att, h.drive, h.cal⟩

theorem RollSees.matched (h : RollSees s u) : u.matched = s.matched := by
  unfold State.matched
  rw [h.att]

theorem RollSees.condition (h : RollSees s u) : u.rollCondition = s.rollCondition := by
  simp only [State.rollCondition, State.rollEntry, h.matched, h.drive, h.roll, h.cal]

theorem RollSees.limit (h : RollSees s u) : u.jamLimit = s.jamLimit := by
  simp only [State.jamLimit, h.matched]

theorem rollJam_sees (h : RollSees s u) : (rollJam u).roll = (rollJam s).roll := by
  by_cases hc : s.roll.jamCount < 2
  · rw [rollJam_waits hc, rollJam_waits (by rw [h.roll]; exact hc), h.roll, h.now]
  · rw [rollJam_latched_roll hc, rollJam_latched_roll (by rw [h.roll]; exact hc), h.roll, h.now]

theorem rollRunStep_sees (h : RollSees s u) : (rollRunStep u).roll = (rollRunStep s).roll := by
  have hnow : u.now = s.now := h.now
  rw [rollRunStep_eq, rollRunStep_eq, hnow, h.roll, h.limit, h.now]
  dsimp only
  split
  · exact rollJam_sees ⟨rfl, h.now, h.att, h.drive, h.cal⟩
  · rfl

theorem rollSpinStep_sees (h : RollSees s u) : (rollSpinStep u).roll = (rollSpinStep s).roll := by
  have hsince : u.since u.roll.enteredAt = s.since s.roll.enteredAt := by rw [State.since, State.since, h.roll, h.now]
  have hnow : u.now = s.now := h.now
  unfold rollSpinStep
  dsimp only
  rw [hsince, h.roll, hnow]
  split <;> rfl

theorem rollEnterOff_sees (clear : Bool) (h : RollSees s u) : (rollEnterOff clear u).roll = (rollEnterOff clear s).roll := by
  have hnow : u.now = s.now := h.now
  simp only [rollEnterOff, rollStop, h.roll, hnow]

theorem rollHandOver_sees (grant duty : Nat) (h : RollSees s u) :
    (rollHandOver grant duty u).roll = (rollHandOver grant duty s).roll := by
  have hh := h.handed grant duty
  have hroll : ∀ st, s.roll.state = st → u.roll.state = st := fun st hst => by rw [h.roll, hst]
  cases hst : s.roll.state with
  | off =>
    rw [rollHandOver_off hst, rollHandOver_off (hroll _ hst), hh.condition]
    split
    · simp only [rollEnterSpinup, hh.roll, State.now, hh.now]
    · exact hh.roll
  | spinup =>
    rw [rollHandOver_spinup hst, rollHandOver_spinup (hroll _ hst), hh.condition]
    split
    · exact rollSpinStep_sees hh
    · exact rollEnterOff_sees _ hh
  | run =>
    rw [rollHandOver_run hst, rollHandOver_run (hroll _ hst), hh.condition]
    split
    · exact rollRunStep_sees hh
    · exact rollEnterOff_sees _ hh
  | jamWait =>
    rw [rollHandOver_jamWait hst, rollHandOver_jamWait (hroll _ hst), rollEvaluate, rollEvaluate, hh.condition, hh.roll]
    split
    · exact rollEnterOff_sees _ hh
    · exact hh.roll
  | jamLatched =>
    rw [rollHandOver_held (.inl hst), rollHandOver_held (.inl (hroll _ hst))]
    exact hh.roll
  | fault =>
    rw [rollHandOver_held (.inr hst), rollHandOver_held (.inr (hroll _ hst))]
    exact hh.roll

end

/-! ### The stages of a governor period (R27) -/

/-- Stages 1 to 5 in STICK role take the means of the readings and write the governor's figures. -/
theorem governorStages_stick (readings : List ChargerReadings) {s : State} (hrole : s.ctl.role = .stick) :
    ∃ g, governorStages readings s = { s with
        drive := { s.drive with busCurrent := busMean s.gov.busSamples }
        roll := { s.roll with current := meanReading s.gov.rollSamples }, gov := g } ∧
      g.rollSamples = CurrentSum.empty := by
  unfold governorStages
  rw [hrole]
  have hrole' : (rollTakeMean (driveTakeMean s)).ctl.role = .stick := hrole
  dsimp only
  unfold recomputeAllowance
  rw [hrole']
  exact ⟨_, rfl, rfl⟩

/-- Stage 6 writes the duty handed, the PI state and GOV_SAT. -/
theorem governorDuty_writes (first : Bool) (s : State) :
    ∃ held g sat, governorDuty first s = { s with
        drive := { s.drive with heldDuty := held }, gov := g, host := { s.host with govSat := sat } } ∧
      g.row2 = s.gov.row2 ∧ g.rollDuty = s.gov.rollDuty ∧ g.rollSamples = s.gov.rollSamples := by
  unfold governorDuty
  split
  · split
    · exact ⟨_, _, s.host.govSat, rfl, rfl, rfl, rfl⟩
    · exact ⟨_, _, _, rfl, rfl, rfl, rfl⟩
  · exact ⟨s.drive.heldDuty, _, s.host.govSat, rfl, rfl, rfl, rfl⟩

/-- What a stop leaves of the governor: all of it, or all but the PI state (R36). -/
theorem driveStop_gov (s : State) : (driveStop s).gov = s.gov ∨ (driveStop s).gov = s.gov.leaveRun := by
  unfold driveStop
  split
  case h_2 | h_3 | h_4 =>
    by_cases hrun : s.drive.state = .run
    · rw [stopDriving, leaveIfRun_of_run _ hrun]
      exact .inr (leaveRun_gov _ _)
    · rw [stopDriving, leaveIfRun_of_not_run _ hrun]
      exact .inl rfl
  case h_6 => exact .inl (releaseFault_gov s)
  all_goals exact .inl rfl

theorem endCalibration_gov (r : DoneResult) (s : State) :
    (endCalibration r s).gov = s.gov ∨ (endCalibration r s).gov = { s.gov with pHold := none } := by
  cases h : s.debris.cal with
  | none => exact .inl (by rw [endCalibration_of_none h])
  | some k => exact .inr (by rw [(endCalibration_reported (r := r) (s := s) (by rw [h]; rfl)).state])

/-- The coast for lack of grant leaves the grant table and the readings (R13). -/
theorem noGrantCoast_gov (s : State) : (noGrantCoast s).gov.row2 = s.gov.row2 ∧
    (noGrantCoast s).gov.row3 = s.gov.row3 ∧ (noGrantCoast s).gov.rollDuty = s.gov.rollDuty ∧
    (noGrantCoast s).gov.rollSamples = s.gov.rollSamples := by
  have hgov : (noGrantCoast s).gov = (driveStop (endCalibration .noSpeed s)).gov := reportDrive_gov _ _
  rw [hgov]
  rcases driveStop_gov (endCalibration .noSpeed s) with h | h <;> rw [h] <;>
    rcases endCalibration_gov .noSpeed s with k | k <;> rw [k] <;> exact ⟨rfl, rfl, rfl, rfl⟩

theorem noGrantCoast_drives (s : State) : (noGrantCoast s).drive.state.drives = false := by
  have hdrive : (noGrantCoast s).drive = (driveStop (endCalibration .noSpeed s)).drive := reportDrive_drive _ _
  rw [hdrive]
  exact driveStop_drives _

/-- The drive with the periods in a row without a grant counted (R13). -/
def grantCounted (grant : Nat) (s : State) : State :=
  { s with drive := { s.drive with zeroGrant := if grant = 0 then s.drive.zeroGrant + 1 else 0 } }

theorem handGrant_stopped (grant : Nat) {s : State} (h : s.drive.state ≠ .run) : handGrant grant s = s := if_neg h

theorem handGrant_running (grant : Nat) {s : State} (h : s.drive.state = .run) : handGrant grant s
    = if 10 ≤ (grantCounted grant s).drive.zeroGrant then noGrantCoast (grantCounted grant s)
      else grantCounted grant s := if_pos h

theorem handGrant_gov (grant : Nat) (s : State) : (handGrant grant s).gov.row2 = s.gov.row2 ∧
    (handGrant grant s).gov.row3 = s.gov.row3 ∧ (handGrant grant s).gov.rollDuty = s.gov.rollDuty ∧
    (handGrant grant s).gov.rollSamples = s.gov.rollSamples := by
  by_cases hrun : s.drive.state = .run
  · rw [handGrant_running grant hrun]
    by_cases hten : 10 ≤ (grantCounted grant s).drive.zeroGrant
    · rw [if_pos hten]
      exact noGrantCoast_gov (grantCounted grant s)
    · rw [if_neg hten]
      exact ⟨rfl, rfl, rfl, rfl⟩
  · rw [handGrant_stopped grant hrun]
    exact ⟨rfl, rfl, rfl, rfl⟩

/-- The drive stays in RUN at a grant: the count of periods without one alone is written (R13). -/
theorem handGrant_of_run {grant : Nat} {s : State} (h : (handGrant grant s).drive.state = .run) :
    handGrant grant s = grantCounted grant s := by
  by_cases hrun : s.drive.state = .run
  · rw [handGrant_running grant hrun] at h ⊢
    by_cases hten : 10 ≤ (grantCounted grant s).drive.zeroGrant
    · rw [if_pos hten] at h
      have hdrives := noGrantCoast_drives (grantCounted grant s)
      rw [h] at hdrives
      cases hdrives
    · rw [if_neg hten]
  · rw [handGrant_stopped grant hrun] at h
    exact absurd h hrun

theorem governorHands_stick {s : State} (hrole : s.ctl.role = .stick) : governorHands s
    = rollHandOver s.gov.row2.grant s.gov.rollDuty (handGrant s.gov.row3.grant s) := by
  unfold governorHands
  rw [hrole]

theorem exec_governorPeriod (readings : List ChargerReadings) {s : State} (hpower : s.ctl.power ≠ .ship)
    (htimer : s.gov.timer.isSome = true) :
    exec (.governorPeriod readings) s = .next (settle (governorPeriod readings s)) :=
  event_occurs htimer hpower

theorem rollEvaluate_current (s : State) : (rollEvaluate s).roll.current = s.roll.current := by
  unfold rollEvaluate
  split <;> rfl

theorem driveStop_rollCurrent (s : State) : (driveStop s).roll.current = s.roll.current := by
  unfold driveStop
  split
  case h_2 | h_3 | h_4 =>
    by_cases hrun : s.drive.state = .run
    · rw [stopDriving, leaveIfRun_of_run _ hrun]
      exact rollEvaluate_current _
    · rw [stopDriving, leaveIfRun_of_not_run _ hrun]
      rfl
  case h_6 => rw [releaseFault_roll]
  all_goals rfl

theorem handGrant_rollCurrent (grant : Nat) (s : State) : (handGrant grant s).roll.current = s.roll.current := by
  by_cases hrun : s.drive.state = .run
  · rw [handGrant_running grant hrun]
    split
    · unfold noGrantCoast
      rw [reportDrive_roll, driveStop_rollCurrent, endCalibration_roll]
      rfl
    · rfl
  · rw [handGrant_stopped grant hrun]

/-- The roll drive at a governor period in STICK role (R106, R107). -/
theorem governorPeriod_roll (readings : List ChargerReadings) {s : State} (hrole : s.ctl.role = .stick) :
    let t := governorPeriod readings s
    let u : State := { s with roll := { s.roll with current := meanReading s.gov.rollSamples } }
    t.roll.current = meanReading s.gov.rollSamples ∧ t.roll.grant = t.gov.row2.grant ∧
      t.roll.grantedDuty = t.gov.rollDuty ∧ t.gov.rollSamples = CurrentSum.empty ∧
      (t.drive.state = .run → t.roll = (rollHandOver t.gov.row2.grant t.gov.rollDuty u).roll) := by
  intro t u
  obtain ⟨g, hstages, hsamples⟩ := governorStages_stick readings hrole
  obtain ⟨held, g', sat, hduty, hrow2, hrollDuty, hsamples'⟩ :=
    governorDuty_writes (s.holding && s.gov.pHold.isNone) (governorStages readings s)
  have ht : t = governorEnds (governorHands (governorDuty (s.holding && s.gov.pHold.isNone) (governorStages readings s))) := rfl
  generalize governorDuty (s.holding && s.gov.pHold.isNone) (governorStages readings s) = m at hduty ht
  have hmrole : m.ctl.role = .stick := by rw [hduty, hstages]; exact hrole
  rw [governorHands_stick hmrole] at ht
  obtain ⟨hgov2, -, hgovDuty, hgovSamples⟩ := handGrant_gov m.gov.row3.grant m
  obtain ⟨hdrive, hgov, -, hgrant, hgranted, hcurrent⟩ :=
    rollHandOver_acts m.gov.row2.grant m.gov.rollDuty (handGrant m.gov.row3.grant m)
  have hmean := hcurrent.trans (handGrant_rollCurrent m.gov.row3.grant m)
  refine ⟨?_, ?_, ?_, ?_, fun hrun => ?_⟩
  · rw [ht]
    refine hmean.trans ?_
    rw [hduty, hstages]
  · rw [ht]
    show (rollHandOver _ _ _).roll.grant = (rollHandOver _ _ _).gov.row2.grant
    rw [hgrant, hgov]
    exact congrArg GrantRow.grant hgov2.symm
  · rw [ht]
    show (rollHandOver _ _ _).roll.grantedDuty = (rollHandOver _ _ _).gov.rollDuty
    rw [hgranted, hgov]
    exact hgovDuty.symm
  · rw [ht]
    show (rollHandOver _ _ _).gov.rollSamples = _
    rw [hgov]
    refine hgovSamples.trans ?_
    rw [hduty]
    refine hsamples'.trans ?_
    rw [hstages]
    exact hsamples
  · have hkept : (handGrant m.gov.row3.grant m).drive.state = .run := by
      rw [ht] at hrun
      change (rollHandOver _ _ _).drive.state = _ at hrun
      rw [hdrive] at hrun
      exact hrun
    have hcounted := handGrant_of_run hkept
    have hsees : RollSees u (handGrant m.gov.row3.grant m) := by
      rw [hcounted, hduty, hstages]
      exact ⟨rfl, rfl, rfl, rfl, rfl⟩
    have hgov2' : t.gov.row2.grant = m.gov.row2.grant := by
      rw [ht]
      show (rollHandOver _ _ _).gov.row2.grant = _
      rw [hgov]
      exact congrArg GrantRow.grant hgov2
    have hduty' : t.gov.rollDuty = m.gov.rollDuty := by
      rw [ht]
      show (rollHandOver _ _ _).gov.rollDuty = _
      rw [hgov]
      exact hgovDuty
    rw [hgov2', hduty', ht]
    exact rollHandOver_sees _ _ hsees

theorem settle_rollSamples {s : State} (h : s.gov.rollSamples = CurrentSum.empty) :
    (settle s).gov.rollSamples = CurrentSum.empty := by
  rcases (settle_leavesAs s).samples with ⟨-, hs⟩ | ⟨-, -, hs⟩
  · rw [hs, h]
  · exact hs

theorem rollHanded_condition (grant duty : Nat) (s : State) : (rollHanded grant duty s).rollCondition = true ↔
    s.drive.state = .run ∧ s.rollEntry = true ∧ 0 < grant ∧ s.debris.cal = none := rollCondition_iff _

/-- A jam that has held for its time, at a hand-over with the run condition (R110). -/
theorem rollHandOver_jams {s : State} {grant : Nat} {t0 : Ms} (duty : Nat) (hrun : s.roll.state = .run)
    (hwanted : s.drive.state = .run ∧ s.rollEntry = true ∧ 0 < grant ∧ s.debris.cal = none)
    (hjam : s.roll.current.gt s.jamLimit = true) (htimer : s.roll.jamTimer = some t0)
    (hle : 100 ≤ (s.ctl.partTime - t0).toNat) :
    rollHandOver grant duty s = rollJam { s with roll := { rollRan s.ctl.partTime (rollHanded grant duty s).roll with
      jamTimer := some t0 } } := by
  rw [rollHandOver_runs ((rollHanded_condition grant duty s).mpr hwanted) hrun]
  exact rollRunStep_jams (s := rollHanded grant duty s) hjam htimer hle

/-- A reading of the roll current that is a short, as it is logged (R106, R111). -/
theorem rollReading_short {r v : Reading}
    (h : (r = .above ∧ v = .above) ∨ (∃ n : Int, r = .num n ∧ 8000 < n ∧ v = if 10000 < n then .above else .num n)) :
    (rollReading r).gt 8000 = true ∧ (rollReading r).fit16 = v := by
  rcases h with ⟨rfl, rfl⟩ | ⟨n, rfl, hn, rfl⟩
  · exact ⟨rfl, rfl⟩
  · by_cases hbeyond : 10000 < n
    · have hread : rollReading (.num n) = .above := if_pos hbeyond
      rw [hread, if_pos hbeyond]
      exact ⟨rfl, rfl⟩
    · have hread : rollReading (.num n) = .num n := if_neg hbeyond
      rw [hread, if_neg hbeyond]
      exact ⟨decide_eq_true hn, Reading.fit16_num (by omega) (by omega)⟩

/-- Settles O38. -/
theorem rollActs : Obligations.RollActs := by
  refine ⟨fun s hpower hdrives => ⟨fun n hn => ?_, fun r hr => ?_, fun r v hr => ?_⟩, fun s hpower hwait htimer => ?_,
    ?restart, fun s readings hpower htimer hrole => ?_, ?handOver,
    fun s grant duty index c t0 hrun hdrive hentry hmatch hindex hgrant hcal hc hbeyond htimer hle => ?_⟩
  · have hwithin : rollReading (.num (n : Int)) = .num n := if_neg (by omega)
    have hgt : (rollReading (.num (n : Int))).gt 8000 = false := by rw [hwithin]; exact decide_eq_false (by omega)
    rw [exec_rollCurrentReading _ hpower hdrives, rollReadingTaken_within s hgt, hwithin]
    simp [rollSample, CurrentSum.add, Reading.toInt?]
  · have hwithin : (rollReading r).gt 8000 = false ∧ ((rollReading r).toInt?.getD 0).toNat = 0 ∧
        decide (rollReading r = .above) = false := by
      rcases hr with rfl | rfl | ⟨n, rfl, hn⟩
      · exact ⟨rfl, rfl, rfl⟩
      · exact ⟨rfl, rfl, rfl⟩
      · have hread : rollReading (.num n) = .num n := if_neg (by omega)
        rw [hread]
        exact ⟨decide_eq_false (by omega), Int.toNat_of_nonpos (by exact Int.le_of_lt hn), rfl⟩
    obtain ⟨hgt, hnat, habove⟩ := hwithin
    rw [exec_rollCurrentReading _ hpower hdrives, rollReadingTaken_within s hgt, rollSample, CurrentSum.add, hnat, habove,
      Nat.add_zero, Bool.or_false]
  · obtain ⟨hgt, hfit⟩ := rollReading_short hr
    obtain ⟨hroll, hd, hp, hprot, hlogged⟩ := rollShort_effect (rollReading r) (s := s) (u := rollSample (rollReading r) s)
      rfl rfl rfl rfl rfl
    rw [hfit] at hlogged
    refine ⟨_, exec_rollCurrentReading r hpower hdrives, ?_⟩
    rw [rollReadingTaken_beyond s hgt, hroll]
    exact ⟨rfl, rfl, rfl, rfl, rfl, rfl, hd, hp, hprot, hlogged⟩
  · exact event_occurs (by rw [hwait, htimer]; rfl) hpower
  case handOver =>
    intro s grant duty wanted handed t jammed ran
    have hyes : wanted → (rollHanded grant duty s).rollCondition = true := (rollHanded_condition grant duty s).mpr
    have hno : ¬ wanted → (rollHanded grant duty s).rollCondition = false := fun h =>
      Bool.eq_false_iff.mpr fun hc => h ((rollHanded_condition grant duty s).mp hc)
    have hjam : jammed → s.roll.current.gt s.jamLimit = true := (Reading.gt_iff _ _).mpr
    have hcalm : ¬ jammed → s.roll.current.gt s.jamLimit = false := fun h =>
      Bool.eq_false_iff.mpr fun hc => h ((Reading.gt_iff _ _).mp hc)
    refine ⟨fun hw hst => ?_, fun hw hst ht => ?_, fun hw hst ht => ?_, fun hw hst hc => ?_, fun hw hst hj htimer => ?_,
      fun t0 hw hst hj htimer hlt => ?_, fun hw hst => ?_, fun hw hst => ?_, fun h => ?_⟩
    · rw [rollHandOver_off hst, hyes hw]
      rfl
    · rw [rollHandOver_spinup hst, hyes hw]
      exact if_pos ht
    · rw [rollHandOver_spinup hst, hyes hw]
      exact if_neg (Nat.not_lt.mpr ht)
    · rw [rollHandOver_runs (hyes hw) hst, rollRunStep_goes (s := rollHanded grant duty s)
        (holdTimer_absent _ _ _ (by exact hcalm hc))]
      rfl
    · rw [rollHandOver_runs (hyes hw) hst, rollRunStep_goes (s := rollHanded grant duty s) (timer := some s.ctl.partTime)]
      · rfl
      · show holdTimer s.now s.roll.jamTimer (s.roll.current.gt s.jamLimit) 100 = _
        rw [hjam hj, htimer]
        rfl
    · rw [rollHandOver_runs (hyes hw) hst, rollRunStep_goes (s := rollHanded grant duty s) (timer := some t0)]
      · show _ = ({ s with roll := { ran with jamTimer := s.roll.jamTimer } } : State)
        rw [htimer]
        rfl
      · show holdTimer s.now s.roll.jamTimer (s.roll.current.gt s.jamLimit) 100 = _
        rw [hjam hj, htimer]
        exact congrArg (Prod.mk (some t0)) (decide_eq_false (Nat.not_le.mpr hlt))
    · rw [rollHandOver_jamWait hst, rollEvaluate, hyes hw, Bool.not_true, Bool.and_false]
      rfl
    · rw [rollHandOver_stops (hno hw) hst]
      rfl
    · rcases h with ⟨hw, hst⟩ | hst
      · rw [rollHandOver_off hst, hno hw]
        rfl
      · exact rollHandOver_held hst
  case restart =>
    intro s kind rest heads hrole b
    have hroll : b.roll = s.roll := beginTaking_roll rest s
    have hnow : b.ctl.partTime = s.ctl.partTime := beginTaking_ctl_partTime rest s
    refine ⟨fun hheld => ⟨rollRelease .restart b, ?_, ?_⟩, fun hlatched hfault => ?_⟩
    · exact request_acts_ok (q := rollRestartSpec) heads rfl rfl (accepts_stick hrole rfl) rfl rfl
        (if_pos ((held_iff _).mpr (by rwa [hroll])))
    · have hreported := rollRelease_reported .restart b
      rw [rollReleased, hroll, hnow, if_pos hheld] at hreported
      exact leavesAs_reported hreported
    · exact request_acts_refused (q := rollRestartSpec) (r := .denied) heads rfl rfl (accepts_stick hrole rfl) rfl rfl
        (if_neg fun h => ((held_iff _).mp h).elim (by rwa [hroll]) (by rwa [hroll]))
  · obtain ⟨hmean, hgrant, hduty, hsamples, hrun⟩ := governorPeriod_roll readings hrole
    refine ⟨_, exec_governorPeriod readings hpower htimer, ?_⟩
    intro mean
    rw [settle_roll, settle_drive, settle_gov_row2, settle_gov_rollDuty]
    exact ⟨hmean, hgrant, hduty, settle_rollSamples hsamples, fun h _ => hrun h⟩
  · have hjam : s.roll.current.gt s.jamLimit = true := by
      rw [Reading.gt_iff, hc]
      exact hbeyond.imp id fun ⟨n, hn, hlt, _⟩ => ⟨n, hn, hlt⟩
    have hfit : c.fit16 = c := by
      rcases hbeyond with rfl | ⟨n, rfl, hlt, hle⟩
      · rfl
      · exact Reading.fit16_num (by omega) (by omega)
    rw [rollHandOver_jams duty hrun ⟨hdrive, hentry, hgrant, hcal⟩ hjam htimer hle]
    intro count
    refine ⟨fun hcount => ?_, fun hcount => ?_⟩
    · rw [rollJam_waits (by exact hcount)]
      exact ⟨rfl, rfl, rfl, rfl⟩
    · have hmany : ¬ count < 2 := by omega
      have hreported := rollJam_latches (s := { s with roll := { rollRan s.ctl.partTime (rollHanded grant duty s).roll with
        jamTimer := some t0 } }) hmany
      have hlogged := Logged.reported (appendFault_logged (s := s) _ _ _ _ (by rfl)) hreported
      rw [rollJam_latched_roll (by exact hmany)]
      have hentered : (matchIndex s.att.result).map (fun i => Reading.num i) = some (.num index) := by
        rw [hmatch]
        rfl
      rw [hentered, Option.map_some, Reading.fit16_num (n := (index : Int)) (by omega) (by omega)]
        at hlogged
      have hvalue : (rollRan s.ctl.partTime (rollHanded grant duty s).roll).current.fit16 = c := by rw [← hfit, ← hc]; rfl
      rw [hvalue] at hlogged
      exact ⟨rfl, rfl, rfl, rfl, hlogged⟩

end Sys2Proof.Machine

/-! The duty step (section 2.7). -/

namespace Sys2Proof.Machine

open Sys2Proof

/-- The clamps of a duty step, in their order (R39). -/
theorem clampDuty_cast (d : Int) (prev dutyMax : Nat) (lifted : Bool) :
    (clampDuty d prev dutyMax lifted : Int) = max 0 (min (dutyMax : Int)
      (if lifted then min d ((prev : Int) + 64) else max ((prev : Int) - 64) (min d ((prev : Int) + 64)))) := by
  unfold clampDuty
  dsimp only
  generalize (if lifted = true then min d ((prev : Int) + 64) else max ((prev : Int) - 64) (min d ((prev : Int) + 64))) = x
  omega

/-- A duty step from an in-range prev moves by at most 64, downwards unless the slew bound is lifted (R39). -/
theorem clampDuty_moves {d : Int} {prev dutyMax : Nat} {lifted : Bool} (h : prev ≤ dutyMax) :
    clampDuty d prev dutyMax lifted ≤ prev + 64 ∧ (lifted = false → prev ≤ clampDuty d prev dutyMax lifted + 64) := by
  unfold clampDuty
  dsimp only
  cases lifted with
  | true =>
    refine ⟨?_, fun h => by cases h⟩
    rw [if_pos rfl]
    omega
  | false =>
    rw [if_neg Bool.false_ne_true]
    exact ⟨by omega, fun _ => by omega⟩

/-- What the clamps change decides how a duty step settles the PI state (R40). -/
theorem dutyStep_settles (g : Gov) (e : Int) (lifted : Bool) :
    let a := nextIntegrator g.a g.ki e
    let u := stepSum g.kp e a g.residue
    let d := u / 65536
    let duty := clampDuty d g.prev g.limits.dutyMax lifted
    let against : Prop := ((duty : Int) < d ∧ 0 < e) ∨ (d < duty ∧ e < 0)
    let r := dutyStep g e lifted
    r.duty = duty ∧
      ((duty : Int) = d → r.a = a ∧ (r.residue : Int) = u - d * 65536 ∧ r.residue ≤ 65535 ∧ r.saturated = false) ∧
      ((duty : Int) ≠ d → r.residue = 0 ∧ r.saturated = true ∧ (against → r.a = g.a) ∧ (¬ against → r.a = a)) := by
  intro a u d duty against r
  have hfdiv : u.fdiv 65536 = d := Int.fdiv_eq_ediv_of_nonneg u (by decide)
  have hfmod : u.fmod 65536 = u % 65536 := Int.fmod_eq_emod_of_nonneg u (by decide)
  have hr : r = if (duty : Int) = d then ⟨a, (u % 65536).toNat, duty, false⟩
      else if against then ⟨g.a, 0, duty, true⟩ else ⟨a, 0, duty, true⟩ := by
    show dutyStep g e lifted = _
    unfold dutyStep
    dsimp only
    rw [show (stepSum g.kp e (nextIntegrator g.a g.ki e) g.residue).fdiv 65536 = d from hfdiv,
      show (stepSum g.kp e (nextIntegrator g.a g.ki e) g.residue).fmod 65536 = u % 65536 from hfmod]
  by_cases hfree : (duty : Int) = d
  · rw [hr, if_pos hfree]
    have hrest : u - d * 65536 = u % 65536 := by
      have := Int.mul_ediv_add_emod u 65536
      show u - u / 65536 * 65536 = u % 65536
      omega
    have hlo := Int.emod_nonneg u (by decide : (65536 : Int) ≠ 0)
    have hhi := Int.emod_lt_of_pos u (by decide : (0 : Int) < 65536)
    refine ⟨rfl, fun _ => ⟨rfl, ?_, ?_, rfl⟩, fun h => absurd hfree h⟩
    · rw [hrest]
      exact Int.toNat_of_nonneg hlo
    · show (u % 65536).toNat ≤ 65535
      omega
  · rw [hr, if_neg hfree]
    by_cases hagainst : against
    · rw [if_pos hagainst]
      exact ⟨rfl, fun h => absurd h hfree, fun _ => ⟨rfl, rfl, fun _ => rfl, fun h => absurd hagainst h⟩⟩
    · rw [if_neg hagainst]
      exact ⟨rfl, fun h => absurd h hfree, fun _ => ⟨rfl, rfl, fun h => absurd h hagainst, fun _ => rfl⟩⟩

/-- The lower slew bound is lifted by a discharge current alone, in STICK role (R39). -/
theorem slewLifted_iff {s : State} {r : PackRecord} (hrole : s.ctl.role = .stick) (hr : s.pack.record = some r) :
    s.slewLifted = true ↔
      r.packI = .below ∨ ∃ n, r.packI = .num n ∧ n < -(((s.gov.allowance.getD 0) * 5 / 4 : Nat) : Int) := by
  have hlifted : s.slewLifted = r.packI.lt (-((s.allowance * 5 / 4 : Nat) : Int)) := by
    unfold State.slewLifted State.isStick
    rw [hrole, hr]
    rfl
  rw [hlifted, Reading.lt_iff]
  rfl

/-- Settles O43. -/
theorem dutyStepIsClamped : Obligations.DutyStepIsClamped := by
  refine ⟨fun g e lifted => ?_, fun s => ⟨fun hrole => ?_, fun hnone => ?_, fun r hrole hr => slewLifted_iff hrole hr⟩,
    fun s hrun => ?_⟩
  · intro a u d upper slewed duty r
    obtain ⟨hduty, hfree, hclamped⟩ := dutyStep_settles g e lifted
    have hcast : (clampDuty d g.prev g.limits.dutyMax lifted : Int) = duty := clampDuty_cast _ _ _ _
    have hr : r.duty = clampDuty d g.prev g.limits.dutyMax lifted := hduty
    refine ⟨⟨by rw [hr, hcast], fun h => hfree (hcast.trans h), fun h => ?_⟩, ?_, fun hprev => ?_⟩
    · have hsettled := hclamped fun k => h (hcast.symm.trans k)
      rw [← hcast]
      exact hsettled
    · rw [hr]
      exact clampDuty_le _ _ _ _
    · rw [hr]
      exact clampDuty_moves hprev
  · simp [State.slewLifted, State.isStick, hrole]
  · simp [State.slewLifted, hnone]
  · intro r
    unfold governorDuty
    rw [if_pos hrun]
    rfl

end Sys2Proof.Machine

/-! The settings of chapter 2, of the dock and of the pack (sections 2.9, 2.10, 3.6, 7.7). -/

namespace Sys2Proof.Machine

open Sys2Proof

/-! ### Fields that are clamped, and keep -/

/-- A setting answers OK or CLAMPED, by whether what takes effect is what was asked. -/
theorem request_acts_setting {α : Type} [DecidableEq α] {x asked : α} {q : RequestSpec} {s u : State} {kind : Byte}
    {p : List Byte} {rest : List HostFrame} (h : Spec.Heads s q.code kind p rest) (hs : q.alwaysSummary = false)
    (hr : q.resets = false) (hrole : q.accepts s.ctl.role = true) (hl : q.lengthOk p = true) (hc : q.canonical p = true)
    (hj : q.act p (beginTaking rest s) = ⟨okOrClamped (decide (x ≠ asked)), u, []⟩) :
    request q s = .next (settle (Spec.reply kind (if x = asked then 0x00 else 0x02) [] u)) := by
  rw [request_acts_as h hs hr hrole hl hc hj, resultCode_okOrClamped]
  by_cases hx : x = asked
  · rw [if_pos hx, if_neg (by simp [hx])]
  · rw [if_neg hx, if_pos (by simp [hx])]

theorem keepOk_of_le {keep : Nat} (h : keep ≤ 1) : keepOk keep = true := decide_eq_true (by omega)

theorem keepBusy_of_zero {keep : Nat} (s : State) (h : keep = 0) : keepBusy keep s = false := by
  simp [keepBusy, h]

theorem keepBusy_of_idle (keep : Nat) {s : State} (h : s.store.op = none) : keepBusy keep s = false := by
  simp [keepBusy, h]

theorem keepBusy_of_busy {keep : Nat} {s : State} (h : keep = 1) (hop : s.store.op.isSome = true) :
    keepBusy keep s = true := by
  simp [keepBusy, h, hop]

theorem keepWrite_of_zero {keep : Nat} (origin tag : Nat) (value : List Byte) (s : State) (h : keep = 0) :
    keepWrite keep origin tag value s = s := if_neg (by omega)

/-! ### SET_MODE_POWER (R45) -/

/-- The four powers that a SET_MODE_POWER asks for. -/
def askedPowers (p : List Byte) : ModePowers := ⟨u16At p 0, u16At p 2, u16At p 4, u16At p 6⟩

/-- The four powers that take effect. -/
def clampedPowers (p : List Byte) : ModePowers :=
  ⟨clampNat 20 500 (u16At p 0), clampNat 20 500 (u16At p 2), clampNat 20 500 (u16At p 4), clampNat 20 500 (u16At p 6)⟩

section
variable {p : List Byte} (b : State)

theorem setModePowerSpec_act_eq : setModePowerSpec.act p b =
    if keepOk (byteAt p 8) = false then refuse .outOfRange b
    else if (clampedPowers p).autoMax < (clampedPowers p).eco then refuse .outOfRange b
    else if keepBusy (byteAt p 8) b then refuse .busy b
    else ⟨okOrClamped (decide (clampedPowers p ≠ askedPowers p)),
      keepWrite (byteAt p 8) 0x12 0x02 (powersBytes (clampedPowers p)) { b with gov := { b.gov with powers := clampedPowers p } },
      []⟩ := rfl

theorem setModePowerSpec_act_taken (hkeep : byteAt p 8 = 0) (h : (clampedPowers p).eco ≤ (clampedPowers p).autoMax) :
    setModePowerSpec.act p b = ⟨okOrClamped (decide (clampedPowers p ≠ askedPowers p)),
      { b with gov := { b.gov with powers := clampedPowers p } }, []⟩ := by
  rw [setModePowerSpec_act_eq, if_neg (by rw [hkeep]; decide), if_neg (Nat.not_lt.mpr h),
    if_neg (by rw [keepBusy_of_zero b hkeep]; decide), keepWrite_of_zero _ _ _ _ hkeep]

theorem setModePowerSpec_act_outOfRange (h : (clampedPowers p).autoMax < (clampedPowers p).eco) :
    setModePowerSpec.act p b = refuse .outOfRange b := by
  rw [setModePowerSpec_act_eq, if_pos h, ite_self]

theorem setModePowerSpec_act_busy (hkeep : byteAt p 8 = 1) (h : (clampedPowers p).eco ≤ (clampedPowers p).autoMax)
    (hop : b.store.op.isSome = true) : setModePowerSpec.act p b = refuse .busy b := by
  rw [setModePowerSpec_act_eq, if_neg (by rw [hkeep]; decide), if_neg (Nat.not_lt.mpr h),
    if_pos (keepBusy_of_busy hkeep hop)]

end

/-! ### SET_LIMITS (R46) -/

/-- The four limits that a SET_LIMITS asks for. -/
def askedLimits (p : List Byte) : Limits := ⟨u16At p 0, u16At p 2, u16At p 4, u16At p 6⟩

/-- The four limits that take effect. -/
def clampedLimits (p : List Byte) : Limits :=
  ⟨clampNat 5000 35000 (u16At p 0), clampNat 200 4000 (u16At p 2), clampNat 4000 4200 (u16At p 4),
    clampNat 1024 4032 (u16At p 6)⟩

section
variable {p : List Byte} {b : State}

theorem setLimitsSpec_act_eq : setLimitsSpec.act p b =
    if b.ctl.lock.isSome then refuse .locked b
    else if keepOk (byteAt p 8) = false then refuse .outOfRange b
    else if b.drive.state = .run ∧ ((clampedLimits p).dutyMax < b.drive.duty ∨ (clampedLimits p).dutyMax < b.gov.prev) then
      refuse .denied b
    else if keepBusy (byteAt p 8) b then refuse .busy b
    else ⟨okOrClamped (decide (clampedLimits p ≠ askedLimits p)),
      keepWrite (byteAt p 8) 0x13 0x06 (limitsBytes (clampedLimits p)) (applyLimits (clampedLimits p) b), []⟩ := rfl

theorem setLimitsSpec_act_locked (hlock : b.ctl.lock.isSome = true) : setLimitsSpec.act p b = refuse .locked b := by
  rw [setLimitsSpec_act_eq, if_pos hlock]

section
variable (hlock : b.ctl.lock = none)
include hlock

theorem setLimitsSpec_act_denied (hkeep : byteAt p 8 ≤ 1) (h : b.drive.state = .run ∧
    ((clampedLimits p).dutyMax < b.drive.duty ∨ (clampedLimits p).dutyMax < b.gov.prev)) :
    setLimitsSpec.act p b = refuse .denied b := by
  rw [setLimitsSpec_act_eq, if_neg (by rw [hlock]; decide), if_neg (by rw [keepOk_of_le hkeep]; decide), if_pos h]

section
variable (h : ¬ (b.drive.state = .run ∧
    ((clampedLimits p).dutyMax < b.drive.duty ∨ (clampedLimits p).dutyMax < b.gov.prev)))
include h

theorem setLimitsSpec_act_busy (hkeep : byteAt p 8 = 1) (hop : b.store.op.isSome = true) :
    setLimitsSpec.act p b = refuse .busy b := by
  rw [setLimitsSpec_act_eq, if_neg (by rw [hlock]; decide), if_neg (by rw [hkeep]; decide), if_neg h,
    if_pos (keepBusy_of_busy hkeep hop)]

theorem setLimitsSpec_act_taken (hkeep : byteAt p 8 = 0) : setLimitsSpec.act p b
    = ⟨okOrClamped (decide (clampedLimits p ≠ askedLimits p)), applyLimits (clampedLimits p) b, []⟩ := by
  rw [setLimitsSpec_act_eq, if_neg (by rw [hlock]; decide), if_neg (by rw [hkeep]; decide), if_neg h,
    if_neg (by rw [keepBusy_of_zero b hkeep]; decide), keepWrite_of_zero _ _ _ _ hkeep]

end

end

theorem recomputeAllowance_inStick {s : State} (hrole : s.ctl.role = .stick) : (recomputeAllowance s).gov.allowance
    = some (allowanceOf s.gov.limits.discharge (factorsOf s.pack.record) s.prot.dischargeOk) := by
  unfold recomputeAllowance
  rw [hrole]

theorem recomputeAllowance_powers (s : State) : (recomputeAllowance s).gov.powers = s.gov.powers := by
  unfold recomputeAllowance
  cases s.ctl.role <;> rfl

/-- The limits in force, and the allowance computed again where the discharge limit changed (R29, R43). -/
theorem applyLimits_effect (l : Limits) (s : State) :
    Spec.SameBlocks s (applyLimits l s) ∧ (applyLimits l s).gov.limits = l ∧
      (applyLimits l s).gov.powers = s.gov.powers ∧
      (l.discharge = s.gov.limits.discharge → (applyLimits l s).gov.allowance = s.gov.allowance) ∧
      (l.discharge ≠ s.gov.limits.discharge → s.ctl.role = .stick → (applyLimits l s).gov.allowance
        = some (allowanceOf l.discharge (factorsOf s.pack.record) s.prot.dischargeOk)) := by
  unfold applyLimits
  dsimp only
  by_cases h : l.discharge = s.gov.limits.discharge
  · rw [if_pos h]
    exact ⟨⟨rfl, rfl, rfl, rfl, rfl, rfl, rfl, rfl, rfl, rfl, rfl, rfl, rfl, rfl⟩, rfl, rfl, fun _ => rfl,
      fun hne => absurd h hne⟩
  · rw [if_neg h]
    refine ⟨?_, recomputeAllowance_gov_limits _, recomputeAllowance_powers _, fun heq => absurd heq h,
      fun _ hrole => recomputeAllowance_inStick (s := { s with gov := { s.gov with limits := l } }) hrole⟩
    obtain ⟨g, hg, -⟩ := recomputeAllowance_eq { s with gov := { s.gov with limits := l } }
    rw [hg]
    exact ⟨rfl, rfl, rfl, rfl, rfl, rfl, rfl, rfl, rfl, rfl, rfl, rfl, rfl, rfl⟩

end

/-! ### SET_DOCK_SUPPLY (R153) -/

section
variable {p : List Byte} (b : State)

theorem setDockSupplySpec_act_taken (hkeep : byteAt p 4 = 0) :
    setDockSupplySpec.act p b = ⟨okOrClamped (decide (clampNat 60000 600000 (u32At p 0) ≠ u32At p 0)),
      { b with charger := { b.charger with budget := clampNat 60000 600000 (u32At p 0) } }, []⟩ := by
  unfold setDockSupplySpec
  dsimp only
  rw [if_neg (by rw [hkeep]; decide), if_neg (by rw [keepBusy_of_zero b hkeep]; decide), keepWrite_of_zero _ _ _ _ hkeep]

theorem setDockSupplySpec_act_busy (hkeep : byteAt p 4 = 1) (hop : b.store.op.isSome = true) :
    setDockSupplySpec.act p b = refuse .busy b := by
  unfold setDockSupplySpec
  dsimp only
  rw [if_neg (by rw [hkeep]; decide), if_pos (keepBusy_of_busy hkeep hop)]

end

/-- Settles O39. -/
theorem powerSettingsTakeEffect : Obligations.PowerSettingsTakeEffect := by
  intro s kind rest p b asked powers askedL limits lowers budget
  have hstore : b.store = s.store := beginTaking_store rest s
  refine ⟨fun heads hlen hform => ?power, fun heads hlen hform => ?limits, fun heads hlen hrole => ?supply⟩
  case power =>
    have hrole : setModePowerSpec.accepts s.ctl.role = true := accepts_both _ rfl rfl
    refine ⟨fun hkeep hrange => ?_, fun hrange => ?_, fun hkeep hrange hop => ?_⟩
    · rw [← beginTaking_gov rest s]
      exact request_acts_setting (q := setModePowerSpec) (x := powers) (asked := asked) heads rfl rfl hrole
        (lengthIs_of_eq hlen) hform (setModePowerSpec_act_taken b hkeep hrange)
    · exact request_acts_refused (q := setModePowerSpec) (r := .outOfRange) heads rfl rfl hrole (lengthIs_of_eq hlen) hform
        (setModePowerSpec_act_outOfRange b hrange)
    · exact request_acts_refused (q := setModePowerSpec) (r := .busy) heads rfl rfl hrole (lengthIs_of_eq hlen) hform
        (setModePowerSpec_act_busy b hkeep hrange (by rwa [hstore]))
  case limits =>
    have hrole : setLimitsSpec.accepts s.ctl.role = true := accepts_both _ rfl rfl
    have hlock : b.ctl.lock = s.ctl.lock := beginTaking_ctl_lock rest s
    have hdrive : b.drive = s.drive := beginTaking_drive rest s
    have hgov : b.gov = s.gov := beginTaking_gov rest s
    have hlowers : (b.drive.state = .run ∧ ((clampedLimits p).dutyMax < b.drive.duty ∨
        (clampedLimits p).dutyMax < b.gov.prev)) = lowers := by rw [hdrive, hgov]; rfl
    refine ⟨fun hset => ?_, fun hclear hkeep hlow => ?_, fun hclear hkeep hlow hop => ?_, fun hclear hkeep hlow => ?_⟩
    · exact request_acts_refused (q := setLimitsSpec) (r := .locked) heads rfl rfl hrole (lengthIs_of_eq hlen) hform
        (setLimitsSpec_act_locked (b := b) (by rwa [hlock]))
    · exact request_acts_refused (q := setLimitsSpec) (r := .denied) heads rfl rfl hrole (lengthIs_of_eq hlen) hform
        (setLimitsSpec_act_denied (b := b) (by rwa [hlock]) hkeep (by rwa [hlowers]))
    · exact request_acts_refused (q := setLimitsSpec) (r := .busy) heads rfl rfl hrole (lengthIs_of_eq hlen) hform
        (setLimitsSpec_act_busy (b := b) (by rwa [hlock]) (by rwa [hlowers]) hkeep (by rwa [hstore]))
    · obtain ⟨hblocks, hlimits, hpowers, hsame, hnew⟩ := applyLimits_effect limits b
      refine ⟨applyLimits limits b, request_acts_setting (q := setLimitsSpec) (x := limits) (asked := askedL) heads rfl rfl
        hrole (lengthIs_of_eq hlen) hform
        (setLimitsSpec_act_taken (b := b) (by rwa [hlock]) (by rwa [hlowers]) hkeep), hblocks, hlimits, ?_, ?_, ?_⟩
      · rw [hpowers, hgov]
      · rw [← hgov]
        exact hsame
      · have hpack : b.pack.record = s.pack.record := beginTaking_pack_record rest s
        have hprot : b.prot = s.prot := beginTaking_prot rest s
        have hstick : b.ctl.role = s.ctl.role := beginTaking_ctl_role rest s
        rw [← hgov, ← hpack, ← hprot, ← hstick]
        exact hnew
  case supply =>
    have hrole' : setDockSupplySpec.accepts s.ctl.role = true := accepts_dock hrole rfl
    refine ⟨fun hkeep => ?_, fun hkeep hop => ?_⟩
    · rw [← beginTaking_charger rest s]
      exact request_acts_setting (q := setDockSupplySpec) (x := budget) (asked := u32At p 0) heads rfl rfl hrole'
        (lengthIs_of_eq hlen) rfl (setDockSupplySpec_act_taken b hkeep)
    · exact request_acts_refused (q := setDockSupplySpec) (r := .busy) heads rfl rfl hrole' (lengthIs_of_eq hlen) rfl
        (setDockSupplySpec_act_busy b hkeep (by rwa [hstore]))

/-! ### SET_PACK (R74) -/

section
variable {p : List Byte} {b : State}

/-- The capacity that a SET_PACK sets. -/
def clampedCapacity (p : List Byte) : Nat := clampNat 500 10000 (u16At p 0)

theorem setPackSpec_act_taken (hkeep : byteAt p 2 ≤ 1) (hbusy : keepBusy (byteAt p 2) b = false) :
    setPackSpec.act p b = ⟨okOrClamped (decide (clampedCapacity p ≠ u16At p 0)), setPack (clampedCapacity p) (byteAt p 2) b,
      []⟩ := by
  unfold setPackSpec
  dsimp only
  rw [if_neg (by rw [keepOk_of_le hkeep]; decide), if_neg (by rw [hbusy]; decide)]
  rfl

theorem setPackSpec_act_busy (hkeep : byteAt p 2 = 1) (hop : b.store.op.isSome = true) :
    setPackSpec.act p b = refuse .busy b := by
  unfold setPackSpec
  dsimp only
  rw [if_neg (by rw [hkeep]; decide), if_pos (keepBusy_of_busy hkeep hop)]

/-- A user write of a record that fits the active segment begins (R182). -/
theorem startUserWrite_fits {seg : Nat} {value : List Byte} (origin tag : Nat) (hactive : b.store.active = some seg)
    (hfits : b.store.fits seg value.length = true) : startUserWrite origin tag value b
      = { b with store := { b.store with op := some ⟨.write, seg, tag, origin, value, 0, 0⟩ } } := by
  unfold startUserWrite
  rw [hactive]
  dsimp only
  rw [if_pos hfits]
  rfl

theorem setPack_strapped (c keep : Nat) (h : b.ctl.cells = 3) :
    setPack c keep b = { b with pack := { b.pack with capacity := c } } := if_pos h

theorem setPack_unkept {keep : Nat} (c : Nat) (h : b.ctl.cells ≠ 3) (hkeep : keep = 0) : setPack c keep b = setCapacity c b := by
  unfold setPack
  rw [if_neg h, keepWrite_of_zero _ _ _ _ hkeep]

theorem setPack_writes {keep seg : Nat} (c : Nat) (h : b.ctl.cells ≠ 3) (hkeep : keep = 1)
    (hactive : b.store.active = some seg) (hfits : b.store.fits seg 2 = true) : setPack c keep b
      = { setCapacity c b with store := { b.store with op := some ⟨.write, seg, 0x05, 0x19, u16 c, 0, 0⟩ } } := by
  unfold setPack keepWrite
  rw [if_neg h, if_pos hkeep, startUserWrite_fits (b := setCapacity c b) (value := u16 c) _ _ hactive hfits]
  rfl

end

/-- Settles O40. -/
theorem setPackRescales : Obligations.SetPackRescales := by
  intro s kind rest p heads hrole hlen hnum b c code pack
  have hrole' : setPackSpec.accepts s.ctl.role = true := accepts_stick hrole rfl
  have hform : setPackSpec.canonical p = true := by
    show settings16 [0] p = true
    rw [settings16_singleton]
    exact decide_eq_true hnum
  have hstore : b.store = s.store := beginTaking_store rest s
  have hcells : b.ctl.cells = s.ctl.cells := beginTaking_ctl_cells rest s
  have htaken : ∀ u, setPackSpec.act p b = ⟨okOrClamped (decide (clampedCapacity p ≠ u16At p 0)), u, []⟩ →
      exec .setPack s = .next (settle (Spec.reply kind code [] u)) := fun u hu =>
    request_acts_setting (q := setPackSpec) (x := c) (asked := u16At p 0) heads rfl rfl hrole' (lengthIs_of_eq hlen) hform hu
  have hq : s.pack.q = b.pack.q := (beginTaking_pack_q rest s).symm
  have hcapacity : s.pack.capacity = b.pack.capacity := (beginTaking_pack_capacity rest s).symm
  have hpack : pack = (setCapacity c b).pack := by
    show ({ b.pack with capacity := c, q := s.pack.q * c / s.pack.capacity } : Pack) = _
    rw [hq, hcapacity]
    rfl
  refine ⟨fun hvalid hkeep => ?_, fun hinvalid hkeep => ?_, fun seg hvalid hkeep hop hactive hfits => ?_, fun hkeep hop => ?_⟩
  · rw [hpack]
    refine htaken _ ?_
    rw [setPackSpec_act_taken (by omega) (keepBusy_of_zero b hkeep), setPack_unkept _ (by rwa [hcells]) hkeep]
    rfl
  · refine htaken _ ?_
    have hle : byteAt p 2 ≤ 1 := by rcases hkeep with h | ⟨h, -⟩ <;> omega
    have hbusy : keepBusy (byteAt p 2) b = false := by
      rcases hkeep with h | ⟨-, h⟩
      · exact keepBusy_of_zero b h
      · exact keepBusy_of_idle _ (by rwa [hstore])
    rw [setPackSpec_act_taken hle hbusy, setPack_strapped _ _ (by rwa [hcells])]
    rfl
  · rw [hpack]
    refine htaken _ ?_
    rw [setPackSpec_act_taken (by omega) (keepBusy_of_idle _ (by rwa [hstore])),
      setPack_writes _ (by rwa [hcells]) hkeep (by rwa [hstore]) (by rwa [hstore]), hstore]
    rfl
  · exact request_acts_refused (q := setPackSpec) (r := .busy) heads rfl rfl hrole' (lengthIs_of_eq hlen) hform
      (setPackSpec_act_busy hkeep (b := b) (by rwa [hstore]))

end Sys2Proof.Machine

/-! The settings of the stick's sensors (sections 4.6, 5.5 and 6.5). -/

namespace Sys2Proof.Machine

open Sys2Proof

theorem clampNat_zero (hi n : Nat) : clampNat 0 hi n = min hi n := Nat.zero_max _

/-! ### SET_DIRT_LEVELS and CLEAR_BIN (R98, R99) -/

/-- The seven settings that a SET_DIRT_LEVELS asks for. -/
def askedLevels (p : List Byte) : DirtLevels :=
  ⟨byteAt p 0, byteAt p 1, byteAt p 2, byteAt p 3, byteAt p 4, byteAt p 5, u24At p 6⟩

/-- The seven settings that take effect. -/
def clampedLevels (p : List Byte) : DirtLevels :=
  { askedLevels p with hysteresis := min 32 (byteAt p 3), binThreshold := clampNat 10000 1000000 (u24At p 6) }

theorem thresholdsOk_iff (light medium heavy : Nat) :
    thresholdsOk light medium heavy = true ↔ 1 ≤ light ∧ light < medium ∧ medium < heavy ∧ heavy ≤ 254 := by
  simp [thresholdsOk, and_assoc]

section
variable {p : List Byte} (b : State)

theorem setDirtLevelsSpec_act_eq : setDirtLevelsSpec.act p b =
    if keepOk (byteAt p 9) = false then refuse .outOfRange b
    else if thresholdsOk (byteAt p 0) (byteAt p 1) (byteAt p 2) = false then refuse .outOfRange b
    else if keepBusy (byteAt p 9) b then refuse .busy b
    else ⟨okOrClamped (decide (clampedLevels p ≠ askedLevels p)),
      keepWrite (byteAt p 9) 0x21 0x07 (dirtLevelsBytes (clampedLevels p)) (applyDirtLevels (clampedLevels p) b), []⟩ := by
  unfold clampedLevels
  rw [← clampNat_zero 32 (byteAt p 3)]
  rfl

theorem setDirtLevelsSpec_act_taken (hkeep : byteAt p 9 = 0)
    (h : 1 ≤ byteAt p 0 ∧ byteAt p 0 < byteAt p 1 ∧ byteAt p 1 < byteAt p 2 ∧ byteAt p 2 ≤ 254) :
    setDirtLevelsSpec.act p b
      = ⟨okOrClamped (decide (clampedLevels p ≠ askedLevels p)), applyDirtLevels (clampedLevels p) b, []⟩ := by
  rw [setDirtLevelsSpec_act_eq, if_neg (by rw [hkeep]; decide), if_neg (by rw [(thresholdsOk_iff _ _ _).mpr h]; decide),
    if_neg (by rw [keepBusy_of_zero b hkeep]; decide), keepWrite_of_zero _ _ _ _ hkeep]

theorem setDirtLevelsSpec_act_outOfRange (hkeep : byteAt p 9 = 0)
    (h : ¬ (1 ≤ byteAt p 0 ∧ byteAt p 0 < byteAt p 1 ∧ byteAt p 1 < byteAt p 2 ∧ byteAt p 2 ≤ 254)) :
    setDirtLevelsSpec.act p b = refuse .outOfRange b := by
  rw [setDirtLevelsSpec_act_eq, if_neg (by rw [hkeep]; decide),
    if_pos (Bool.eq_false_iff.mpr fun ht => h ((thresholdsOk_iff _ _ _).mp ht))]

/-- The levels in force and BIN_FULL evaluated again (R89, R98). -/
theorem applyDirtLevels_reported (l : DirtLevels) :
    Reported { b with debris := { b.debris with levels := l, binFull := decide (l.binThreshold ≤ b.debris.b) } }
      (applyDirtLevels l b) := reportDirt_reported _ _

end

/-- evacuate_request is what the binding and the policy in force make of the bin load (R127). -/
theorem evacRequested_eq (s : State) : s.evacRequested = Spec.wantsEvacuation s.evacSet s.debris.b s.stick.binding := by
  unfold State.evacRequested Spec.wantsEvacuation
  cases s.stick.binding with
  | none => rfl
  | some k => cases hp : s.evacSet.policy <;> simp

theorem deriveRequest_eq (s : State) : deriveRequest s = { s with stick := { s.stick with
    evacRequest := Spec.wantsEvacuation s.evacSet s.debris.b s.stick.binding } } := by
  rw [deriveRequest, evacRequested_eq]

/-- The bin emptied (R88, R89, R99). -/
theorem emptyBin_reported (s : State) : Reported { s with
    debris := { s.debris with b := 0, binFull := decide (s.debris.levels.binThreshold ≤ 0) }
    stick := { s.stick with evacRequest := Spec.wantsEvacuation s.evacSet 0 s.stick.binding } } (emptyBin s) := by
  unfold emptyBin
  rw [deriveRequest_eq]
  exact reportDirt_reported _ _

/-! ### SET_EVACUATION (R138) -/

theorem policyOf_policyCode (policy : EvacPolicy) : policyOf (policyCode policy) = some policy := by
  cases policy <;> rfl

theorem setEvacuationSpec_act_taken {p : List Byte} {policy : EvacPolicy} (b : State) (hpolicy : byteAt p 0 = policyCode policy)
    (hkeep : byteAt p 8 = 0) : setEvacuationSpec.act p b
      = ⟨okOrClamped (decide (clampEvac ⟨policy, u32At p 1, byteAt p 5, u16At p 6⟩
          ≠ ⟨policy, u32At p 1, byteAt p 5, u16At p 6⟩)),
        deriveRequest { b with evacSet := clampEvac ⟨policy, u32At p 1, byteAt p 5, u16At p 6⟩ }, []⟩ := by
  unfold setEvacuationSpec
  dsimp only
  rw [hpolicy, policyOf_policyCode]
  dsimp only
  rw [if_neg (by rw [hkeep]; decide), if_neg (by rw [keepBusy_of_zero b hkeep]; decide), keepWrite_of_zero _ _ _ _ hkeep]

/-! ### SET_ATTACHMENT (R105, R114) -/

/-- The entry that takes effect. -/
def clampedEntry (p : List Byte) : AttEntry :=
  ⟨decide (byteAt p 1 = 1), min 3300 (u16At p 2), min 3300 (u16At p 4), min 15 (byteAt p 6), min 1000 (u16At p 7),
    min 5000 (u16At p 9), clampNat 500 6000 (u16At p 11), clampNat 20 500 (u16At p 13), decide (byteAt p 15 = 1)⟩

theorem clampEntry_requestEntry (p : List Byte) : clampEntry (requestEntry p) = clampedEntry p := by
  simp [clampEntry, requestEntry, clampedEntry, clampNat_zero]

section
variable {p : List Byte} (b : State)

theorem setAttachmentSpec_act_outOfRange (h : 8 ≤ byteAt p 0) : setAttachmentSpec.act p b = refuse .outOfRange b := by
  unfold setAttachmentSpec
  exact if_pos h

theorem setAttachmentSpec_act_taken (hindex : byteAt p 0 < 8) (henabled : byteAt p 1 ≤ 1) (hauto : byteAt p 15 ≤ 1)
    (hkeep : byteAt p 16 = 0) (hbounds : (clampedEntry p).idLow ≤ (clampedEntry p).idHigh) : setAttachmentSpec.act p b
      = ⟨okOrClamped (decide (clampedEntry p ≠ requestEntry p)), writeEntry (byteAt p 0) (clampedEntry p) b, []⟩ := by
  unfold setAttachmentSpec
  dsimp only
  rw [clampEntry_requestEntry, if_neg (Nat.not_le.mpr hindex),
    if_neg (by rw [keepOk_of_le henabled, keepOk_of_le hauto, hkeep]; decide), if_neg (Nat.not_lt.mpr hbounds),
    if_neg (by rw [keepBusy_of_zero b hkeep]; decide), keepWrite_of_zero _ _ _ _ hkeep]

end

/-! ### What a changed match leaves (R104) -/

/-- A work of the attachment identifier leaves the drive, the protection, the store and the debris sensor. -/
structure AttActs (s u : State) : Prop where
  drive : u.drive = s.drive
  prot : u.prot = s.prot
  store : u.store = s.store
  debris : u.debris = s.debris

theorem AttActs.trans {s u v : State} (h : AttActs s u) (k : AttActs u v) : AttActs s v :=
  ⟨k.drive.trans h.drive, k.prot.trans h.prot, k.store.trans h.store, k.debris.trans h.debris⟩

theorem rollEvaluate_jamCount (s : State) : (rollEvaluate s).roll.jamCount = s.roll.jamCount := by
  unfold rollEvaluate
  split <;> rfl

/-- A changed match is in force at once, with the jam count cleared (R104). -/
theorem attachmentChange_effect (result : MatchResult) (voltage : Reading) (cause : AttCause) (s : State) :
    let u := attachmentChange result voltage cause s
    u.att = { s.att with result := result, voltage := voltage, candidate := none, count := 0 } ∧ u.roll.jamCount = 0 ∧
      AttActs s u := by
  unfold attachmentChange
  refine ⟨by simp [clearJams], by rw [rollEvaluate_jamCount]; rfl, ?_⟩
  exact ⟨by simp [clearJams], by simp [clearJams], by simp [clearJams], by simp [clearJams]⟩

/-- The re-match of a written table (R105). -/
theorem reMatch_effect (s : State) :
    let u := reMatch s
    u.att.entries = s.att.entries ∧ u.att.candidate = none ∧ u.att.count = 0 ∧ u.att.voltage = s.att.voltage ∧
      (s.att.voltage = .absent → u.att.result = s.att.result) ∧
      (s.att.voltage ≠ .absent → u.att.result = resolveId s.att.entries s.att.voltage) ∧
      (u.att.result ≠ s.att.result → u.roll.jamCount = 0) ∧ AttActs s u := by
  intro u
  have hu : u = if s.att.voltage.isAbsent then { s with att := { s.att with candidate := none, count := 0 } }
      else if resolveId s.att.entries s.att.voltage = s.att.result then
        { s with att := { s.att with candidate := none, count := 0 } }
      else attachmentChange (resolveId s.att.entries s.att.voltage) s.att.voltage .tableWrite
        { s with att := { s.att with candidate := none, count := 0 } } := rfl
  by_cases habsent : s.att.voltage = .absent
  · rw [hu, if_pos (by rw [habsent]; rfl)]
    exact ⟨rfl, rfl, rfl, rfl, fun _ => rfl, fun h => absurd habsent h, fun h => absurd rfl h, ⟨rfl, rfl, rfl, rfl⟩⟩
  · have hpresent : ¬ s.att.voltage.isAbsent = true := by
      cases hv : s.att.voltage <;> simp_all [Reading.isAbsent]
    rw [hu, if_neg hpresent]
    by_cases hsame : resolveId s.att.entries s.att.voltage = s.att.result
    · rw [if_pos hsame]
      exact ⟨rfl, rfl, rfl, rfl, fun h => absurd h habsent, fun _ => hsame.symm, fun h => absurd rfl h,
        ⟨rfl, rfl, rfl, rfl⟩⟩
    · rw [if_neg hsame]
      obtain ⟨hatt, hjam, hacts⟩ := attachmentChange_effect (resolveId s.att.entries s.att.voltage) s.att.voltage .tableWrite
        { s with att := { s.att with candidate := none, count := 0 } }
      rw [hatt]
      refine ⟨rfl, rfl, rfl, rfl, fun h => absurd h habsent, fun _ => rfl, fun _ => hjam, ?_⟩
      exact ⟨hacts.drive, hacts.prot, hacts.store, hacts.debris⟩

/-- A written entry is in the table, and the voltage in force is matched again (R105). -/
theorem writeEntry_effect (index : Nat) (e : AttEntry) (s : State) :
    let u := writeEntry index e s
    let entries := s.att.entries.set index e
    u.att.entries = entries ∧ u.att.candidate = none ∧ u.att.count = 0 ∧ u.att.voltage = s.att.voltage ∧
      (s.att.voltage = .absent → u.att.result = s.att.result) ∧
      (s.att.voltage ≠ .absent → u.att.result = resolveId entries s.att.voltage) ∧
      (u.att.result ≠ s.att.result → u.roll.jamCount = 0) ∧ AttActs s u := by
  intro u entries
  obtain ⟨hentries, hcandidate, hcount, hvoltage, habsent, hpresent, hjam, hacts⟩ :=
    reMatch_effect { s with att := { s.att with entries := entries } }
  have hu : u.att = (reMatch { s with att := { s.att with entries := entries } }).att ∧
      u.roll.jamCount = (reMatch { s with att := { s.att with entries := entries } }).roll.jamCount ∧
      AttActs (reMatch { s with att := { s.att with entries := entries } }) u := by
    show (writeEntry index e s).att = _ ∧ (writeEntry index e s).roll.jamCount = _ ∧ AttActs _ (writeEntry index e s)
    unfold writeEntry
    dsimp only
    split
    · exact ⟨rfl, rfl, rfl, rfl, rfl, rfl⟩
    · exact ⟨rollEvaluate_att _, rollEvaluate_jamCount _, rollEvaluate_drive _, rollEvaluate_prot _, rollEvaluate_store _,
        rollEvaluate_debris _⟩
  obtain ⟨hatt, hroll, hlast⟩ := hu
  rw [hatt, hroll]
  refine ⟨hentries, hcandidate, hcount, hvoltage, habsent, hpresent, hjam, AttActs.trans ?_ hlast⟩
  exact ⟨hacts.drive, hacts.prot, hacts.store, hacts.debris⟩

/-- Settles O41. -/
theorem sensorSettingsTakeEffect : Obligations.SensorSettingsTakeEffect := by
  intro s kind rest p b asked levels rising
  have hdebris : s.debris = b.debris := (beginTaking_debris rest s).symm
  have hsession : s.stick = b.stick := (beginTaking_stick rest s).symm
  have hatt : s.att = b.att := (beginTaking_att rest s).symm
  have hevac : s.evacSet = b.evacSet := (beginTaking_evacSet rest s).symm
  refine ⟨fun heads hrole hlen hform hkeep => ⟨fun hrising => ?_, fun hnot => ?_⟩, fun heads hrole => ?_,
    fun policy heads hlen hthreshold hpower hpolicy hkeep => ?_, fun heads hrole hlen hform => ?_⟩
  · rw [hdebris]
    exact ⟨applyDirtLevels levels b, request_acts_setting (q := setDirtLevelsSpec) (x := levels) (asked := asked) heads rfl rfl
      (accepts_stick hrole rfl) (lengthIs_of_eq hlen) (decide_eq_true hform) (setDirtLevelsSpec_act_taken b hkeep hrising),
      leavesAs_reported (applyDirtLevels_reported b levels)⟩
  · exact request_acts_refused (q := setDirtLevelsSpec) (r := .outOfRange) heads rfl rfl (accepts_stick hrole rfl)
      (lengthIs_of_eq hlen) (decide_eq_true hform) (setDirtLevelsSpec_act_outOfRange b hkeep hnot)
  · rw [hdebris, hsession, hevac]
    exact ⟨emptyBin b, request_acts_ok (q := clearBinSpec) heads rfl rfl (accepts_stick hrole rfl) rfl rfl rfl,
      leavesAs_reported (emptyBin_reported b)⟩
  · intro asked e
    have hrole : setEvacuationSpec.accepts s.ctl.role = true := accepts_both _ rfl rfl
    have hcanonical : setEvacuationSpec.canonical p = true := by
      show (decide (u32At p 1 < 1048576) && settings16 [6] p) = true
      rw [settings16_singleton, Bool.and_eq_true]
      exact ⟨decide_eq_true hthreshold, decide_eq_true hpower⟩
    have hact := setEvacuationSpec_act_taken b hpolicy hkeep
    rw [deriveRequest_eq] at hact
    rw [hdebris, hsession]
    exact request_acts_setting (q := setEvacuationSpec) (x := e) (asked := asked) heads rfl rfl hrole (lengthIs_of_eq hlen)
      hcanonical hact
  · intro e entries
    refine ⟨fun hindex henabled hauto hkeep hbounds => ?_, fun hindex => ?_⟩
    · obtain ⟨hentries, hcandidate, hcount, hvoltage, habsent, hpresent, hjam, hacts⟩ := writeEntry_effect (byteAt p 0) e b
      rw [← hatt] at hentries hvoltage habsent hpresent hjam
      refine ⟨writeEntry (byteAt p 0) e b, if e = requestEntry p then 0x00 else 0x02,
        request_acts_setting (q := setAttachmentSpec) (x := e) (asked := requestEntry p) heads rfl rfl
          (accepts_stick hrole rfl) (lengthIs_of_eq hlen) hform
          (setAttachmentSpec_act_taken b hindex henabled hauto hkeep hbounds),
        ?_, ?_, hentries, hcandidate, hcount, hvoltage, habsent, hpresent, hjam, ?_, ?_, ?_, ?_⟩
      · by_cases heq : e = requestEntry p
        · exact .inl (if_pos heq)
        · exact .inr (if_neg heq)
      · by_cases heq : e = requestEntry p
        · simp [heq]
        · simp [heq]
      · exact hacts.drive.trans (beginTaking_drive rest s)
      · exact hacts.prot.trans (beginTaking_prot rest s)
      · exact hacts.store.trans (beginTaking_store rest s)
      · exact hacts.debris.trans (beginTaking_debris rest s)
    · exact request_acts_refused (q := setAttachmentSpec) (r := .outOfRange) heads rfl rfl (accepts_stick hrole rfl)
        (lengthIs_of_eq hlen) hform (setAttachmentSpec_act_outOfRange b hindex)

end Sys2Proof.Machine

/-! The ID line (section 5.2). -/

namespace Sys2Proof.Machine

open Sys2Proof

/-! ### Resolution (R102) -/

theorem contains_num (e : AttEntry) (v : Int) :
    e.contains (.num v) = true ↔ e.enabled = true ∧ (e.idLow : Int) ≤ v ∧ v ≤ e.idHigh := by
  simp [AttEntry.contains, and_assoc]

theorem resolveId_bare (entries : List AttEntry) {r : Reading} (h : r.ge 3200 = true) : resolveId entries r = .bare :=
  if_pos h

theorem num_below_bare {v : Int} (h : v < 3200) : (Reading.num v).ge 3200 = false := decide_eq_false (by omega)

/-- A reading below the bare wand's resolves to the first entry that contains it. -/
theorem resolveId_entry {entries : List AttEntry} {v : Int} {i : Nat} (hv : v < 3200)
    (h : entries.findIdx? (fun e => e.contains (.num v)) = some i) : resolveId entries (.num v) = .entry i := by
  unfold resolveId
  rw [num_below_bare hv, if_neg Bool.false_ne_true, h]

theorem resolveId_unknown {entries : List AttEntry} {v : Int} (hv : v < 3200)
    (h : entries.findIdx? (fun e => e.contains (.num v)) = none) : resolveId entries (.num v) = .unknown := by
  unfold resolveId
  rw [num_below_bare hv, if_neg Bool.false_ne_true, h]

/-- Where an entry contains the reading, the first that does is no later. -/
theorem findIdx?_contains {entries : List AttEntry} {v : Int} {i : Nat} {e : AttEntry} (hi : entries[i]? = some e)
    (he : e.contains (.num v) = true) : ∃ j f, j ≤ i ∧ entries[j]? = some f ∧ f.contains (.num v) = true ∧
      entries.findIdx? (fun e => e.contains (.num v)) = some j := by
  obtain ⟨hlt, hget⟩ := List.getElem?_eq_some_iff.mp hi
  cases hfind : entries.findIdx? (fun e => e.contains (.num v)) with
  | none =>
    have hno := List.findIdx?_eq_none_iff.mp hfind e (List.mem_of_getElem? hi)
    rw [he] at hno
    cases hno
  | some j =>
    obtain ⟨hj, hcontains, hfirst⟩ := List.findIdx?_eq_some_iff_getElem.mp hfind
    refine ⟨j, entries[j], ?_, List.getElem?_eq_getElem hj, hcontains, rfl⟩
    refine Classical.byContradiction fun hlater => ?_
    have hno := hfirst i (by omega)
    rw [hget, he] at hno
    exact hno rfl

/-! ### Debounce (R103, R104) -/

/-- The match record with a sample taken, before it is judged (R102). -/
def sampled (reading : Reading) (s : State) : State :=
  { s with att := { s.att with latest := reading, sampleTimer := some (s.ctl.partTime + 50) } }

theorem exec_idSample (reading : Reading) {s : State} (hpower : s.ctl.power ≠ .ship)
    (htimer : s.att.sampleTimer.isSome = true) : exec (.idSample reading) s
      = .next (settle (judgeSample (resolveId s.att.entries reading) reading (sampled reading s))) :=
  event_occurs htimer hpower

section
variable {r : MatchResult} {reading : Reading} {s : State}

theorem judgeSample_confirms (h : r = s.att.result) : judgeSample r reading s
    = { s with att := { s.att with voltage := reading, candidate := none, count := 0 } } := if_pos h

theorem judgeSample_starts (h : r ≠ s.att.result) (hcandidate : s.att.candidate ≠ some r) : judgeSample r reading s
    = { s with att := { s.att with candidate := some r, count := 1 } } := by
  unfold judgeSample
  rw [if_neg h, if_neg hcandidate]
  rfl

theorem judgeSample_counts (h : r ≠ s.att.result) (hcandidate : s.att.candidate = some r) :
    judgeSample r reading s = candidateCounted r (s.att.count + 1) reading s := by
  unfold judgeSample
  rw [if_neg h, if_pos hcandidate]

theorem judgeSample_second (h : r ≠ s.att.result) (hcandidate : s.att.candidate = some r) (hcount : s.att.count = 1) :
    judgeSample r reading s = { s with att := { s.att with count := 2 } } := by
  rw [judgeSample_counts h hcandidate, hcount]
  show ({ s with att := { s.att with candidate := some r, count := 2 } } : State) = _
  rw [← hcandidate]

theorem judgeSample_third (h : r ≠ s.att.result) (hcandidate : s.att.candidate = some r) (hcount : s.att.count = 2) :
    judgeSample r reading s = attachmentChange r reading .sample s := by
  rw [judgeSample_counts h hcandidate, hcount]
  rfl

end

/-- A changed match releases a latched roll drive (R104, R112). -/
theorem attachmentChange_roll (result : MatchResult) (voltage : Reading) (cause : AttCause) {s : State}
    (h : s.roll.state = .jamLatched ∨ s.roll.state = .fault) :
    (attachmentChange result voltage cause s).roll.state = .off := by
  have hoff : ∀ u : State, u.roll.state = .off → (rollEvaluate u).roll.state = .off := fun u hu => by
    rw [rollEvaluate_of_rest (by rw [hu]; rfl), hu]
  unfold attachmentChange rollRelease
  refine hoff _ ?_
  show (State.roll (ite _ _ _)).state = _
  rw [if_pos ((held_iff _).mpr (by simpa using h))]
  simp

theorem attachmentChange_pack (result : MatchResult) (voltage : Reading) (cause : AttCause) (s : State) :
    (attachmentChange result voltage cause s).pack = s.pack := by
  unfold attachmentChange
  simp [clearJams]

/-- The entry to SHIP stops the sample timer alone. -/
theorem settle_att (u : State) : (settle u).att = { u.att with sampleTimer := (settle u).att.sampleTimer } :=
  (settle_leavesAs u).att

/-- Settles O50. -/
theorem idSampleDebounces : Obligations.IdSampleDebounces := by
  refine ⟨fun entries v => ⟨fun hv => resolveId_bare _ (decide_eq_true hv), rfl, fun hv i e hi henabled hlow hhigh => ?_,
    fun hv hnone => ?_⟩, fun s reading hpower htimer => ?_⟩
  · obtain ⟨j, f, hj, hget, hcontains, hfind⟩ := findIdx?_contains hi ((contains_num e v).mpr ⟨henabled, hlow, hhigh⟩)
    obtain ⟨hfenabled, hflow, hfhigh⟩ := (contains_num f v).mp hcontains
    exact ⟨j, f, hj, hget, resolveId_entry hv hfind, hfenabled, hflow, hfhigh⟩
  · refine resolveId_unknown hv (List.findIdx?_eq_none_iff.mpr fun e he => Bool.eq_false_iff.mpr fun hcontains => ?_)
    obtain ⟨henabled, hlow, hhigh⟩ := (contains_num e v).mp hcontains
    have hout := hnone e he henabled
    omega
  · intro r att
    have hexec := exec_idSample reading hpower htimer
    refine ⟨fun hsame => ?_, fun hnew hcandidate => ?_, fun hnew hcandidate hcount => ?_, fun hnew hcandidate hcount => ?_⟩
    · rw [hexec, judgeSample_confirms (s := sampled reading s) hsame]
      rfl
    · rw [hexec, judgeSample_starts (s := sampled reading s) hnew hcandidate]
      rfl
    · rw [hexec, judgeSample_second (s := sampled reading s) hnew hcandidate hcount]
      rfl
    · rw [judgeSample_third (s := sampled reading s) hnew hcandidate hcount] at hexec
      obtain ⟨hatt, hjam, hacts⟩ := attachmentChange_effect r reading .sample (sampled reading s)
      refine ⟨_, hexec, ?_⟩
      have hatt' := settle_att (attachmentChange r reading .sample (sampled reading s))
      rw [hatt] at hatt'
      rw [hatt', settle_roll, settle_drive, settle_prot]
      exact ⟨rfl, rfl, rfl, rfl, rfl, hjam, fun h => attachmentChange_roll r reading .sample (s := sampled reading s) h,
        hacts.drive, packKept_settle (attachmentChange_pack r reading .sample (sampled reading s)), hacts.prot⟩

end Sys2Proof.Machine

/-! The store requests (section 10.3). -/

namespace Sys2Proof.Machine

open Sys2Proof

/-! ### STORE_READ (R187) -/

section
variable {p : List Byte} {b : State}

theorem storeReadSpec_act_unlisted (h : tagListed (byteAt p 0) = false) : storeReadSpec.act p b = refuse .outOfRange b := by
  unfold storeReadSpec
  exact if_neg (by rw [h]; decide)

theorem storeReadSpec_act_missing (h : tagListed (byteAt p 0) = true) (hnone : lookup b.store.mem (byteAt p 0) = none) :
    storeReadSpec.act p b = ⟨.ok, b, [0x00, 0xFF, 0x00]⟩ := by
  unfold storeReadSpec
  dsimp only
  rw [if_pos h, hnone]
  rfl

theorem storeReadSpec_act_found {seg : Nat} {v : List Byte} (h : tagListed (byteAt p 0) = true)
    (hfound : lookup b.store.mem (byteAt p 0) = some (seg, v)) :
    storeReadSpec.act p b = ⟨.ok, b, [0x01, BitVec.ofNat 8 seg, BitVec.ofNat 8 v.length] ++ v⟩ := by
  unfold storeReadSpec
  dsimp only
  rw [if_pos h, hfound]
  rfl

/-! ### STORE_WRITE (R182, R185) -/

/-- A tag with a length of its own is listed. -/
theorem tagListed_of_tagLength {tag len : Nat} (h : tagLength tag len = true) : tagListed tag = true := by
  unfold tagLength at h
  unfold tagListed
  split at h
  case h_13 =>
    simp only [Bool.and_eq_true, decide_eq_true_eq] at h
    simp [h.1]
  all_goals rfl

section
variable (hlen : byteAt p 2 + 3 = p.length) (htag : tagLength (byteAt p 1) (byteAt p 2) = true) (hlock : byteAt p 1 ≠ 0xFE)
include hlen htag hlock

/-- A write of a listed tag and length comes to the selector, the factory lock and the operation in flight. -/
theorem storeWriteSpec_act_eq (hselector : byteAt p 0 ≤ 1) : storeWriteSpec.act p b =
    if byteAt p 0 = 1 ∧ b.store.factoryLock = true then refuse .locked b
    else if b.store.op.isSome then refuse .busy b
    else if byteAt p 0 = 1 then ⟨.accepted, startFactoryWrite 0x31 (byteAt p 1) (p.drop 3) b, []⟩
    else ⟨.accepted, startUserWrite 0x31 (byteAt p 1) (p.drop 3) b, []⟩ := by
  have hvalue : (p.drop 3).length = byteAt p 2 := by rw [List.length_drop]; omega
  unfold storeWriteSpec
  dsimp only
  rw [if_neg (Nat.not_lt.mpr hselector), if_neg (by rw [tagListed_of_tagLength htag]; simp [hlock]),
    if_neg (by rw [htag, hvalue]; simp)]

theorem storeWriteSpec_act_user (hselector : byteAt p 0 = 0) (hop : b.store.op = none) :
    storeWriteSpec.act p b = ⟨.accepted, startUserWrite 0x31 (byteAt p 1) (p.drop 3) b, []⟩ := by
  rw [storeWriteSpec_act_eq hlen htag hlock (by omega), if_neg (by omega), if_neg (by rw [hop]; decide), if_neg (by omega)]

theorem storeWriteSpec_act_factory (hselector : byteAt p 0 = 1) (hfree : b.store.factoryLock = false)
    (hop : b.store.op = none) :
    storeWriteSpec.act p b = ⟨.accepted, startFactoryWrite 0x31 (byteAt p 1) (p.drop 3) b, []⟩ := by
  rw [storeWriteSpec_act_eq hlen htag hlock (by omega), if_neg (by rw [hfree]; simp), if_neg (by rw [hop]; decide),
    if_pos hselector]

theorem storeWriteSpec_act_locked (hselector : byteAt p 0 = 1) (hset : b.store.factoryLock = true) :
    storeWriteSpec.act p b = refuse .locked b := by
  rw [storeWriteSpec_act_eq hlen htag hlock (by omega), if_pos ⟨hselector, hset⟩]

theorem storeWriteSpec_act_busy (hselector : byteAt p 0 = 0) (hop : b.store.op.isSome = true) :
    storeWriteSpec.act p b = refuse .busy b := by
  rw [storeWriteSpec_act_eq hlen htag hlock (by omega), if_neg (by omega), if_pos hop]

end

theorem storeWriteSpec_act_outOfRange (h : 1 < byteAt p 0) : storeWriteSpec.act p b = refuse .outOfRange b := by
  unfold storeWriteSpec
  exact if_pos h

/-- With no active segment a user write begins as a compaction into segment 1 (R182, R183). -/
theorem startUserWrite_inactive (origin tag : Nat) (value : List Byte) (h : b.store.active = none) :
    startUserWrite origin tag value b = startCompaction 1 1 origin tag value b := by
  unfold startUserWrite
  rw [h]

theorem startFactoryWrite_fits (origin tag : Nat) {value : List Byte} (h : b.store.fits 0 value.length = true) :
    startFactoryWrite origin tag value b
      = { b with store := { b.store with op := some ⟨.write, 0, tag, origin, value, 0, 0⟩ } } := by
  unfold startFactoryWrite
  rw [if_pos h]
  rfl

/-! ### STORE_ERASE (R183, R186) -/

theorem storeEraseSpec_act_outOfRange (h : 3 < byteAt p 0) : storeEraseSpec.act p b = refuse .outOfRange b := by
  unfold storeEraseSpec
  exact if_pos h

theorem storeEraseSpec_act_locked (h : byteAt p 0 = 0) (hset : b.store.factoryLock = true) :
    storeEraseSpec.act p b = refuse .locked b := by
  unfold storeEraseSpec
  dsimp only
  rw [if_neg (by omega), if_pos ⟨h, hset⟩]

section
variable (h : byteAt p 0 ≤ 3) (hfree : byteAt p 0 ≠ 0 ∨ b.store.factoryLock = false)
include h hfree

theorem storeEraseSpec_act_eq : storeEraseSpec.act p b =
    if b.store.op.isSome then refuse .busy b else ⟨.accepted, startErase 0x32 (byteAt p 0) b, []⟩ := by
  have hunlocked : ¬ (byteAt p 0 = 0 ∧ b.store.factoryLock = true) := by
    rintro ⟨hzero, hset⟩
    exact hfree.elim (fun hne => hne hzero) fun hclear => by rw [hset] at hclear; cases hclear
  unfold storeEraseSpec
  dsimp only
  rw [if_neg (Nat.not_lt.mpr h), if_neg hunlocked]

theorem storeEraseSpec_act_busy (hop : b.store.op.isSome = true) : storeEraseSpec.act p b = refuse .busy b := by
  rw [storeEraseSpec_act_eq h hfree, if_pos hop]

theorem storeEraseSpec_act_taken (hop : b.store.op = none) :
    storeEraseSpec.act p b = ⟨.accepted, startErase 0x32 (byteAt p 0) b, []⟩ := by
  rw [storeEraseSpec_act_eq h hfree, if_neg (by rw [hop]; decide)]

end

end

/-- A request that its own stage answers ACCEPTED. -/
theorem request_acts_accepted {q : RequestSpec} {s u : State} {kind : Byte} {p : List Byte} {rest : List HostFrame}
    (h : Spec.Heads s q.code kind p rest) (hs : q.alwaysSummary = false) (hr : q.resets = false)
    (hrole : q.accepts s.ctl.role = true) (hl : q.lengthOk p = true) (hc : q.canonical p = true)
    (hj : q.act p (beginTaking rest s) = ⟨.accepted, u, []⟩) :
    request q s = .next (settle (Spec.reply kind 0x01 [] u)) := by
  rw [request_acts_as h hs hr hrole hl hc hj]
  rfl

theorem leavesAs_refl (u : State) : Spec.LeavesAs u u := leavesAs_reported (.refl u)

/-- Settles O58. -/
theorem storeRequestsAct : Obligations.StoreRequestsAct := by
  intro s kind rest p b
  have hstore : s.store = b.store := (beginTaking_store rest s).symm
  rw [hstore]
  refine ⟨fun heads hlen => ?read, ?write, fun heads hlen => ?erase⟩
  case read =>
    have hrole : storeReadSpec.accepts s.ctl.role = true := accepts_both _ rfl rfl
    refine ⟨fun h => ?_, fun h hnone => ?_, fun seg v h hfound => ?_⟩
    · exact request_acts_refused (q := storeReadSpec) (r := .outOfRange) heads rfl rfl hrole (lengthIs_of_eq hlen) rfl
        (storeReadSpec_act_unlisted h)
    · exact request_acts_ok (q := storeReadSpec) heads rfl rfl hrole (lengthIs_of_eq hlen) rfl
        (storeReadSpec_act_missing h hnone)
    · exact request_acts_ok (q := storeReadSpec) heads rfl rfl hrole (lengthIs_of_eq hlen) rfl
        (storeReadSpec_act_found h hfound)
  case write =>
    intro heads hlo hhi hlen htag hlock write
    have hrole : storeWriteSpec.accepts s.ctl.role = true := accepts_both _ rfl rfl
    have hok : storeWriteSpec.lengthOk p = true := decide_eq_true ⟨hlo, hhi⟩
    have hvalue : (p.drop 3).length = byteAt p 2 := by rw [List.length_drop]; omega
    refine ⟨fun seg hsel hop hactive hfits => ?_, fun hsel hop hactive => ?_, fun hsel hfree hop hfits => ?_,
      fun hsel hset => ?_, fun hsel hop => ?_, fun hsel => ?_⟩
    · have hact := storeWriteSpec_act_user (b := b) hlen htag hlock hsel hop
      rw [startUserWrite_fits _ _ hactive (by rwa [hvalue])] at hact
      exact request_acts_accepted (q := storeWriteSpec) heads rfl rfl hrole hok rfl hact
    · have hact := storeWriteSpec_act_user (b := b) hlen htag hlock hsel hop
      rw [startUserWrite_inactive _ _ _ hactive] at hact
      exact ⟨_, request_acts_accepted (q := storeWriteSpec) heads rfl rfl hrole hok rfl hact, rfl, rfl, rfl,
        leavesAs_refl _⟩
    · have hact := storeWriteSpec_act_factory (b := b) hlen htag hlock hsel hfree hop
      rw [startFactoryWrite_fits _ _ (by rwa [hvalue])] at hact
      exact request_acts_accepted (q := storeWriteSpec) heads rfl rfl hrole hok rfl hact
    · exact request_acts_refused (q := storeWriteSpec) (r := .locked) heads rfl rfl hrole hok rfl
        (storeWriteSpec_act_locked hlen htag hlock hsel hset)
    · exact request_acts_refused (q := storeWriteSpec) (r := .busy) heads rfl rfl hrole hok rfl
        (storeWriteSpec_act_busy hlen htag hlock hsel hop)
    · exact request_acts_refused (q := storeWriteSpec) (r := .outOfRange) heads rfl rfl hrole hok rfl
        (storeWriteSpec_act_outOfRange hsel)
  case erase =>
    have hrole : storeEraseSpec.accepts s.ctl.role = true := accepts_both _ rfl rfl
    refine ⟨fun h => ?_, fun h hset => ?_, fun h hfree hop => ?_, fun h hfree hop => ?_⟩
    · exact request_acts_refused (q := storeEraseSpec) (r := .outOfRange) heads rfl rfl hrole (lengthIs_of_eq hlen) rfl
        (storeEraseSpec_act_outOfRange h)
    · exact request_acts_refused (q := storeEraseSpec) (r := .locked) heads rfl rfl hrole (lengthIs_of_eq hlen) rfl
        (storeEraseSpec_act_locked h hset)
    · exact request_acts_refused (q := storeEraseSpec) (r := .busy) heads rfl rfl hrole (lengthIs_of_eq hlen) rfl
        (storeEraseSpec_act_busy h hfree hop)
    · exact ⟨_, request_acts_accepted (q := storeEraseSpec) heads rfl rfl hrole (lengthIs_of_eq hlen) rfl
        (storeEraseSpec_act_taken h hfree hop), rfl, rfl, rfl, leavesAs_refl _⟩

end Sys2Proof.Machine

/-! The completions of the store's operations (section 10.2). -/

namespace Sys2Proof.Machine

open Sys2Proof

/-! ### The ends of an operation (R182) -/

theorem endOp_reported (op : StoreOp) (result : DoneResult) (s : State) :
    Reported { s with store := { s.store with op := none } } (endOp op result s) := handReport_reported _ _

section
variable (op : StoreOp) (result : DoneResult) (s : State)

theorem endOp_store : (endOp op result s).store = { s.store with op := none } := by
  rw [(endOp_reported op result s).state]

theorem endOp_drive : (endOp op result s).drive = s.drive := by
  rw [(endOp_reported op result s).state]

theorem endOp_pack : (endOp op result s).pack = s.pack := by
  rw [(endOp_reported op result s).state]

theorem endOp_ctl : (endOp op result s).ctl = s.ctl := by
  rw [(endOp_reported op result s).state]

end

/-- An operation that fails ends with a fault entry that names its tag and a segment (R182). -/
theorem failOp_effect (op : StoreOp) (code : FaultCode) (seg : Nat) {s u : State} (hctl : u.ctl = s.ctl) :
    let t := settle (failOp op code seg u)
    t.store.op = none ∧ t.freeCount = u.freeCount ∧ t.ctl.nextSeq = s.ctl.nextSeq + 1 ∧
      (op.tag < 32767 → seg < 32767 → Spec.Logged s t .store code (.num op.tag) (some (.num seg))) := by
  intro t
  have hended := endOp_reported op .storeFailed (storeFault code op.tag seg u)
  have hlogged : Spec.Logged s (failOp op code seg u) .store code (Reading.num op.tag).fit16
      ((some (Reading.num seg)).map Reading.fit16) :=
    Logged.reported (t := { storeFault code op.tag seg u with
      store := { (storeFault code op.tag seg u).store with op := none } })
      (appendFault_logged .store code (.num op.tag) (some (.num seg)) hctl) hended
  have hseq := hlogged.2.1
  refine ⟨?_, ?_, ?_, fun htag hseg => ?_⟩
  · rw [settle_store]
    exact congrArg Store.op (endOp_store op .storeFailed _)
  · rw [settle_freeCount]
    show (endOp _ _ _).freeCount = _
    rw [hended.state]
    exact appendFault_freeCount _ _ _ _ _
  · rw [settle_ctl_nextSeq]
    exact hseq
  · rw [Option.map_some, Reading.fit16_num (by omega) (by omega), Reading.fit16_num (by omega) (by omega)] at hlogged
    exact Logged.settled hlogged

/-! ### The bytes of a segment -/

/-- The cells that stay after a segment is cleared read as before, and those of the segment as erased. -/
theorem memRead_segClear (mem : List Host.Cell) (seg a : Nat) : memRead (segClear mem seg) a
    = if seg * segSize ≤ a ∧ a < seg * segSize + segSize then erased else memRead mem a := by
  induction mem with
  | nil => simp [segClear, memRead]
  | cons cell rest ih =>
    obtain ⟨k, v⟩ := cell
    unfold segClear at ih ⊢
    by_cases hin : seg * segSize ≤ k ∧ k < seg * segSize + segSize
    · rw [List.filter_cons_of_neg (by simp [hin]), ih]
      by_cases ha : seg * segSize ≤ a ∧ a < seg * segSize + segSize
      · rw [if_pos ha, if_pos ha]
      · have hne : k ≠ a := fun h => ha (h ▸ hin)
        rw [if_neg ha, if_neg ha, memRead, if_neg hne]
    · rw [List.filter_cons_of_pos (by simp; omega), memRead, ih]
      by_cases hk : k = a
      · rw [if_pos hk, if_neg (hk ▸ hin), memRead, if_pos hk]
      · rw [if_neg hk, memRead, if_neg hk]

theorem recordBytes_length (tag : Nat) (value : List Byte) : (recordBytes tag value).length = value.length + 3 := by
  simp [recordBytes]

theorem appendBytes_at {st : Store} {seg pos : Nat} (bytes : List Byte) (h : st.append[seg]? = some (some pos)) :
    st.appendBytes seg bytes
      = (st.setMem (segWrite st.mem seg pos bytes)).setAppend seg (some (pos + bytes.length)) := by
  have hat : st.appendAt seg = some pos := by
    unfold Store.appendAt
    rw [List.getD_eq_getElem?_getD, h]
    rfl
  unfold Store.appendBytes
  rw [hat]

@[simp] theorem setMem_mem (st : Store) (mem : List Host.Cell) : (st.setMem mem).mem = mem := rfl

@[simp] theorem setMem_append (st : Store) (mem : List Host.Cell) : (st.setMem mem).append = st.append := rfl

@[simp] theorem setMem_active (st : Store) (mem : List Host.Cell) : (st.setMem mem).active = activeOf mem := rfl

@[simp] theorem setAppend_mem (st : Store) (seg : Nat) (pos : Option Nat) : (st.setAppend seg pos).mem = st.mem := rfl

@[simp] theorem setAppend_append (st : Store) (seg : Nat) (pos : Option Nat) :
    (st.setAppend seg pos).append = st.append.set seg pos := rfl

@[simp] theorem setAppend_active (st : Store) (seg : Nat) (pos : Option Nat) :
    (st.setAppend seg pos).active = st.active := rfl

/-- Nothing appended leaves the memory. -/
theorem appendBytes_nil_mem (st : Store) (seg : Nat) : (st.appendBytes seg []).mem = st.mem := by
  unfold Store.appendBytes
  split <;> rfl

theorem lockIf_keeps (st : Store) (seg tag : Nat) : (st.lockIf seg tag).mem = st.mem ∧
    (st.lockIf seg tag).append = st.append ∧ (st.lockIf seg tag).active = st.active := by
  unfold Store.lockIf
  split <;> exact ⟨rfl, rfl, rfl⟩

/-! ### Writes and erases (R182, R183) -/

section
variable {s : State} {op : StoreOp} (hpower : s.ctl.power ≠ .ship) (hop : s.store.op = some op)
include hpower hop

theorem exec_storeWriteComplete (matched : Bool) (h : op.kind = .write) :
    exec (.storeWriteComplete matched) s = .next (settle (completeWrite op matched s)) := by
  have hexec : exec (.storeWriteComplete matched) s
      = .next (settle (withOp (fun op => completeWrite op matched) s)) :=
    event_occurs (by simp [State.opIs, hop, h]) hpower
  rw [hexec, withOp, hop]

theorem exec_storeEraseComplete (matched : Bool) (h : op.kind = .erase) :
    exec (.storeEraseComplete matched) s = .next (settle (completeErase op matched s)) := by
  have hexec : exec (.storeEraseComplete matched) s
      = .next (settle (withOp (fun op => completeErase op matched) s)) :=
    event_occurs (by simp [State.opIs, hop, h]) hpower
  rw [hexec, withOp, hop]

theorem exec_compactionStepComplete_ok (h : op.kind = .compaction) :
    exec (.compactionStepComplete none) s = .next (settle (compactionStepOk op s)) := by
  have hexec : exec (.compactionStepComplete none) s = .next (settle (withOp (fun op => compactionStepOk op) s)) :=
    event_occurs (by simp [State.opIs, hop, h]) hpower
  rw [hexec, withOp, hop]

theorem exec_compactionStepComplete_bad (x : Fin 4) (h : op.kind = .compaction) :
    exec (.compactionStepComplete (some x)) s = .next (settle (compactionStepBad op x.val s)) := by
  have hexec : exec (.compactionStepComplete (some x)) s
      = .next (settle (withOp (fun op => compactionStepBad op x.val) s)) :=
    event_occurs (by simp [State.opIs, hop, h]) hpower
  rw [hexec, withOp, hop]

end

/-! ### Steps of a compaction (R183) -/

/-- The two user segments that a compaction erases last. -/
theorem otherSegments_eq {seg : Nat} (hlo : 1 ≤ seg) (hhi : seg ≤ 3) :
    otherSegments seg = [if seg = 1 then 2 else 1, if seg = 3 then 2 else 3] := by
  have hseg : seg = 1 ∨ seg = 2 ∨ seg = 3 := by omega
  rcases hseg with rfl | rfl | rfl <;> rfl

theorem mismatchSegment_of_other {op : StoreOp} {seg : Nat} (h : seg ∈ [1, 2, 3]) (hne : seg ≠ op.segment) :
    mismatchSegment op seg = seg := by
  have hmem : (otherSegments op.segment).contains seg = true := by
    rw [List.contains_iff_mem]
    exact List.mem_filter.mpr ⟨h, decide_eq_true hne⟩
  exact if_pos hmem

/-- What the first four steps of a compaction make of the store. -/
def steppedStore (op : StoreOp) (st : Store) : Store :=
  if op.step = 1 then st.clear op.segment
  else if op.step = 2 then st.appendBytes op.segment (copiesOf st)
  else if op.step = 3 then st.appendBytes op.segment (recordBytes op.tag op.value)
  else st.setMem (writeHeader st.mem op.segment op.generation)

theorem compactionStepOk_next {op : StoreOp} (s : State) (hlo : 1 ≤ op.step) (hhi : op.step < 5) :
    compactionStepOk op s = nextStep op { s with store := steppedStore op s.store } := by
  have hstep : op.step = 1 ∨ op.step = 2 ∨ op.step = 3 ∨ op.step = 4 := by omega
  unfold compactionStepOk steppedStore
  rcases hstep with h | h | h | h <;> rw [h] <;> rfl

theorem compactionStepOk_last {op : StoreOp} (s : State) (h : op.step = 5) :
    compactionStepOk op s
      = endOp op .ok { s with store := (otherSegments op.segment).foldl Store.clear s.store } := by
  unfold compactionStepOk
  rw [h]
  rfl

/-- Settles O59. -/
theorem storeOperationsEnd : Obligations.StoreOperationsEnd := by
  intro s op hpower hop
  refine ⟨fun pos hkind hpos => ?written, fun hkind => ?unwritten, fun hkind hseg hwf => ?erased, fun hkind => ?unerased,
    fun hkind => ⟨?step, ?last, ?mismatch⟩⟩
  case written =>
    have hexec := exec_storeWriteComplete hpower hop true hkind
    obtain ⟨hmem, happend, hactive⟩ := lockIf_keeps (s.store.appendBytes op.segment (recordBytes op.tag op.value)) op.segment
      op.tag
    rw [appendBytes_at _ hpos] at hmem happend hactive
    refine ⟨_, hexec, ?_⟩
    unfold completeWrite
    rw [if_pos rfl, settle_store, settle_drive, settle_ctl_ring, endOp_store, endOp_drive, endOp_ctl]
    dsimp only
    rw [appendBytes_at _ hpos, hmem, happend, hactive]
    refine ⟨rfl, by simp, ?_, by simp, rfl, packKept_settle (endOp_pack _ _ _), rfl⟩
    rw [setAppend_append, recordBytes_length]
    rfl
  case unwritten =>
    obtain ⟨hnone, hcount, -, hlogged⟩ := failOp_effect op .verify op.segment (s := s) (u := nextFree { s with
      store := s.store.appendBytes op.segment (failedRecord s.freeCount op.tag op.value.length) }) rfl
    exact ⟨_, exec_storeWriteComplete hpower hop false hkind, hnone, hcount, hlogged⟩
  case erased =>
    refine ⟨_, exec_storeEraseComplete hpower hop true hkind, ?_⟩
    unfold completeErase
    rw [if_pos rfl, settle_store, endOp_store]
    refine ⟨rfl, rfl, fun i hi => ?_, fun a ha => ?_⟩
    · refine (memRead_segClear s.store.mem op.segment _).trans (if_pos ⟨Nat.le_add_right _ _, ?_⟩)
      exact Nat.add_lt_add_left (m := segSize) hi _
    · refine (memRead_segClear s.store.mem op.segment a).trans (if_neg ?_)
      show ¬ (op.segment * 512 ≤ a ∧ a < op.segment * 512 + 512)
      omega
  case unerased =>
    obtain ⟨hnone, hcount, hseq, hlogged⟩ := failOp_effect op .verify op.segment (s := s) (u := nextFree { s with
      store := s.store.scramble s.freeCount op.segment }) (nextFree_ctl _)
    exact ⟨_, exec_storeEraseComplete hpower hop false hkind, hnone, hcount, hseq, hlogged⟩
  case step =>
    intro n hn hhi hlo
    subst hn
    refine ⟨_, exec_compactionStepComplete_ok hpower hop hkind, ?_⟩
    rw [compactionStepOk_next s hlo hhi, settle_store]
    show some _ = _ ∧ (_ → (steppedStore op s.store).mem = _ ∧ (steppedStore op s.store).append = _) ∧
      (∀ pos active, _ → _ → _ → (steppedStore op s.store).mem = _ ∧ (steppedStore op s.store).append = _) ∧
      (_ → _ → (steppedStore op s.store).mem = _) ∧
      (_ → (steppedStore op s.store).mem = _ ∧ (steppedStore op s.store).active = activeOf (steppedStore op s.store).mem) ∧
      (∀ pos, _ → _ → (steppedStore op s.store).mem = _)
    unfold steppedStore
    refine ⟨rfl, fun h => ?_, fun pos active h hpos hactive => ?_, fun h hactive => ?_, fun h => ?_, fun pos h hpos => ?_⟩
    · rw [h]
      exact ⟨rfl, rfl⟩
    · have hcopies : copiesOf s.store = (compactionCopies s.store.mem active).flatten := by
        rw [copiesOf, recordsToCopy, hactive]
      rw [h, hcopies, appendBytes_at _ hpos]
      exact ⟨rfl, rfl⟩
    · have hcopies : copiesOf s.store = [] := by
        rw [copiesOf, recordsToCopy, hactive]
        rfl
      rw [h, hcopies]
      exact appendBytes_nil_mem _ _
    · rw [h]
      exact ⟨rfl, rfl⟩
    · rw [h, if_neg (by decide), if_neg (by decide), if_pos rfl, appendBytes_at _ hpos, setAppend_mem,
        setMem_mem]
  case last =>
    intro hstep hlo hhi a b
    refine ⟨_, exec_compactionStepComplete_ok hpower hop hkind, ?_⟩
    rw [compactionStepOk_last s hstep, settle_store, endOp_store, otherSegments_eq hlo hhi]
    exact ⟨rfl, rfl, rfl⟩
  case mismatch =>
    intro x
    obtain ⟨hnone, hcount, hseq, hlogged⟩ := failOp_effect op .verify (compactionBad op x.val) (s := s) (u := nextFree { s with
      store := compactionDamage op (compactionBad op x.val) s.freeCount s.store }) rfl
    refine ⟨_, exec_compactionStepComplete_bad hpower hop x hkind, hnone, hseq, hcount, fun htag hseg =>
      ⟨fun hearly => ?_, fun hlate hx hne => ?_⟩⟩
    · have hbad : compactionBad op x.val = op.segment := if_pos hearly
      have hlast := hlogged htag (by rwa [hbad])
      rw [hbad] at hlast
      unfold compactionStepBad
      rw [hbad]
      exact hlast
    · have hbad : compactionBad op x.val = x.val :=
        (if_neg (Nat.not_lt.mpr hlate)).trans (mismatchSegment_of_other hx hne)
      have hlast := hlogged htag (by rw [hbad]; omega)
      rw [hbad] at hlast
      unfold compactionStepBad
      rw [hbad]
      exact hlast

end Sys2Proof.Machine

/-! What the scan and the lookup make of an appended record (sections 10.1 and 11.6). -/

namespace Sys2Proof.Machine

open Sys2Proof

/-! ### The bytes of an appended record -/

theorem tagLength_bounds {tag len : Nat} (h : tagLength tag len = true) :
    0 < tag ∧ tag < 255 ∧ 0 < len ∧ len ≤ 18 := by
  unfold tagLength at h
  split at h <;> simp only [Bool.and_eq_true, decide_eq_true_eq] at h <;> omega

/-- The check makes the byte sum of a record 0 (R181). -/
theorem byteSum_recordBytes (tag : Nat) (value : List Byte) : byteSum (recordBytes tag value) = 0 := by
  show byteSum (_ ++ [-(byteSum _)]) = 0
  generalize BitVec.ofNat 8 tag :: BitVec.ofNat 8 value.length :: value = body
  rw [byteSum, List.foldl_append]
  show byteSum body + -(byteSum body) = 0
  exact BitVec.add_right_neg _

theorem memRead_segWrite_outside {mem : List Host.Cell} {seg off a : Nat} {bytes : List Byte} (hwf : memWf mem = true)
    (h : a < seg * 512 + off ∨ seg * 512 + off + bytes.length ≤ a) :
    memRead (segWrite mem seg off bytes) a = memRead mem a := by
  rcases h with h | h
  · exact memRead_memWriteList_below _ _ _ _ hwf h
  · exact memRead_memWriteList_above _ _ _ _ hwf h

section
variable {mem : List Host.Cell} {seg off : Nat} {bytes : List Byte} (hwf : memWf mem = true)
include hwf

/-- A write within a segment leaves the bytes of the segment before and after it. -/
theorem segByte_segWrite_outside {i : Nat} (h : i < off ∨ off + bytes.length ≤ i) :
    segByte (segWrite mem seg off bytes) seg i = segByte mem seg i := by
  refine memRead_segWrite_outside hwf ?_
  show seg * 512 + i < seg * 512 + off ∨ seg * 512 + off + bytes.length ≤ seg * 512 + i
  omega

theorem segByte_segWrite_other {other i : Nat} (hfits : off + bytes.length ≤ 512) (hi : i < 512) (hne : other ≠ seg) :
    segByte (segWrite mem seg off bytes) other i = segByte mem other i := by
  refine memRead_segWrite_outside hwf ?_
  show other * 512 + i < seg * 512 + off ∨ seg * 512 + off + bytes.length ≤ other * 512 + i
  omega

theorem segByte_segWrite_inside {i : Nat} (hseg : seg < 4) (hfits : off + bytes.length ≤ 512) (hi : i < bytes.length) :
    segByte (segWrite mem seg off bytes) seg (off + i) = bytes[i] := by
  have hstore : seg * segSize + off + bytes.length ≤ storeSize := by
    show seg * 512 + off + bytes.length ≤ 2048
    omega
  have hread := memRead_memWriteList bytes mem (seg * segSize + off) i hwf hstore hi
  rw [Nat.add_assoc] at hread
  exact hread

end

theorem segBytes_congr {mem mem' : List Host.Cell} {seg : Nat} : ∀ (k off : Nat),
    (∀ i, off ≤ i → i < off + k → segByte mem seg i = segByte mem' seg i) → segBytes mem seg off k = segBytes mem' seg off k
  | 0, _, _ => rfl
  | k + 1, off, h => by
    rw [segBytes, segBytes, h off (by omega) (by omega), segBytes_congr k (off + 1) fun i hlo hhi => h i (by omega) (by omega)]

theorem segBytes_eq {mem : List Host.Cell} {seg : Nat} : ∀ (bytes : List Byte) (off : Nat),
    (∀ (i : Nat) (hi : i < bytes.length), segByte mem seg (off + i) = bytes[i]) → segBytes mem seg off bytes.length = bytes
  | [], _, _ => rfl
  | b :: rest, off, h => by
    have hfirst : segByte mem seg off = b := h 0 (by simp)
    have hrest : segBytes mem seg (off + 1) rest.length = rest := segBytes_eq rest (off + 1) fun i hi => by
      have hnext := h (i + 1) (by simpa using hi)
      rw [show off + 1 + i = off + (i + 1) by omega]
      simpa using hnext
    rw [List.length_cons, segBytes, hfirst, hrest]

/-! ### A step of the scan (R181) -/

/-- The tag and the length byte at a position, as the scan reads them. -/
def tagAt (mem : List Host.Cell) (seg pos : Nat) : Nat := (segByte mem seg pos).toNat

def lenAt (mem : List Host.Cell) (seg pos : Nat) : Nat := (segByte mem seg (pos + 1)).toNat

/-- The scan of a segment stops at a position as full. -/
def stopsFull (mem : List Host.Cell) (seg pos : Nat) : Prop :=
  tagAt mem seg pos = 0 ∨ 512 ≤ pos + 1 ∨ lenAt mem seg pos = 0 ∨ 60 < lenAt mem seg pos ∨ 512 < pos + lenAt mem seg pos + 3

section
variable {mem : List Host.Cell} {seg pos fuel : Nat}

theorem scanFrom_end (h : 512 ≤ pos) : scanFrom mem seg (fuel + 1) pos = ([], some pos) := if_pos h

theorem scanFrom_erased (hlt : pos < 512) (h : tagAt mem seg pos = 0xFF) :
    scanFrom mem seg (fuel + 1) pos = ([], some pos) :=
  (if_neg (Nat.not_le.mpr hlt)).trans (if_pos h)

theorem scanFrom_full (hlt : pos < 512) (htag : tagAt mem seg pos ≠ 0xFF) (h : stopsFull mem seg pos) :
    scanFrom mem seg (fuel + 1) pos = ([], none) :=
  (if_neg (Nat.not_le.mpr hlt)).trans ((if_neg htag).trans (if_pos h))

theorem scanFrom_record (hlt : pos < 512) (htag : tagAt mem seg pos ≠ 0xFF) (h : ¬ stopsFull mem seg pos) :
    scanFrom mem seg (fuel + 1) pos =
      let bytes := segBytes mem seg pos (lenAt mem seg pos + 3)
      let rest := scanFrom mem seg fuel (pos + lenAt mem seg pos + 3)
      if recordValid seg (tagAt mem seg pos) (lenAt mem seg pos) bytes then
        (⟨tagAt mem seg pos, (bytes.drop 2).take (lenAt mem seg pos)⟩ :: rest.1, rest.2)
      else rest :=
  (if_neg (Nat.not_le.mpr hlt)).trans ((if_neg htag).trans (if_neg h))

end

/-- The scan does not go back. -/
theorem scanFrom_le {mem : List Host.Cell} {seg : Nat} : ∀ {fuel pos last : Nat},
    (scanFrom mem seg fuel pos).2 = some last → pos ≤ last
  | 0, _, _, h => Nat.le_of_eq (Option.some.inj h)
  | fuel + 1, pos, last, h => by
    by_cases hend : 512 ≤ pos
    · rw [scanFrom_end hend] at h
      exact Nat.le_of_eq (Option.some.inj h)
    have hlt : pos < 512 := Nat.not_le.mp hend
    by_cases htag : tagAt mem seg pos = 0xFF
    · rw [scanFrom_erased hlt htag] at h
      exact Nat.le_of_eq (Option.some.inj h)
    by_cases hfull : stopsFull mem seg pos
    · rw [scanFrom_full hlt htag hfull] at h
      cases h
    · rw [scanFrom_record hlt htag hfull] at h
      dsimp only at h
      have hrest : (scanFrom mem seg fuel (pos + lenAt mem seg pos + 3)).2 = some last := by
        split at h <;> exact h
      have hle := scanFrom_le hrest
      omega

/-! ### The scan past an appended record -/

section
variable {mem after : List Host.Cell} {seg tag pos : Nat} {value : List Byte}
  (hbytes : ∀ (i : Nat) (hi : i < (recordBytes tag value).length), segByte after seg (pos + i) = (recordBytes tag value)[i])
  (htag : tagLength tag value.length = true)
include hbytes htag

theorem appended_tag : tagAt after seg pos = tag := by
  have hlen := recordBytes_length tag value
  obtain ⟨-, hhi, -⟩ := tagLength_bounds htag
  have hfirst := hbytes 0 (by omega)
  have hread : segByte after seg pos = BitVec.ofNat 8 tag := hfirst
  rw [tagAt, hread, BitVec.toNat_ofNat]
  omega

theorem appended_len : lenAt after seg pos = value.length := by
  have hlen := recordBytes_length tag value
  obtain ⟨-, -, -, hhi⟩ := tagLength_bounds htag
  have hsecond := hbytes 1 (by omega)
  have hread : segByte after seg (pos + 1) = BitVec.ofNat 8 value.length := hsecond
  rw [lenAt, hread, BitVec.toNat_ofNat]
  omega

/-- The scan finds the appended record at its position, and erased bytes right after it. -/
theorem scanFrom_appended (herased : ∀ i, pos + value.length + 3 ≤ i → i < 512 → segByte after seg i = 0xFF)
    (hlock : tag = 0xFE → seg = 0) (hfits : pos + value.length + 3 ≤ 512) (fuel : Nat) :
    scanFrom after seg (fuel + 2) pos = ([⟨tag, value⟩], some (pos + value.length + 3)) := by
  have htagAt := appended_tag hbytes htag
  have hlenAt := appended_len hbytes htag
  obtain ⟨htag0, htag255, hlen0, hlen18⟩ := tagLength_bounds htag
  have hfree : ¬ stopsFull after seg pos := by
    unfold stopsFull
    rw [htagAt, hlenAt]
    omega
  have hread : segBytes after seg pos (value.length + 3) = recordBytes tag value := by
    rw [← recordBytes_length tag value]
    exact segBytes_eq _ _ hbytes
  have hvalid : recordValid seg tag value.length (recordBytes tag value) = true := by
    unfold recordValid
    rw [byteSum_recordBytes, htag]
    by_cases hfe : tag = 0xFE
    · simp [hlock hfe]
    · simp [hfe]
  have hrest : scanFrom after seg (fuel + 1) (pos + value.length + 3) = ([], some (pos + value.length + 3)) := by
    by_cases hend : 512 ≤ pos + value.length + 3
    · exact scanFrom_end hend
    · have hnext := herased (pos + value.length + 3) (Nat.le_refl _) (by omega)
      exact scanFrom_erased (by omega) (by rw [tagAt, hnext]; rfl)
  have hvalue : ((recordBytes tag value).drop 2).take value.length = value := by
    simp [recordBytes]
  rw [scanFrom_record (by omega) (by rw [htagAt]; omega) hfree]
  dsimp only
  rw [htagAt, hlenAt, hread, if_pos hvalid, hrest, hvalue]

/-- A scan that ends at the position of the append finds the same records, and then the appended one. -/
theorem scanFrom_past (hbefore : ∀ i, i < pos → segByte after seg i = segByte mem seg i)
    (herased : ∀ i, pos + value.length + 3 ≤ i → i < 512 → segByte after seg i = 0xFF)
    (hlock : tag = 0xFE → seg = 0) (hfits : pos + value.length + 3 ≤ 512) : ∀ (fuel p : Nat), 514 ≤ p + 4 * fuel →
    (scanFrom mem seg fuel p).2 = some pos → scanFrom after seg fuel p
      = ((scanFrom mem seg fuel p).1 ++ [⟨tag, value⟩], some (pos + value.length + 3))
  | 0, p, hfuel, h => by
    have hp : p = pos := Option.some.inj h
    omega
  | fuel + 1, p, hfuel, h => by
    obtain ⟨-, -, hlen0, -⟩ := tagLength_bounds htag
    have happended : p = pos → (scanFrom mem seg (fuel + 1) p).1 = [] → scanFrom after seg (fuel + 1) p
        = ((scanFrom mem seg (fuel + 1) p).1 ++ [⟨tag, value⟩], some (pos + value.length + 3)) := by
      intro hp hnil
      obtain ⟨k, hk⟩ : ∃ k, fuel = k + 1 := ⟨fuel - 1, by omega⟩
      rw [hnil, hp, hk, scanFrom_appended hbytes htag herased hlock hfits]
      rfl
    by_cases hend : 512 ≤ p
    · rw [scanFrom_end hend] at h
      have hp : p = pos := Option.some.inj h
      omega
    have hlt : p < 512 := Nat.not_le.mp hend
    by_cases hff : tagAt mem seg p = 0xFF
    · have hscan := scanFrom_erased (fuel := fuel) hlt hff
      rw [hscan] at h
      exact happended (Option.some.inj h) (by rw [hscan])
    by_cases hfull : stopsFull mem seg p
    · rw [scanFrom_full hlt hff hfull] at h
      cases h
    · have hscan := scanFrom_record (fuel := fuel) hlt hff hfull
      have hrest : (scanFrom mem seg fuel (p + lenAt mem seg p + 3)).2 = some pos := by
        rw [hscan] at h
        dsimp only at h
        split at h <;> exact h
      have hle := scanFrom_le hrest
      have hlen1 : 1 ≤ lenAt mem seg p := by
        refine Classical.byContradiction fun hzero => ?_
        exact hfull (.inr (.inr (.inl (by omega))))
      have ih := scanFrom_past hbefore herased hlock hfits fuel (p + lenAt mem seg p + 3) (by omega) hrest
      have htagAt : tagAt after seg p = tagAt mem seg p := by rw [tagAt, tagAt, hbefore p (by omega)]
      have hlenAt : lenAt after seg p = lenAt mem seg p := by rw [lenAt, lenAt, hbefore (p + 1) (by omega)]
      have hread : segBytes after seg p (lenAt mem seg p + 3) = segBytes mem seg p (lenAt mem seg p + 3) :=
        segBytes_congr _ _ fun i _ hi => hbefore i (by omega)
      have hfull' : ¬ stopsFull after seg p := by
        unfold stopsFull at hfull ⊢
        rwa [htagAt, hlenAt]
      rw [scanFrom_record hlt (by rwa [htagAt]) hfull', hscan]
      dsimp only
      rw [htagAt, hlenAt, hread, ih]
      split <;> simp

end

/-! ### The lookup (R181) -/

section
variable {mem : List Host.Cell} {seg tag g : Nat} (hgen : generation mem seg = some g)
  (hhigher : ∀ other, other ∈ [1, 2, 3] → other ≠ seg → (generation mem other).getD 0 < g)
include hgen hhigher

/-- The segment of the highest generation is better than any other. -/
theorem betterHolder_highest (hholds : (lastRecord mem seg tag).isSome = true) {best : Option Nat}
    (hbest : ∀ b, best = some b → b ∈ [1, 2, 3] ∧ b ≠ seg) : betterHolder mem tag best seg = some seg := by
  unfold betterHolder betterSegment
  rw [if_pos hholds, hgen]
  cases best with
  | none => rfl
  | some b =>
    obtain ⟨hmem, hne⟩ := hbest b rfl
    exact if_pos (hhigher b hmem hne)

theorem betterHolder_keeps {other : Nat} (hmem : other ∈ [1, 2, 3]) (hne : other ≠ seg) :
    betterHolder mem tag (some seg) other = some seg := by
  have hlower := hhigher other hmem hne
  unfold betterHolder betterSegment
  split
  · cases hother : generation mem other with
    | none => rfl
    | some k =>
      rw [hother] at hlower
      refine if_neg ?_
      rw [hgen]
      exact Nat.not_lt.mpr (Nat.le_of_lt hlower)
  · rfl

end

theorem betterHolder_other {mem : List Host.Cell} {seg tag other : Nat} {best : Option Nat}
    (hbest : ∀ b, best = some b → b ∈ [1, 2, 3] ∧ b ≠ seg) (hmem : other ∈ [1, 2, 3]) (hne : other ≠ seg) :
    ∀ b, betterHolder mem tag best other = some b → b ∈ [1, 2, 3] ∧ b ≠ seg := by
  intro b hb
  have hcases : betterHolder mem tag best other = best ∨ betterHolder mem tag best other = some other := by
    unfold betterHolder betterSegment
    split
    · split
      · exact .inl rfl
      · exact .inr rfl
      · split
        · exact .inr rfl
        · exact .inl rfl
    · exact .inl rfl
  rcases hcases with h | h
  · exact hbest b (h ▸ hb)
  · rw [h] at hb
    cases hb
    exact ⟨hmem, hne⟩

/-- The lookup returns the last record of the user segment of the highest generation (R181). -/
theorem lookup_highest {mem : List Host.Cell} {seg tag g : Nat} {value : List Byte} (hlo : seg ≠ 0) (hhi : seg < 4)
    (hgen : generation mem seg = some g)
    (hhigher : ∀ other, other ∈ [1, 2, 3] → other ≠ seg → (generation mem other).getD 0 < g)
    (hlast : lastRecord mem seg tag = some value) : lookup mem tag = some (seg, value) := by
  have hnone : ∀ b, (none : Option Nat) = some b → b ∈ [1, 2, 3] ∧ b ≠ seg := fun b h => by cases h
  have hholds : (lastRecord mem seg tag).isSome = true := by rw [hlast]; rfl
  have hfold : [1, 2, 3].foldl (betterHolder mem tag) none = some seg := by
    show betterHolder mem tag (betterHolder mem tag (betterHolder mem tag none 1) 2) 3 = some seg
    have hseg : seg = 1 ∨ seg = 2 ∨ seg = 3 := by omega
    rcases hseg with rfl | rfl | rfl
    · rw [betterHolder_highest hgen hhigher hholds hnone, betterHolder_keeps hgen hhigher (by decide) (by decide),
        betterHolder_keeps hgen hhigher (by decide) (by decide)]
    · rw [betterHolder_highest hgen hhigher hholds (betterHolder_other hnone (by decide) (by decide)),
        betterHolder_keeps hgen hhigher (by decide) (by decide)]
    · exact betterHolder_highest hgen hhigher hholds
        (betterHolder_other (betterHolder_other hnone (by decide) (by decide)) (by decide) (by decide))
  unfold lookup
  rw [hfold]
  dsimp only
  rw [hlast]
  rfl

/-- The generation of a segment is read from its header alone. -/
theorem generation_congr {mem mem' : List Host.Cell} {seg : Nat} (h : ∀ i, i < 2 → segByte mem' seg i = segByte mem seg i) :
    generation mem' seg = generation mem seg := by
  have hheader : segHeader mem' seg = segHeader mem seg := by
    rw [segHeader, segHeader, h 0 (by decide), h 1 (by decide)]
  rw [generation, generation, hheader]

/-- Settles O60: the scan goes to the append position as before, and there finds the record. -/
theorem appendedRecordIsFound : Obligations.AppendedRecordIsFound := by
  intro mem seg tag pos value hwf hseg hpos herased htag hlock hfits after
  have hlen := recordBytes_length tag value
  have hpos2 : 2 ≤ pos := scanFrom_le hpos
  have hinside : pos + (recordBytes tag value).length ≤ 512 := by omega
  have hbytes : ∀ (i : Nat) (hi : i < (recordBytes tag value).length),
      segByte after seg (pos + i) = (recordBytes tag value)[i] := fun i hi =>
    segByte_segWrite_inside hwf hseg hinside hi
  have hbefore : ∀ i, i < pos → segByte after seg i = segByte mem seg i := fun i hi =>
    segByte_segWrite_outside hwf (.inl hi)
  have hafter : ∀ i, pos + value.length + 3 ≤ i → i < 512 → segByte after seg i = 0xFF := fun i hlo hhi => by
    rw [← herased i (by omega) hhi]
    exact segByte_segWrite_outside hwf (.inr (by omega))
  have hscan : scanSegment after seg = ((scanSegment mem seg).1 ++ [⟨tag, value⟩], some (pos + value.length + 3)) :=
    scanFrom_past hbytes htag hbefore hafter hlock hfits 128 2 (Nat.le_refl _) hpos
  have hlast : lastRecord after seg tag = some value := by
    unfold lastRecord
    rw [hscan]
    simp
  refine ⟨segWrite_wf _ _ _ _ hwf, hlast, by rw [hscan], fun other hother => ?_, fun a ha => ?_, fun g hzero hgen hhigher => ?_⟩
  · unfold lastRecord
    rw [hscan]
    simp [Ne.symm hother]
  · refine memRead_segWrite_outside hwf ?_
    rw [hlen, ← Nat.add_assoc]
    exact ha
  · have hgen' : generation after seg = some g := by
      rw [generation_congr fun i hi => hbefore i (by omega), hgen]
    have hhigher' : ∀ other, other ∈ [1, 2, 3] → other ≠ seg → (generation after other).getD 0 < g :=
      fun other hmem hne => by
        rw [generation_congr fun i hi => segByte_segWrite_other hwf hinside (by omega) hne]
        exact hhigher other hmem hne
    exact lookup_highest hzero hseg hgen' hhigher' hlast

end Sys2Proof.Machine

/-! Presence of the stick on the dock (section 6.2). -/

namespace Sys2Proof.Machine

open Sys2Proof

/-! ### The mode forced to OFF (R7, R15) -/

/-- The mode OFF, and a calibration in flight ended. -/
def modeOff (s : State) : State := endCalibration .aborted { s with drive := { s.drive with mode := .off } }

@[simp] theorem modeOff_drive (s : State) : (modeOff s).drive = { s.drive with mode := .off } := endCalibration_drive _ _
@[simp] theorem modeOff_roll (s : State) : (modeOff s).roll = s.roll := endCalibration_roll _ _

/-- The drive stopped besides, and a latched roll drive released. -/
def offForced (s : State) : State := rollRelease .release (driveStop (modeOff s))

theorem forceOff_forced (c : DriveCause) (s : State) : Reported (offForced s) (forceOff c s) :=
  .ite (reportDrive_reported _ _) (.refl _)

/-- A roll drive that runs is in OFF with no duty after a stop in RUN (R107). -/
theorem driveStop_roll_stops {s : State} (hrun : s.drive.state = .run) (hruns : s.roll.state.runs = true) :
    (driveStop s).roll.state = .off ∧ (driveStop s).roll.appliedDuty = 0 := by
  have hroll : (driveStop s).roll = (leaveRun .coast s).roll := by
    rw [driveStop_of_run hrun, stopDriving, leaveIfRun_of_run _ hrun]
    rfl
  rw [hroll, leaveRun, rollEvaluate, if_pos (by simp [hruns, State.rollCondition])]
  exact ⟨rfl, rfl⟩

theorem rollRelease_of_not_held (c : DriveCause) {s : State} (h : s.roll.state.held = false) : rollRelease c s = s := by
  unfold rollRelease
  rw [h, if_neg Bool.false_ne_true]

/-- A roll drive that runs in RUN alone is in OFF, with no duty where it was in another state. -/
theorem offForced_roll {s : State} (hroll : s.roll.state.runs = true → s.drive.state = .run) :
    (offForced s).roll.state = .off ∧ (s.roll.state ≠ .off → (offForced s).roll.appliedDuty = 0) := by
  unfold offForced
  cases hruns : s.roll.state.runs with
  | true =>
    obtain ⟨hoff, hduty⟩ := driveStop_roll_stops (s := modeOff s) (by simpa using hroll hruns) (by simpa using hruns)
    rw [rollRelease_of_not_held _ (by rw [hoff]; rfl)]
    exact ⟨hoff, fun _ => hduty⟩
  | false =>
    have hkeep : (driveStop (modeOff s)).roll = s.roll := by
      rw [driveStop_roll_of_rest (by simpa using hruns), modeOff_roll]
    cases hheld : s.roll.state.held with
    | true =>
      rw [rollRelease, hkeep, hheld, if_pos rfl]
      simp [rollEnterOff, rollStop]
    | false =>
      rw [rollRelease_of_not_held _ (by rw [hkeep, hheld]), hkeep]
      have hoff : s.roll.state = .off := by cases hst : s.roll.state <;> simp_all [RollState.runs, RollState.held]
      exact ⟨hoff, fun h => absurd hoff h⟩

/-- What the mode forced to OFF leaves of the drive and of a calibration. -/
theorem offForced_drive (s : State) : (offForced s).drive.mode = .off ∧ (offForced s).drive.state.drives = false ∧
    (offForced s).roll.state.held = false ∧ (offForced s).debris.cal = none := by
  refine ⟨?_, ?_, rollRelease_held _ _, ?_⟩
  · rw [offForced, rollRelease_drive, driveStop_mode, modeOff_drive]
  · rw [offForced, rollRelease_drive, driveStop_drives]
  · rw [offForced, rollRelease_debris, driveStop_cal, modeOff, endCalibration_cal]

@[simp] theorem offForced_debris_b (s : State) : (offForced s).debris.b = s.debris.b := by simp [offForced, modeOff]

/-! ### The entries to DOCKED and DETACHED (R122, R125) -/

/-- The stick on the dock. -/
def docked (s : State) : State :=
  { s with stick := { s.stick with state := .docked, presentTimer := none, enteredAt := s.ctl.partTime } }

theorem enterDocked_eq (s : State) :
    enterDocked s = reportStick .contact (enterActive .contact (forceOff .docked (docked s))) := rfl

/-- The entry to DOCKED forces the mode to OFF, and leaves the session's record but for the entry. -/
theorem enterDocked_leaves (s : State) :
    (enterDocked s).stick = (docked s).stick ∧ (enterDocked s).drive.mode = .off ∧
    (enterDocked s).drive.state.drives = false ∧ (enterDocked s).roll.state.held = false ∧
    ((s.roll.state.runs = true → s.drive.state = .run) → (enterDocked s).roll.state = .off ∧
      (s.roll.state ≠ .off → (enterDocked s).roll.appliedDuty = 0)) ∧
    (enterDocked s).debris.cal = none ∧ (enterDocked s).pack.q = s.pack.q ∧ (enterDocked s).prot = s.prot ∧
    (enterDocked s).store = s.store := by
  have hforced := (forceOff_forced .docked (docked s)).state
  obtain ⟨hmode, hstops, hheld, hcal⟩ := offForced_drive (docked s)
  have hdrive : (enterDocked s).drive = (offForced (docked s)).drive := by
    rw [enterDocked_eq, reportStick, handReport_drive, enterActive_drive, hforced]
  have hroll : (enterDocked s).roll = (offForced (docked s)).roll := by
    rw [enterDocked_eq, reportStick, handReport_roll, enterActive_roll, hforced]
  have hdebris : (enterDocked s).debris = (offForced (docked s)).debris := by
    rw [enterDocked_eq, reportStick, handReport_debris, enterActive_debris, hforced]
  rw [hdrive, hroll, hdebris, enterDocked_eq]
  unfold reportStick
  exact ⟨by simp, hmode, hstops, hheld, offForced_roll (s := docked s), hcal, by simp [docked], by simp [docked],
    by simp [docked]⟩

/-- The stick off the dock, before its causes and its binding follow. -/
def detached (s : State) : State :=
  { s with stick := { s.stick with state := .detached, silence := none, absentTimer := none, enteredAt := s.ctl.partTime } }

theorem enterDetached_eq (s : State) : enterDetached s = reportStick .contact
    { releaseChgOc (detached s) with
      stick := { (releaseChgOc (detached s)).stick with binding := none, evacRequest := false } } := rfl

theorem stopIfLost_debris_b (before : Prot) (s : State) : (stopIfLost before s).debris.b = s.debris.b := by
  unfold stopIfLost
  split
  · rw [(forceOff_forced _ _).state, offForced_debris_b]
  · rfl

theorem evaluateLevel_debris (before : Prot) (s : State) : (evaluateLevel before s).debris = s.debris := by
  unfold evaluateLevel reportProtection
  dsimp only
  split <;> split <;> simp

theorem evaluateProtection_debris_b (before : Prot) (s : State) :
    (evaluateProtection before s).debris.b = s.debris.b := by
  rw [evaluateProtection_eq, settleLevel]
  rw [evaluateLevel_debris]
  have hb : (stopIfLost before (applyPermissions s)).debris.b = s.debris.b := by
    rw [stopIfLost_debris_b, applyPermissions]
    dsimp only
    split
    · rfl
    · rw [recomputeAllowance_debris]
  split <;> exact hb

/-- Without CHG_OC no charge need record names a charge cut-off. -/
theorem needOf_reason_ne {s : State} (h : s.prot.active.chgOc = false) : (needOf s).reason ≠ .cutoffChg := by
  have hreason : ∀ t, needReason s t ≠ .cutoffChg := fun t => by
    unfold needReason
    rw [h, if_neg (c := false = true) Bool.false_ne_true]
    split
    · decide
    · split
      · decide
      · split <;> decide
  unfold needOf
  dsimp only
  split
  case h_5 heq => exact absurd heq (hreason _)
  all_goals simp

/-- CHG_OC released, the other causes stand, and the charge need record follows (R64, R125). -/
theorem releaseChgOc_leaves (s : State) :
    (releaseChgOc s).stick = s.stick ∧ (releaseChgOc s).store = s.store ∧ (releaseChgOc s).pack.q = s.pack.q ∧
    (releaseChgOc s).debris.b = s.debris.b ∧ (releaseChgOc s).prot.active = { s.prot.active with chgOc := false } ∧
    (s.prot.active.chgOc = true → (releaseChgOc s).pack.need.reason ≠ .cutoffChg) := by
  unfold releaseChgOc
  dsimp only
  cases hoc : s.prot.active.chgOc with
  | false =>
    rw [if_neg Bool.false_ne_true]
    refine ⟨rfl, rfl, rfl, rfl, ?_, fun h => absurd h Bool.false_ne_true⟩
    rw [← hoc]
  | true =>
    rw [if_pos rfl]
    unfold recomputeNeed
    refine ⟨by simp, by simp, ?_, evaluateProtection_debris_b _ _, ?_, fun _ => needOf_reason_ne ?_⟩
    · obtain ⟨n, hn⟩ := evaluateProtection_pack s.prot _
      exact (congrArg Pack.q hn).trans rfl
    · obtain ⟨x, hx⟩ := evaluateProtection_prot s.prot _
      exact (congrArg Prot.active hx).trans rfl
    · obtain ⟨x, hx⟩ := evaluateProtection_prot s.prot _
      exact (congrArg (fun p => p.active.chgOc) hx).trans rfl

/-- The entry to DETACHED leaves no binding and no request, and CHG_OC released (R125). -/
theorem enterDetached_leaves (s : State) :
    (enterDetached s).stick = { (detached s).stick with binding := none, evacRequest := false } ∧
    (enterDetached s).prot.active = { s.prot.active with chgOc := false } ∧ (enterDetached s).pack.q = s.pack.q ∧
    (enterDetached s).debris.b = s.debris.b ∧
    (s.prot.active.chgOc = true → (enterDetached s).pack.need.reason ≠ .cutoffChg) ∧
    (enterDetached s).store = s.store := by
  obtain ⟨hstick, hstore, hq, hb, hactive, hreason⟩ := releaseChgOc_leaves (detached s)
  rw [enterDetached_eq, reportStick]
  refine ⟨?_, ?_, ?_, ?_, ?_, ?_⟩
  · rw [handReport_stick, hstick]
  · rw [handReport_prot]
    exact hactive
  · rw [handReport_pack]
    exact hq
  · rw [handReport_debris]
    exact hb
  · rw [handReport_pack]
    exact hreason
  · rw [handReport_store]
    exact hstore

/-! ### A sample of the contact voltage (R121) -/

theorem exec_contactVoltage (mV : Nat) {s : State} (hpower : s.ctl.power ≠ .ship) (hrole : s.ctl.role = .stick) :
    exec (.contactVoltageSample mV) s = .next (settle (voltageSampled mV s)) :=
  event_occurs (by simp [State.isStick, hrole]) hpower

/-- The sample in the record. -/
def contactSampled (mV : Nat) (s : State) : State := { s with stick := { s.stick with contactV := some mV } }

theorem voltageSampled_detached {mV : Nat} {s : State} (h : s.stick.state = .detached) :
    voltageSampled mV s = sampleDetached mV (contactSampled mV s) := by
  unfold voltageSampled
  rw [h]
  rfl

theorem voltageSampled_attached {mV : Nat} {s : State} (h : s.stick.state ≠ .detached) :
    voltageSampled mV s = sampleAttached mV (contactSampled mV s) := by
  unfold voltageSampled
  cases hst : s.stick.state with
  | detached => exact absurd hst h
  | docked => rfl
  | charging => rfl

theorem sampleDetached_waits {mV : Nat} {s : State} {timer : Option Ms}
    (h : qualify s.ctl.partTime s.stick.presentTimer (decide (9000 < mV)) 50 = (timer, false)) :
    sampleDetached mV s = { s with stick := { s.stick with presentTimer := timer } } := by
  unfold sampleDetached State.now
  dsimp only
  rw [h, if_neg Bool.false_ne_true]

theorem sampleDetached_enters {mV : Nat} {s : State}
    (h : qualify s.ctl.partTime s.stick.presentTimer (decide (9000 < mV)) 50 = (none, true)) :
    sampleDetached mV s = enterDocked { s with stick := { s.stick with presentTimer := none } } := by
  unfold sampleDetached State.now
  dsimp only
  rw [h, if_pos rfl]

theorem sampleAttached_waits {mV : Nat} {s : State} {timer : Option Ms}
    (h : qualify s.ctl.partTime s.stick.absentTimer (decide (mV < 3000)) 200 = (timer, false)) :
    sampleAttached mV s = { s with stick := { s.stick with absentTimer := timer } } := by
  unfold sampleAttached State.now
  dsimp only
  rw [h, if_neg Bool.false_ne_true]

theorem sampleAttached_enters {mV : Nat} {s : State}
    (h : qualify s.ctl.partTime s.stick.absentTimer (decide (mV < 3000)) 200 = (none, true)) :
    sampleAttached mV s = enterDetached { s with stick := { s.stick with absentTimer := none } } := by
  unfold sampleAttached State.now
  dsimp only
  rw [h, if_pos rfl]

/-- Settles O52: the sample's condition qualified, or not, and the entries that follow. -/
theorem stickPresenceFollows : Obligations.StickPresenceFollows := by
  refine ⟨fun s mV hpower hrole => ⟨fun hst => ?detached, fun hst => ?attached⟩, fun s hpower hst hsilence => ?silence⟩
  case detached =>
    rw [exec_contactVoltage mV hpower hrole, voltageSampled_detached hst]
    refine ⟨fun hlow => ?_, fun hhigh ht => ?_, fun t0 hhigh ht hlt => ?_, fun t0 hhigh ht hle => ?_⟩
    · rw [sampleDetached_waits (s := contactSampled mV s) (qualify_absent _ _ _ (decide_eq_false (Nat.not_lt.mpr hlow)))]
      rfl
    · rw [sampleDetached_waits (s := contactSampled mV s) (qualify_begins _ _ (decide_eq_true hhigh) ht)]
      rfl
    · rw [sampleDetached_waits (s := contactSampled mV s) (qualify_waits (decide_eq_true hhigh) ht hlt), ← ht]
      rfl
    · rw [sampleDetached_enters (s := contactSampled mV s) (qualify_passes (decide_eq_true hhigh) ht hle)]
      refine ⟨_, rfl, ?_⟩
      obtain ⟨hstick, hmode, hstops, hheld, hroll, hcal, hq, hprot, hstore⟩ := enterDocked_leaves
        { contactSampled mV s with stick := { (contactSampled mV s).stick with presentTimer := none } }
      simp only [settle_stick, settle_prot, settle_store, settle_pack_q, settle_drive, settle_roll, settle_debris]
      rw [hstick]
      exact ⟨rfl, rfl, rfl, rfl, hmode, hstops, hheld, hroll, hcal, hq, hprot, hstore⟩
  case attached =>
    rw [exec_contactVoltage mV hpower hrole, voltageSampled_attached hst]
    refine ⟨fun hhigh => ?_, fun hlow ht => ?_, fun t0 hlow ht hlt => ?_, fun t0 hlow ht hle => ?_⟩
    · rw [sampleAttached_waits (s := contactSampled mV s) (qualify_absent _ _ _ (decide_eq_false (Nat.not_lt.mpr hhigh)))]
      rfl
    · rw [sampleAttached_waits (s := contactSampled mV s) (qualify_begins _ _ (decide_eq_true hlow) ht)]
      rfl
    · rw [sampleAttached_waits (s := contactSampled mV s) (qualify_waits (decide_eq_true hlow) ht hlt), ← ht]
      rfl
    · rw [sampleAttached_enters (s := contactSampled mV s) (qualify_passes (decide_eq_true hlow) ht hle)]
      refine ⟨_, rfl, ?_⟩
      obtain ⟨hstick, hactive, hq, hb, hreason, hstore⟩ := enterDetached_leaves
        { contactSampled mV s with stick := { (contactSampled mV s).stick with absentTimer := none } }
      rw [settle_stick, settle_prot, settle_store, settle_pack_q, settle_pack_need, settle_debris, hstick]
      exact ⟨rfl, rfl, rfl, rfl, rfl, hactive, hq, hb, hreason, hstore⟩
  case silence =>
    have hexec : exec .silenceTimerExpiry s = .next (settle (reportStick .silence (backToDocked s))) :=
      event_occurs (f := fun s => reportStick .silence (backToDocked s)) (by simp [hst, hsilence]) hpower
    have hleaves : Spec.LeavesAs (backToDocked s) (settle (reportStick .silence (backToDocked s))) :=
      leavesAs_settle (handReport_reported _ _)
    exact ⟨_, hexec, hleaves⟩

end Sys2Proof.Machine

/-! The contact link: the frames and the receiver (sections 6.1 and 11.5). -/

namespace Sys2Proof.Machine

open Sys2Proof

/-! ### A frame on the line (R117) -/

/-- A frame as it was sent passes the receiver's check, and its kind and payload are read. -/
theorem frameMessage_contactWire (role : Role) (kind : Byte) {p : List Byte} (h : p.length ≤ 16) :
    frameMessage role (contactWire kind p).tail = parseMessage role kind p := by
  have hbytes : (contactWire kind p).tail = (kind :: BitVec.ofNat 8 p.length :: p) ++ [crc8 (kind :: BitVec.ofNat 8 p.length :: p)] :=
    rfl
  have hbody : ((contactWire kind p).tail).take ((contactWire kind p).tail.length - 1) = kind :: BitVec.ofNat 8 p.length :: p := by
    rw [hbytes, List.length_append]
    exact List.take_left' rfl
  have hcheck : (contactWire kind p).tail.getD ((contactWire kind p).tail.length - 1) 0
      = crc8 (kind :: BitVec.ofNat 8 p.length :: p) := by
    rw [hbytes]
    simp
  have hlen : byteAt (contactWire kind p).tail 1 ≤ 16 := by
    show (BitVec.ofNat 8 p.length).toNat ≤ 16
    rw [BitVec.toNat_ofNat]
    omega
  unfold frameMessage
  dsimp only
  rw [hbody, hcheck, if_pos ⟨hlen, rfl⟩]
  rfl

/-! ### Fields as their bytes, and read back (section 11.1) -/

/-- A number below 65,535 at an offset is read as it was written. -/
theorem opt16At_u16 {n : Nat} (h : n < 65535) {p : List Byte} {i : Nat} (hlo : p.getD i 0 = BitVec.ofNat 8 n)
    (hhi : p.getD (i + 1) 0 = BitVec.ofNat 8 (n / 256)) : opt16At p i = some n := by
  have hfield : u16At p i = n := by
    rw [u16At, byteAt, byteAt, hlo, hhi, BitVec.toNat_ofNat, BitVec.toNat_ofNat]
    omega
  rw [opt16At, hfield, if_neg (by omega)]

/-- A field that may be ABSENT is two bytes that are read back. -/
theorem opt16_pair (o : Option Nat) (h : ∀ n ∈ o, n < 65535) : ∃ a b, opt16 o = [a, b] ∧
    ∀ (p : List Byte) (i : Nat), p.getD i 0 = a → p.getD (i + 1) 0 = b → opt16At p i = o := by
  cases o with
  | none =>
    refine ⟨0xFF, 0xFF, rfl, fun p i hlo hhi => ?_⟩
    rw [opt16At, u16At, byteAt, byteAt, hlo, hhi]
    rfl
  | some n => exact ⟨_, _, rfl, fun p i hlo hhi => opt16At_u16 (h n rfl) hlo hhi⟩

theorem u16At_pair {k : Nat} (h : k < 65536) {p : List Byte} {i : Nat} (hlo : p.getD i 0 = BitVec.ofNat 8 k)
    (hhi : p.getD (i + 1) 0 = BitVec.ofNat 8 (k / 256)) : u16At p i = k := by
  rw [u16At, byteAt, byteAt, hlo, hhi, BitVec.toNat_ofNat, BitVec.toNat_ofNat]
  omega

/-- A signed measurement is two bytes that are read back. -/
theorem s16_pair (r : Reading) (h : ∀ n, r = .num n → -32767 < n ∧ n < 32767) : ∃ a b, s16 r = [a, b] ∧
    ∀ (p : List Byte) (i : Nat), p.getD i 0 = a → p.getD (i + 1) 0 = b → readingAt p i = r := by
  have hcode : ∀ k : Nat, k < 65536 → k ≠ 0x7FFF → k ≠ 0x8001 → k ≠ 0x8000 → ∀ (p : List Byte) (i : Nat),
      p.getD i 0 = BitVec.ofNat 8 k → p.getD (i + 1) 0 = BitVec.ofNat 8 (k / 256) →
      readingAt p i = .num (BitVec.ofNat 16 k).toInt := fun k hk h1 h2 h3 p i hlo hhi => by
    rw [readingAt, s16At, u16At_pair hk hlo hhi, if_neg h1, if_neg h2, if_neg h3]
  cases r with
  | num n =>
    obtain ⟨hmin, hmax⟩ := h n rfl
    have hcoded : s16 (.num n) = u16 (BitVec.ofInt 16 n).toNat := by
      rw [s16, Reading.fit16, if_neg (by omega), if_neg (by omega)]
    have hnat : (BitVec.ofInt 16 n).toNat = (n % 65536).toNat := BitVec.toNat_ofInt n
    refine ⟨_, _, hcoded, fun p i hlo hhi => ?_⟩
    rw [hcode _ (by omega) (by omega) (by omega) (by omega) p i hlo hhi, BitVec.ofNat_toNat, BitVec.setWidth_eq,
      BitVec.toInt_ofInt]
    exact congrArg Reading.num (Int.bmod_eq_of_le (by omega) (by omega))
  | above =>
    refine ⟨_, _, rfl, fun p i hlo hhi => ?_⟩
    rw [readingAt, u16At_pair (k := 0x7FFF) (by decide) hlo hhi]
    rfl
  | below =>
    refine ⟨_, _, rfl, fun p i hlo hhi => ?_⟩
    rw [readingAt, u16At_pair (k := 0x8001) (by decide) hlo hhi]
    rfl
  | absent =>
    refine ⟨_, _, rfl, fun p i hlo hhi => ?_⟩
    rw [readingAt, u16At_pair (k := 0x8000) (by decide) hlo hhi]
    rfl

/-- A named code is one byte that is read back. -/
theorem code_byte {n : Nat} (h : n < 256) {p : List Byte} {i : Nat} (hb : p.getD i 0 = BitVec.ofNat 8 n) :
    byteAt p i = n := by
  rw [byteAt, hb, BitVec.toNat_ofNat]
  omega

theorem dockFlags_readBack (f : DockFlags) {p : List Byte} {i : Nat} (hb : p.getD i 0 = BitVec.ofNat 8 (dockFlagsCode f)) :
    dockFlagsOf (byteAt p i) = some f := by
  have hread : ∀ a b c : Bool, dockFlagsOf (BitVec.ofNat 8 (dockFlagsCode ⟨a, b, c⟩)).toNat = some ⟨a, b, c⟩ := by decide
  rw [byteAt, hb]
  exact hread f.supplyLow f.chargerLatched f.fanFault

theorem chargerState_readBack (c : ChargerState) {p : List Byte} {i : Nat}
    (hb : p.getD i 0 = BitVec.ofNat 8 (chargerStateCode c)) : chargerStateOf (byteAt p i) = some c := by
  rw [byteAt, hb]
  cases c <;> rfl

theorem evacState_readBack (e : EvacState) {p : List Byte} {i : Nat} (hb : p.getD i 0 = BitVec.ofNat 8 (evacStateCode e)) :
    evacStateOf (byteAt p i) = some e := by
  rw [byteAt, hb]
  cases e <;> rfl

theorem protLevel_readBack (l : ProtLevel) {p : List Byte} {i : Nat} (hb : p.getD i 0 = BitVec.ofNat 8 (protLevelCode l)) :
    protLevelOf (byteAt p i) = some l := by
  rw [byteAt, hb]
  cases l <;> rfl

theorem reason_readBack (r : NeedReason) {p : List Byte} {i : Nat} (hb : p.getD i 0 = BitVec.ofNat 8 (reasonCode r)) :
    reasonOf (byteAt p i) = some r := by
  rw [byteAt, hb]
  cases r <;> rfl

theorem bool_readBack (b : Bool) {p : List Byte} {i : Nat} (hb : p.getD i 0 = BitVec.ofNat 8 (if b then 1 else 0)) :
    boolAt p i = some b := by
  rw [boolAt, byteAt, hb]
  cases b <;> rfl

/-- N is 0 or one of 6 to 8 (R67). -/
theorem cellCount_ok (s : State) : cellsOk s.cellCount = true ∧ s.cellCount < 256 := by
  have hcells : ∀ cells : BitVec 2, cellsOk (if cells = 3 then 0 else 6 + cells.toNat) = true ∧
      (if cells = 3 then 0 else 6 + cells.toNat) < 256 := by decide
  unfold State.cellCount cellCountOf
  split
  · exact ⟨rfl, by decide⟩
  · exact hcells s.ctl.cells

/-! ### The four frames read back (section 11.5) -/

theorem hail_readBack {s : State} (h : s.charger.budget ≤ 600000) : frameMessage .stick (contactWire 0x11 (hailPayload s)).tail
    = some (.hail ⟨1, s.charger.budget / 1000, s.dockFlags⟩) := by
  have hbudget : opt16At (hailPayload s) 1 = some (s.charger.budget / 1000) := opt16At_u16 (by omega) rfl rfl
  have hlen : (hailPayload s).length = 4 := rfl
  rw [frameMessage_contactWire _ _ (by omega), parseMessage, if_pos ⟨rfl, hlen⟩, parseHail, hbudget,
    dockFlags_readBack s.dockFlags rfl]
  rfl

theorem poll_readBack {s : State} (hv : ∀ v ∈ s.charger.vOut, v < 65535)
    (hi : ∀ n, s.charger.iOut = .num n → -32767 < n ∧ n < 32767) :
    frameMessage .stick (contactWire 0x12 (pollPayload s)).tail
      = some (.poll ⟨s.charger.state, s.charger.vOut, s.charger.iOut, s.dock.report, s.dockFlags⟩) := by
  obtain ⟨a, b, hout, hreadV⟩ := opt16_pair s.charger.vOut hv
  obtain ⟨c, d, hcurrent, hreadI⟩ := s16_pair s.charger.iOut hi
  have hbytes : pollPayload s = [BitVec.ofNat 8 (chargerStateCode s.charger.state), a, b, c, d,
      BitVec.ofNat 8 (evacStateCode s.dock.report), BitVec.ofNat 8 (dockFlagsCode s.dockFlags)] := by
    rw [pollPayload, hout, hcurrent]
    rfl
  rw [hbytes, frameMessage_contactWire _ _ (by simp), parseMessage, if_neg (by simp), if_pos ⟨rfl, rfl⟩, parsePoll,
    chargerState_readBack s.charger.state rfl, evacState_readBack s.dock.report rfl, dockFlags_readBack s.dockFlags rfl,
    hreadV _ _ rfl rfl, hreadI _ _ rfl rfl]
  rfl

theorem answer_readBack {s : State} (hsoc : ∀ n ∈ s.soc, n < 65535) (hbin : s.debris.b < 65535000) :
    frameMessage .dock (contactWire 0x91 (answerPayload s)).tail
      = some (.answer ⟨s.cellCount, s.soc, s.debris.b / 1000, s.prot.level, s.stick.evacRequest⟩) := by
  obtain ⟨hcells, hbyte⟩ := cellCount_ok s
  obtain ⟨a, b, hcharge, hread⟩ := opt16_pair s.soc hsoc
  have hbytes : answerPayload s = [BitVec.ofNat 8 s.cellCount, a, b, BitVec.ofNat 8 (s.debris.b / 1000),
      BitVec.ofNat 8 (s.debris.b / 1000 / 256), BitVec.ofNat 8 (protLevelCode s.prot.level),
      BitVec.ofNat 8 (if s.stick.evacRequest then 1 else 0)] := by
    rw [answerPayload, hcharge]
    rfl
  rw [hbytes, frameMessage_contactWire _ _ (by simp), parseMessage, if_pos ⟨rfl, rfl⟩, parseAnswer, code_byte hbyte rfl,
    hcells, opt16At_u16 (n := s.debris.b / 1000) (by omega) rfl rfl, protLevel_readBack s.prot.level rfl,
    bool_readBack s.stick.evacRequest rfl, hread _ _ rfl rfl]
  rfl

theorem need_readBack {s : State} (hsoc : ∀ n ∈ s.soc, n < 65535) (htarget : s.pack.need.target < 65535)
    (hlimit : s.pack.need.limit < 65535) : frameMessage .dock (contactWire 0x92 (needPayload s)).tail
      = some (.need ⟨s.pack.need, s.stick.evacRequest, s.prot.level, s.soc⟩) := by
  obtain ⟨a, b, hcharge, hread⟩ := opt16_pair s.soc hsoc
  have hbytes : needPayload s = u16 s.pack.need.target ++ u16 s.pack.need.limit ++
      [BitVec.ofNat 8 (if s.pack.need.permitted then 1 else 0), BitVec.ofNat 8 (reasonCode s.pack.need.reason),
       BitVec.ofNat 8 (if s.pack.need.precharge then 1 else 0), BitVec.ofNat 8 (if s.stick.evacRequest then 1 else 0),
       BitVec.ofNat 8 (protLevelCode s.prot.level), a, b] := by
    rw [needPayload, hcharge]
    rfl
  rw [hbytes, frameMessage_contactWire _ _ (by simp [u16]), parseMessage, if_neg (by simp), if_pos ⟨rfl, rfl⟩, parseNeed,
    parseNeedRecord, opt16At_u16 htarget rfl rfl, opt16At_u16 hlimit rfl rfl, bool_readBack s.pack.need.permitted rfl,
    reason_readBack s.pack.need.reason rfl, bool_readBack s.pack.need.precharge rfl,
    bool_readBack s.stick.evacRequest rfl, protLevel_readBack s.prot.level rfl, hread _ _ rfl rfl]
  rfl

/-- The code of ABSENT in a field that is always a number makes a frame not valid (log 45). -/
theorem absentNumber_invalid (p : List Byte) :
    (p.length = 4 → u16At p 1 = 65535 → frameMessage .stick (contactWire 0x11 p).tail = none) ∧
    (p.length = 7 → u16At p 3 = 65535 → frameMessage .dock (contactWire 0x91 p).tail = none) ∧
    (p.length = 11 → u16At p 0 = 65535 ∨ u16At p 2 = 65535 → frameMessage .dock (contactWire 0x92 p).tail = none) := by
  refine ⟨fun hlen h => ?_, fun hlen h => ?_, fun hlen h => ?_⟩
  · rw [frameMessage_contactWire _ _ (by omega), parseMessage, if_pos ⟨rfl, hlen⟩, parseHail, opt16At, h]
    rfl
  · have hnone : opt16At p 3 = none := if_pos h
    have hparse : parseAnswer p = none := by
      unfold parseAnswer
      rw [hnone]
      split <;> simp_all
    rw [frameMessage_contactWire _ _ (by omega), parseMessage, if_pos ⟨rfl, hlen⟩, hparse]
    rfl
  · have hparse : parseNeedRecord p = none := by
      unfold parseNeedRecord
      rcases h with h | h
      · rw [opt16At, if_pos h]
      · have hnone : opt16At p 2 = none := if_pos h
        rw [hnone]
        split <;> simp_all
    rw [frameMessage_contactWire _ _ (by omega), parseMessage, if_neg (by simp), if_pos ⟨rfl, hlen⟩, parseNeed, hparse]
    rfl

/-! ### The receiver (R117, R118) -/

section
variable {s : State} {byte : Byte}

theorem contactDeaf_of_sending (hrole : s.ctl.role = .stick) (htx : s.contact.tx.isSome = true) : s.contactDeaf = true := by
  simp [State.contactDeaf, State.isStick, hrole, htx]

theorem contactHears (h : s.ctl.role = .dock ∨ s.contact.tx = none) : s.contactDeaf = false := by
  rcases h with h | h <;> simp [State.contactDeaf, State.isStick, h]

theorem completes_of_deaf (h : s.contactDeaf = true) : s.completes byte = none := by
  unfold State.completes
  rw [h]

theorem completes_of_idle (hrx : s.contact.rx = none) : s.completes byte = none := by
  unfold State.completes
  rw [hrx]
  split <;> simp_all

theorem completes_open {bytes : List Byte} (hears : s.contactDeaf = false) (hrx : s.contact.rx = some bytes) :
    s.completes byte = if frameComplete (bytes ++ [byte]) then some (bytes ++ [byte]) else none := by
  unfold State.completes
  rw [hears, hrx]

theorem frameComplete_iff (bytes : List Byte) (b : Byte) : frameComplete (bytes ++ [b]) = true ↔
    bytes.length ≠ 0 ∧ bytes.length + 1 = byteAt (bytes ++ [b]) 1 + 3 := by
  rw [frameComplete, Bool.and_eq_true, decide_eq_true_eq, decide_eq_true_eq, List.length_append, List.length_singleton]
  omega

/-- A byte that completes nothing is collected. -/
theorem contactByte_collects (h : s.completes byte = none) : contactByte byte s = collectByte byte s := by
  rw [contactByte, h]
  rfl

/-- A byte that completes a frame which is not valid discards it. -/
theorem contactByte_discards (hsome : (s.completes byte).isSome = true) (hnone : s.completesMessage byte = none) :
    contactByte byte s = endFrame s := by
  have hhail : s.hailTaken byte = none := by rw [State.hailTaken, hnone]
  have hpoll : s.pollTaken byte = none := by rw [State.pollTaken, hnone]
  have hanswer : s.answerTaken byte = none := by rw [State.answerTaken, hnone]
  have hneed : s.needTaken byte = none := by rw [State.needTaken, hnone]
  rw [contactByte, if_pos hsome, frameEnds, hhail, hpoll, hanswer, hneed]

theorem exec_contactByte (hpower : s.ctl.power ≠ .ship) :
    exec (.contactByteArrival byte) s = .next (settle (contactByte byte s)) := event_occurs rfl hpower

end

/-- Settles O51: the frames field by field, and the receiver case by case. -/
theorem contactLinkAgrees : Obligations.ContactLinkAgrees := by
  refine ⟨fun s => ⟨hail_readBack, poll_readBack, answer_readBack, need_readBack⟩, absentNumber_invalid,
    fun s byte hpower => ?receiver⟩
  intro gap quiet
  refine ⟨fun hrole htx => ?deaf, fun hears => ⟨fun hrx hstart => ?opens, fun hrx hother => ?ignores,
    fun bytes hrx => ⟨fun hmore => ?collects, fun hfirst hlast hinvalid => ?discards⟩⟩, fun hrx => ?gap⟩
  case deaf =>
    have hdeaf := contactDeaf_of_sending hrole htx
    rw [exec_contactByte hpower, contactByte_collects (completes_of_deaf hdeaf), collectByte, if_pos hdeaf]
  case opens =>
    rw [exec_contactByte hpower, contactByte_collects (completes_of_idle hrx), collectByte, contactHears hears,
      if_neg Bool.false_ne_true, hrx, hstart]
    rfl
  case ignores =>
    rw [exec_contactByte hpower, contactByte_collects (completes_of_idle hrx), collectByte, contactHears hears,
      if_neg Bool.false_ne_true, hrx]
    dsimp only
    rw [if_neg hother]
  case collects =>
    have hpart : s.completes byte = none := by
      rw [completes_open (contactHears hears) hrx, if_neg]
      rw [frameComplete_iff]
      omega
    rw [exec_contactByte hpower, contactByte_collects hpart, collectByte, contactHears hears, if_neg Bool.false_ne_true, hrx]
    rfl
  case discards =>
    have hcomplete : s.completes byte = some (bytes ++ [byte]) := by
      rw [completes_open (contactHears hears) hrx, if_pos ((frameComplete_iff _ _).mpr ⟨hfirst, hlast⟩)]
    have hnone : s.completesMessage byte = none := by
      rw [State.completesMessage, hcomplete]
      exact hinvalid
    have hsome : (s.completes byte).isSome = true := by rw [hcomplete]; rfl
    refine ⟨event_occurs (by rw [hsome, hnone]; rfl) hpower, ?_⟩
    rw [exec_contactByte hpower, contactByte_discards hsome hnone]
    rfl
  case gap => exact event_occurs hrx hpower

end Sys2Proof.Machine

/-! How the stick answers a HAIL and a POLL (sections 6.1 to 6.3). -/

namespace Sys2Proof.Machine

open Sys2Proof

/-! ### What follows an event while a frame is being sent (R175) -/

/-- Where a SHIP decision stands only with a frame being sent, the event does not bring SHIP. -/
theorem settle_outputs_of_sends {u : State} (h : Spec.Sends u) :
    (settle u).contact = u.contact ∧ (settle u).pack = u.pack := by
  cases hship : u.ctl.shipDecided with
  | false =>
    obtain ⟨hpack, hcontact⟩ := settle_outputs_of_link hship
    exact ⟨hcontact, hpack⟩
  | true =>
    rw [settle_of_sending (.inl (h hship))]
    exact ⟨by simp, by simp⟩

theorem answerPayload_settle (u : State) : answerPayload (settle u) = answerPayload u := by
  simp [answerPayload, State.cellCount, State.soc]

theorem needPayload_settle (u : State) : needPayload (settle u) = needPayload u := by
  simp [needPayload, State.soc]

/-! ### HAIL (R122) -/

/-- The session and the binding that an answered HAIL leaves. -/
def hailStick (m : HailMsg) (s : State) : Stick :=
  let session : Stick := if s.stick.state = .charging then
    { s.stick with state := .docked, silence := none, enteredAt := s.ctl.partTime } else s.stick
  let binding := some ((StickBinding.orNew s.stick.binding).hail m)
  { session with binding := binding, evacRequest := Spec.wantsEvacuation s.evacSet s.debris.b binding }

/-- The state with the session and the binding that an answered HAIL leaves. -/
def hailBound (m : HailMsg) (s : State) : State := { s with stick := hailStick m s }

/-- An answered HAIL, but for its report. -/
def hailAnswered (m : HailMsg) (s : State) : State := formReply 0x91 (answerPayload (hailBound m s)) (hailBound m s)

theorem answerHail_reported (m : HailMsg) (s : State) : Reported (hailAnswered m s) (answerHail m s) ∧
    (answerHail m s).host.tx = s.host.tx := by
  have hbound : deriveRequest { (if s.stick.state = .charging then backToDocked s else s) with
      stick := { (if s.stick.state = .charging then backToDocked s else s).stick with
        binding := some ((StickBinding.orNew s.stick.binding).hail m) } } = hailBound m s := by
    rw [deriveRequest_eq]
    unfold hailBound hailStick
    dsimp only
    split <;> rfl
  unfold answerHail
  dsimp only
  rw [hbound]
  split
  · exact ⟨handReport_reported _ _, by rw [reportStick, handReport_host_tx]; rfl⟩
  · exact ⟨.refl _, rfl⟩

/-- An event that leaves the link as it was sends where it sent before. -/
theorem sends_of_eq {s u : State} (h : Spec.Sends s) (hship : u.ctl.shipDecided = s.ctl.shipDecided)
    (htx : u.host.tx = s.host.tx) : Spec.Sends u := by
  unfold Spec.Sends
  rw [hship, htx]
  exact h

section
variable {s : State} {check : Byte}

theorem completes_of_message {m : ContactMsg} (h : s.completesMessage check = some m) : (s.completes check).isSome = true := by
  obtain ⟨f, hf, -⟩ := Option.bind_eq_some_iff.mp h
  rw [hf]
  rfl

theorem hailTaken_of_message {m : HailMsg} (hst : s.stick.state ≠ .detached) (h : s.completesMessage check = some (.hail m)) :
    s.hailTaken check = some m := by
  unfold State.hailTaken
  rw [h]
  cases hstate : s.stick.state with
  | detached => exact absurd hstate hst
  | docked => rfl
  | charging => rfl

theorem pollTaken_of_message {m : PollMsg} (hst : s.stick.state ≠ .detached) (h : s.completesMessage check = some (.poll m)) :
    s.hailTaken check = none ∧ s.pollTaken check = some m := by
  unfold State.hailTaken State.pollTaken
  rw [h]
  cases hstate : s.stick.state with
  | detached => exact absurd hstate hst
  | docked => exact ⟨rfl, rfl⟩
  | charging => exact ⟨rfl, rfl⟩

/-- The byte that completes a HAIL acts as its taking (log 34). -/
theorem exec_hail {m : HailMsg} (hpower : s.ctl.power ≠ .ship) (hst : s.stick.state ≠ .detached)
    (h : s.completesMessage check = some (.hail m)) :
    exec (.hailTaken check) s = .next (settle (takeHail m (endFrame s))) ∧
    exec (.contactByteArrival check) s = .next (settle (takeHail m (endFrame s))) := by
  have htaken := hailTaken_of_message hst h
  have hexec : exec (.hailTaken check) s = .next (settle (hailCompleted check s)) :=
    event_occurs (by rw [htaken]; rfl) hpower
  refine ⟨?_, ?_⟩
  · rw [hexec, hailCompleted, htaken]
  · rw [exec_contactByte hpower, contactByte, if_pos (completes_of_message h), frameEnds, htaken]

theorem exec_poll {m : PollMsg} (hpower : s.ctl.power ≠ .ship) (hst : s.stick.state ≠ .detached)
    (h : s.completesMessage check = some (.poll m)) :
    exec (.pollTaken check) s = .next (settle (takePoll m (endFrame s))) := by
  obtain ⟨-, htaken⟩ := pollTaken_of_message hst h
  have hexec : exec (.pollTaken check) s = .next (settle (pollCompleted check s)) :=
    event_occurs (by rw [htaken]; rfl) hpower
  rw [hexec, pollCompleted, htaken]

end

/-- What an answered HAIL leaves after the event. -/
theorem answerHail_leaves {m : HailMsg} {s : State} (hsends : Spec.Sends s) (hst : s.stick.state ≠ .detached)
    (hversion : m.version = 1) : let t := settle (answerHail m s)
    ∃ k, t.stick.binding = some k ∧ k.version = some 1 ∧ k.budget = some m.budget ∧ k.flags = m.flags ∧
      k.seenDone = (s.stick.binding.map StickBinding.seenDone).getD false ∧
      k.lastPoll = s.stick.binding.bind StickBinding.lastPoll ∧ t.stick.state = .docked ∧
      t.stick.evacRequest = Spec.wantsEvacuation s.evacSet s.debris.b t.stick.binding ∧
      t.contact.waiting = some (contactWire 0x91 (answerPayload t)) ∧
      t.contact.replyDue = some (s.ctl.partTime + 2) ∧ t.contact.rx = s.contact.rx ∧ t.debris = s.debris ∧
      t.drive = s.drive ∧ t.prot = s.prot := by
  intro t
  obtain ⟨hreported, htx⟩ := answerHail_reported m s
  have hstate := hreported.state
  have hsent : Spec.Sends (answerHail m s) := sends_of_eq hsends (by rw [hstate]; rfl) htx
  have hcontact : t.contact = { s.contact with
      waiting := some (contactWire 0x91 (answerPayload (hailBound m s))), replyDue := some (s.ctl.partTime + 2) } := by
    rw [(settle_outputs_of_sends hsent).1, hstate]
    rfl
  have hpayload : answerPayload t = answerPayload (hailBound m s) := by
    rw [answerPayload_settle, hstate]
    rfl
  have hstick : t.stick = hailStick m s := by
    rw [settle_stick, hstate]
    rfl
  have hdocked : (hailStick m s).state = .docked := by
    unfold hailStick
    cases hstate : s.stick.state with
    | detached => exact absurd hstate hst
    | docked => simp [hstate]
    | charging => simp
  refine ⟨(StickBinding.orNew s.stick.binding).hail m, ?_, congrArg some hversion, rfl, rfl, ?_, ?_, ?_, ?_, ?_, ?_, ?_, ?_, ?_, ?_⟩
  · rw [hstick]
    rfl
  · cases s.stick.binding <;> rfl
  · cases s.stick.binding <;> rfl
  · rw [hstick, hdocked]
  · rw [hstick]
    rfl
  · rw [hcontact, hpayload]
  · rw [hcontact]
  · rw [hcontact]
  · rw [settle_debris, hstate]
    rfl
  · rw [settle_drive, hstate]
    rfl
  · rw [settle_prot, hstate]
    rfl

/-! ### POLL (R123, R124) -/

/-- What the steps of a POLL leave as it was. -/
structure PollKeeps (u w : State) : Prop where
  drive : w.drive = u.drive
  prot : w.prot = u.prot
  evacSet : w.evacSet = u.evacSet
  contact : w.contact = u.contact
  record : w.pack.record = u.pack.record
  q : w.pack.q = u.pack.q
  partTime : w.ctl.partTime = u.ctl.partTime
  shipDecided : w.ctl.shipDecided = u.ctl.shipDecided
  tx : w.host.tx = u.host.tx
  binding : w.stick.binding = u.stick.binding

theorem PollKeeps.refl (u : State) : PollKeeps u u := ⟨rfl, rfl, rfl, rfl, rfl, rfl, rfl, rfl, rfl, rfl⟩

theorem PollKeeps.setStick (s : State) (k : Stick) (h : k.binding = s.stick.binding) :
    PollKeeps s { s with stick := k } := ⟨rfl, rfl, rfl, rfl, rfl, rfl, rfl, rfl, rfl, h⟩

theorem PollKeeps.trans {u v w : State} (h : PollKeeps u v) (k : PollKeeps v w) : PollKeeps u w :=
  ⟨k.drive.trans h.drive, k.prot.trans h.prot, k.evacSet.trans h.evacSet, k.contact.trans h.contact,
    k.record.trans h.record, k.q.trans h.q, k.partTime.trans h.partTime, k.shipDecided.trans h.shipDecided, k.tx.trans h.tx,
    k.binding.trans h.binding⟩

/-- The first DONE empties the bin, and any other POLL leaves it (R123, R128). -/
theorem seeDone_keeps (m : PollMsg) (seen : Bool) (s : State) : PollKeeps s (seeDone m seen s) ∧
    (seeDone m seen s).stick.state = s.stick.state ∧
    (m.evac = .done → seen = false → (seeDone m seen s).debris.b = 0) ∧
    (¬ (m.evac = .done ∧ seen = false) → (seeDone m seen s).debris = s.debris) := by
  unfold seeDone
  split
  · next hdone =>
    have hb : (emptyBin s).debris.b = 0 := by rw [(emptyBin_reported s).state]
    refine ⟨?_, ?_, fun _ _ => hb, fun h => absurd hdone h⟩
    · unfold emptyBin
      rw [deriveRequest_eq]
      constructor <;> simp
    · rw [(emptyBin_reported s).state]
  · next hnot => exact ⟨.refl s, rfl, fun h1 h2 => absurd ⟨h1, h2⟩ hnot, fun _ => rfl⟩

/-- The session after the charger state of a POLL (R123). -/
theorem pollSession_keeps (c : ChargerState) (s : State) : PollKeeps s (pollSession c s) ∧
    (pollSession c s).debris = s.debris := by
  have charging : PollKeeps s (enterCharging s) ∧ (enterCharging s).debris = s.debris := by
    unfold enterCharging
    refine ⟨?_, by simp⟩
    constructor <;> simp
  unfold pollSession
  split
  · split
    · exact charging
    · exact ⟨.refl s, rfl⟩
  · split
    · exact ⟨.setStick _ _ rfl, rfl⟩
    · exact ⟨.setStick _ _ rfl, rfl⟩
  · exact ⟨.refl s, rfl⟩

theorem regulates_iff (c : ChargerState) : c.regulates = true ↔ c = .cc ∨ c = .cv := by cases c <;> decide

theorem pollSession_charging {c : ChargerState} {s : State} (hst : s.stick.state = .charging) :
    (c = .cc ∨ c = .cv → (pollSession c s).stick.state = .charging ∧
      (pollSession c s).stick.silence = some (s.ctl.partTime + 2000)) ∧
    (¬ (c = .cc ∨ c = .cv) → (pollSession c s).stick.state = .docked ∧ (pollSession c s).stick.silence = none) := by
  unfold pollSession
  rw [hst]
  dsimp only
  refine ⟨fun h => ?_, fun h => ?_⟩
  · rw [if_pos ((regulates_iff c).mpr h)]
    exact ⟨hst, rfl⟩
  · rw [if_neg (fun hr => h ((regulates_iff c).mp hr))]
    exact ⟨rfl, rfl⟩

theorem pollSession_docked {c : ChargerState} {s : State} (hst : s.stick.state = .docked) :
    ((c = .cc ∨ c = .cv) ∧ s.chargeFlows = true → (pollSession c s).stick.state = .charging ∧
      (pollSession c s).stick.silence = some (s.ctl.partTime + 2000)) ∧
    (¬ ((c = .cc ∨ c = .cv) ∧ s.chargeFlows = true) → (pollSession c s).stick.state = .docked) := by
  have hiff : (c.regulates && s.chargeFlows) = true ↔ (c = .cc ∨ c = .cv) ∧ s.chargeFlows = true := by
    rw [Bool.and_eq_true, regulates_iff]
  unfold pollSession
  rw [hst]
  dsimp only
  refine ⟨fun h => ?_, fun h => ?_⟩
  · rw [if_pos (hiff.mpr h), enterCharging, enterActive_stick]
    exact ⟨rfl, rfl⟩
  · rw [if_neg (fun hr => h (hiff.mp hr))]
    exact hst

theorem orNew_seenDone (b : Option StickBinding) :
    (StickBinding.orNew b).seenDone = (b.map StickBinding.seenDone).getD false := by
  cases b <;> rfl

/-- The session stepped by a POLL, with its binding and its request. -/
def polled (m : PollMsg) (s : State) : State :=
  deriveRequest (pollSession m.charger (seeDone m (StickBinding.orNew s.stick.binding).seenDone
    { s with stick := { s.stick with binding := some ((StickBinding.orNew s.stick.binding).poll m) } }))

theorem takePoll_eq (m : PollMsg) (s : State) :
    takePoll m s = reportPoll s (formReply 0x92 (needPayload (polled m s)) (polled m s)) := rfl

theorem reportPoll_reported (before after : State) : Reported after (reportPoll before after) ∧
    (reportPoll before after).host.tx = after.host.tx := by
  unfold reportPoll
  split
  · exact ⟨handReport_reported _ _, handReport_host_tx _ _⟩
  · split
    · exact ⟨handReport_reported _ _, handReport_host_tx _ _⟩
    · exact ⟨.refl _, rfl⟩

/-- What a POLL leaves of the session, the binding and the bin. -/
theorem polled_leaves (m : PollMsg) (s : State) :
    let seen := (s.stick.binding.map StickBinding.seenDone).getD false
    let regulates := m.charger = .cc ∨ m.charger = .cv
    let w := polled m s
    PollKeeps { s with stick := { s.stick with binding := some ((StickBinding.orNew s.stick.binding).poll m) } } w ∧
    (m.evac = .done → seen = false → w.debris.b = 0) ∧ (¬ (m.evac = .done ∧ seen = false) → w.debris = s.debris) ∧
    (s.stick.state = .charging → (regulates → w.stick.state = .charging ∧
        w.stick.silence = some (s.ctl.partTime + 2000)) ∧
      (¬ regulates → w.stick.state = .docked ∧ w.stick.silence = none)) ∧
    (s.stick.state = .docked → (regulates ∧ s.chargeFlows = true → w.stick.state = .charging ∧
        w.stick.silence = some (s.ctl.partTime + 2000)) ∧
      (¬ (regulates ∧ s.chargeFlows = true) → w.stick.state = .docked)) ∧
    w.stick.evacRequest = Spec.wantsEvacuation s.evacSet w.debris.b w.stick.binding := by
  intro seen regulates w
  have hseen : (StickBinding.orNew s.stick.binding).seenDone = seen := orNew_seenDone _
  obtain ⟨hdone, hstate, hempty, hfull⟩ := seeDone_keeps m (StickBinding.orNew s.stick.binding).seenDone
    { s with stick := { s.stick with binding := some ((StickBinding.orNew s.stick.binding).poll m) } }
  rw [hseen] at hdone hstate hempty hfull
  have hw : w = deriveRequest (pollSession m.charger (seeDone m seen
    { s with stick := { s.stick with binding := some ((StickBinding.orNew s.stick.binding).poll m) } })) := by
    rw [← hseen]
    rfl
  clear_value w
  generalize seeDone m seen
    { s with stick := { s.stick with binding := some ((StickBinding.orNew s.stick.binding).poll m) } } = u
      at hdone hstate hempty hfull hw
  obtain ⟨hkeeps, hdebris⟩ := pollSession_keeps m.charger u
  have hflows : u.chargeFlows = s.chargeFlows := by rw [State.chargeFlows, State.chargeFlows, hdone.record]
  have htime : u.ctl.partTime = s.ctl.partTime := hdone.partTime
  rw [deriveRequest_eq] at hw
  subst hw
  refine ⟨(hdone.trans hkeeps).trans (.setStick _ _ rfl), fun h1 h2 => ?_, fun h => ?_, fun hst => ?_, fun hst => ?_, ?_⟩
  · exact (congrArg Debris.b hdebris).trans (hempty h1 h2)
  · exact hdebris.trans (hfull h)
  · have h := pollSession_charging (c := m.charger) (hstate.trans hst)
    rw [htime] at h
    exact h
  · have h := pollSession_docked (c := m.charger) (hstate.trans hst)
    rw [htime, hflows] at h
    exact h
  · show Spec.wantsEvacuation (pollSession m.charger u).evacSet _ _ = _
    rw [(hdone.trans hkeeps).evacSet]

/-- Settles O53: the session's steps, then the reply that forms. -/
theorem stickReplies : Obligations.StickReplies := by
  refine ⟨fun s check m hpower hsends hst hm => ⟨fun hversion => ?other, fun hversion => ?answered, ?byte⟩,
    fun s check m hpower hsends hst hm => ?poll, fun s hpower hrole => ⟨fun hwaiting => ?starts, fun htx => ?sent⟩⟩
  case other =>
    rw [(exec_hail hpower hst hm).1, takeHail, if_neg hversion]
    rfl
  case answered =>
    rw [(exec_hail hpower hst hm).1, takeHail, if_pos hversion]
    obtain ⟨k, hleaves⟩ := answerHail_leaves (s := endFrame s) (by exact hsends) (by exact hst) hversion
    exact ⟨_, k, rfl, hleaves⟩
  case byte => rw [(exec_hail hpower hst hm).1, (exec_hail hpower hst hm).2]
  case poll =>
    intro seen regulates
    obtain ⟨hkeeps, hempty, hfull, hcharging, hdocked, hrequest⟩ := polled_leaves m (endFrame s)
    obtain ⟨hreported, htx⟩ := reportPoll_reported (endFrame s)
      (formReply 0x92 (needPayload (polled m (endFrame s))) (polled m (endFrame s)))
    rw [exec_poll hpower hst hm, takePoll_eq]
    have hstate := hreported.state
    generalize reportPoll (endFrame s) (formReply 0x92 (needPayload (polled m (endFrame s))) (polled m (endFrame s))) = u
      at hreported htx hstate
    generalize polled m (endFrame s) = w at *
    have hsent : Spec.Sends u := by
      refine sends_of_eq hsends ?_ ?_
      · rw [hstate]
        exact hkeeps.shipDecided
      · exact htx.trans hkeeps.tx
    obtain ⟨hcontact, hpack⟩ := settle_outputs_of_sends hsent
    refine ⟨_, (StickBinding.orNew s.stick.binding).poll m, rfl, ?_⟩
    rw [settle_stick, settle_debris, settle_drive, settle_prot, settle_pack_q, needPayload_settle, hcontact, hstate]
    refine ⟨hkeeps.binding, rfl, rfl, ?_, hempty, hfull, hcharging, hdocked, hrequest, rfl, ?_, hkeeps.drive, hkeeps.prot, hkeeps.q⟩
    · exact congrArg (· || decide (m.evac = .done)) (orNew_seenDone s.stick.binding)
    · show some (w.ctl.partTime + 2) = _
      rw [hkeeps.partTime]
      rfl
  case starts =>
    have hoccurs : (s.isStick && s.contact.waiting.isSome) = true := by simp [State.isStick, hrole, hwaiting]
    exact event_occurs (f := fun s => { s with contact :=
      { s.contact with tx := s.contact.waiting, waiting := none, replyDue := none } }) hoccurs hpower
  case sent =>
    have hoccurs : (s.isStick && s.contact.tx.isSome) = true := by simp [State.isStick, hrole, htx]
    exact event_occurs (f := fun s => { s with contact := { s.contact with tx := none } }) hoccurs hpower

end Sys2Proof.Machine

/-! The dock's presence and its hail and poll timers (section 6.4). -/

namespace Sys2Proof.Machine

open Sys2Proof

/-! ### Sending (R119) -/

section
variable {s : State} (kind : DockFrame)

theorem sendContact_of_free (hwindow : s.dock.window = none) (htx : s.contact.tx = none) : sendContact kind s
    = { s with contact := { s.contact with tx := some (dockWire s kind), txKind := some kind } } := by
  unfold sendContact
  rw [if_neg (by simp [hwindow, htx])]

theorem sendContact_of_busy (h : s.dock.window.isSome = true ∨ s.contact.tx.isSome = true) :
    sendContact kind s = { s with contact := { s.contact with held := some kind } } := by
  unfold sendContact
  rw [if_pos (by simpa using h)]

variable (s)

/-- Sending a frame concerns the contact link alone. -/
theorem sendContact_contact_only : ∃ c, sendContact kind s = { s with contact := c } := by
  unfold sendContact
  split
  · exact ⟨_, rfl⟩
  · exact ⟨_, rfl⟩

@[simp] theorem sendContact_ctl : (sendContact kind s).ctl = s.ctl := by
  obtain ⟨c, hc⟩ := sendContact_contact_only s kind
  rw [hc]
@[simp] theorem sendContact_host : (sendContact kind s).host = s.host := by
  obtain ⟨c, hc⟩ := sendContact_contact_only s kind
  rw [hc]
@[simp] theorem sendContact_drive : (sendContact kind s).drive = s.drive := by
  obtain ⟨c, hc⟩ := sendContact_contact_only s kind
  rw [hc]
@[simp] theorem sendContact_dock : (sendContact kind s).dock = s.dock := by
  obtain ⟨c, hc⟩ := sendContact_contact_only s kind
  rw [hc]
@[simp] theorem sendContact_charger : (sendContact kind s).charger = s.charger := by
  obtain ⟨c, hc⟩ := sendContact_contact_only s kind
  rw [hc]
@[simp] theorem sendContact_evac : (sendContact kind s).evac = s.evac := by
  obtain ⟨c, hc⟩ := sendContact_contact_only s kind
  rw [hc]

end

/-- A HAIL's fields are of the charger and of the fan. -/
theorem hailPayload_congr {u v : State} (hcharger : u.charger = v.charger) (hdrive : u.drive = v.drive) :
    hailPayload u = hailPayload v := by
  rw [hailPayload, hailPayload, State.dockFlags, State.dockFlags, hcharger, hdrive]

/-- A POLL's fields are of the charger, of the fan and of the report state. -/
theorem pollPayload_congr {u v : State} (hcharger : u.charger = v.charger) (hdrive : u.drive = v.drive)
    (hreport : u.dock.report = v.dock.report) : pollPayload u = pollPayload v := by
  rw [pollPayload, pollPayload, State.dockFlags, State.dockFlags, hcharger, hdrive, hreport]

/-! ### The charger commanded OFF (R144, R148) -/

/-- Commanded OFF, the charger is in OFF, or latched in FAULT. -/
theorem Charger.stop_rests (c : Charger) (now : Ms) :
    (c.stop now).state = .off ∨ (c.stop now).state = .fault ∧ c.latched = true := by
  unfold Charger.stop
  cases hst : c.state with
  | off => exact .inl hst
  | softstart => exact .inl rfl
  | cc => exact .inl rfl
  | cv => exact .inl rfl
  | fault =>
    dsimp only
    split
    · next hlatched => exact .inr ⟨hst, hlatched⟩
    · exact .inl rfl

/-- The latch released, the charger is in OFF with no fault counted. -/
theorem Charger.vacate_rests (c : Charger) (now : Ms) :
    (c.vacate now).state = .off ∧ (c.vacate now).latched = false ∧ (c.vacate now).faultCount = 0 := by
  unfold Charger.vacate Charger.stop
  dsimp only
  cases hst : c.state with
  | off => exact ⟨rfl, rfl, rfl⟩
  | softstart | cc | cv | fault => exact ⟨rfl, rfl, rfl⟩

/-! ### The entries to HAILING and VACANT (R130, R136) -/

/-- The session that an entry to HAILING leaves. -/
def hailingDock (now : Ms) (d : Dock) : Dock :=
  { d with state := .hailing, enteredAt := now, hailCount := 0, noAnswerLogged := false, hailPeriod := 250,
           presentTimer := none, hailTimer := some (now + 250) }

/-- The state in which the entry to HAILING sends its frame. -/
def hailing (s : State) : State :=
  enterActive .contact { s with
    charger := s.charger.stop s.ctl.partTime
    dock := hailingDock s.ctl.partTime s.dock }

theorem enterHailing_eq (s : State) : enterHailing s = sendContact .hail (hailing s) := rfl

@[simp] theorem hailing_dock (s : State) : (hailing s).dock = hailingDock s.ctl.partTime s.dock := enterActive_dock _ _
@[simp] theorem hailing_charger (s : State) : (hailing s).charger = s.charger.stop s.ctl.partTime := enterActive_charger _ _
@[simp] theorem hailing_contact (s : State) : (hailing s).contact = s.contact := enterActive_contact _ _
@[simp] theorem hailing_drive (s : State) : (hailing s).drive = s.drive := enterActive_drive _ _
@[simp] theorem hailing_evac (s : State) : (hailing s).evac = s.evac := enterActive_evac _ _

/-- The end of a run by the session leaves no run, and the charger and the contact link as they were. -/
theorem failRun_leaves (s : State) : (failRun s).evac.phase = .none ∧ (failRun s).charger = s.charger ∧
    (failRun s).contact = s.contact ∧ (failRun s).ctl = s.ctl := by
  unfold failRun
  refine ⟨?_, by simp, by simp, by simp⟩
  rw [reportMove_evac]
  by_cases h : s.evac.phase = .none
  · rw [endRun, if_pos h, h]
  · rw [endRun, if_neg h, driveStop_evac, endRunRecords_phase]

/-- Outside EVACUATING the end of a run enters its result in the binding, and the report state, alone. -/
theorem failRun_dock {s : State} (hst : s.dock.state ≠ .evacuating) : ∃ b r,
    (failRun s).dock = { s.dock with binding := b, report := r } ∧
    b.map DockBinding.missCount = s.dock.binding.map DockBinding.missCount := by
  unfold failRun
  rw [reportMove_dock]
  by_cases h : s.evac.phase = .none
  · exact ⟨s.dock.binding, s.dock.report, by rw [endRun, if_pos h], rfl⟩
  · have hdock : (endRunRecords .failed s).dock = { s.dock.recordResult s.evac.kind .failed with
        report := runEvacState .failed } := by
      rw [(endRunRecords_reported h).state]
      show ({ (s.dock.recordResult s.evac.kind .failed).afterRun _ _ with report := runEvacState .failed } : Dock) = _
      rw [Dock.afterRun, if_neg]
      unfold Dock.recordResult
      split <;> exact hst
    rw [endRun, if_neg h, driveStop_dock, hdock, Dock.recordResult]
    split
    · refine ⟨_, _, rfl, ?_⟩
      cases s.dock.binding <;> rfl
    · exact ⟨_, _, rfl, rfl⟩

/-! ### A sample of the contact current (R130) -/

theorem exec_contactCurrent (mA : Nat) {s : State} (hpower : s.ctl.power ≠ .ship) (hrole : s.ctl.role = .dock) :
    exec (.contactCurrentSample mA) s = .next (settle (currentSampled mA s)) :=
  event_occurs (by simp [State.isDock, hrole]) hpower

/-- The sample in the record. -/
def currentTaken (mA : Nat) (s : State) : State := { s with dock := { s.dock with contactI := some mA } }

theorem currentSampled_vacant {mA : Nat} {s : State} (h : s.dock.state = .vacant) :
    currentSampled mA s = sampleVacant mA (currentTaken mA s) := if_pos h

theorem currentSampled_present {mA : Nat} {s : State} (h : s.dock.state ≠ .vacant) :
    currentSampled mA s = samplePresent mA (currentTaken mA s) := if_neg h

section
variable {mA : Nat} {s : State} {timer : Option Ms}

theorem sampleVacant_waits (h : qualify s.ctl.partTime s.dock.presentTimer (decide (1 ≤ mA)) 100 = (timer, false)) :
    sampleVacant mA s = { s with dock := { s.dock with presentTimer := timer } } := by
  unfold sampleVacant State.now
  dsimp only
  rw [h, if_neg Bool.false_ne_true]

theorem sampleVacant_enters (h : qualify s.ctl.partTime s.dock.presentTimer (decide (1 ≤ mA)) 100 = (timer, true)) :
    sampleVacant mA s = reportDock .presence { s with dock := { s.dock with presentTimer := timer } }
      (enterHailing { s with dock := { s.dock with presentTimer := timer } }) := by
  unfold sampleVacant State.now
  dsimp only
  rw [h, if_pos rfl]

theorem samplePresent_waits (h : qualify s.ctl.partTime s.dock.absentTimer (decide (mA < 1)) 100 = (timer, false)) :
    samplePresent mA s = { s with dock := { s.dock with absentTimer := timer } } := by
  unfold samplePresent State.now
  dsimp only
  rw [h, if_neg Bool.false_ne_true]

theorem samplePresent_enters (h : qualify s.ctl.partTime s.dock.absentTimer (decide (mA < 1)) 100 = (timer, true)) :
    samplePresent mA s = enterVacant { s with dock := { s.dock with absentTimer := timer } } := by
  unfold samplePresent State.now
  dsimp only
  rw [h, if_pos rfl]

end

/-- The session, the charger and the frame after the entry to HAILING. -/
theorem enterHailing_leaves (s : State) :
    (enterHailing s).dock = hailingDock s.ctl.partTime s.dock ∧
    (enterHailing s).charger = s.charger.stop s.ctl.partTime ∧ (enterHailing s).drive = s.drive ∧
    (enterHailing s).evac = s.evac ∧ (enterHailing s).ctl.shipDecided = s.ctl.shipDecided ∧
    (enterHailing s).host.tx = s.host.tx ∧
    (s.dock.window = none → s.contact.tx = none →
      (enterHailing s).contact.tx = some (contactWire 0x11 (hailPayload (enterHailing s))) ∧
      (enterHailing s).contact.txKind = some .hail) := by
  rw [enterHailing_eq]
  refine ⟨by simp, by simp, by simp, by simp, ?_, ?_, fun hwindow htx => ?_⟩
  · rw [sendContact_ctl, hailing, enterActive_ctl_shipDecided]
  · rw [sendContact_host, hailing, enterActive_host_tx]
  · rw [hailPayload_congr (u := sendContact .hail (hailing s)) (v := hailing s) (by simp) (by simp),
      sendContact_of_free .hail (by simpa [hailingDock] using hwindow) (by simpa using htx)]
    exact ⟨rfl, rfl⟩

/-- The session and the charger after the entry to VACANT. -/
theorem enterVacant_leaves (s : State) :
    (enterVacant s).dock.state = .vacant ∧ (enterVacant s).dock.binding = none ∧ (enterVacant s).dock.report = .idle ∧
    (enterVacant s).dock.hailTimer = none ∧ (enterVacant s).dock.pollTimer = none ∧ (enterVacant s).dock.window = none ∧
    (enterVacant s).dock.hailCount = 0 ∧ (enterVacant s).dock.absentTimer = none ∧
    (enterVacant s).dock.contactI = s.dock.contactI ∧ (enterVacant s).charger.state = .off ∧
    (enterVacant s).charger.latched = false ∧ (enterVacant s).charger.faultCount = 0 ∧
    (enterVacant s).evac.phase = .none := by
  obtain ⟨hphase, hcharger, -, -⟩ := failRun_leaves
    { sessionTo .vacant s with charger := (sessionTo .vacant s).charger.vacate s.ctl.partTime }
  obtain ⟨b, r, hdock, -⟩ := failRun_dock
    (s := { sessionTo .vacant s with charger := (sessionTo .vacant s).charger.vacate s.ctl.partTime }) (by simp [sessionTo])
  obtain ⟨hoff, hlatched, hcount⟩ := Charger.vacate_rests s.charger s.ctl.partTime
  have heq : enterVacant s = reportDock .presence s
      { failRun { sessionTo .vacant s with charger := (sessionTo .vacant s).charger.vacate s.ctl.partTime } with
        dock := { (failRun { sessionTo .vacant s with
            charger := (sessionTo .vacant s).charger.vacate s.ctl.partTime }).dock with
          binding := none, report := .idle, hailTimer := none, pollTimer := none, window := none, windowDue := none,
          hailCount := 0, absentTimer := none }
        contact := { (failRun { sessionTo .vacant s with
            charger := (sessionTo .vacant s).charger.vacate s.ctl.partTime }).contact with held := none } } := rfl
  rw [heq, reportDock_dock, reportDock_charger, reportDock_evac]
  dsimp only
  rw [hdock, hcharger, hphase]
  exact ⟨rfl, rfl, rfl, rfl, rfl, rfl, rfl, rfl, rfl, hoff, hlatched, hcount, rfl⟩

/-! ### The timers (R130, R131) -/

/-- A frame sent, or held back, with the session set anew. -/
theorem timer_sends {s : State} {kind : DockFrame} {d : Dock} {wire : List Byte} (hsends : Spec.Sends s)
    (hwindow : d.window = s.dock.window) (hwire : dockWire { s with dock := d } kind = wire) :
    (settle (sendContact kind { s with dock := d })).dock = d ∧
    (s.dock.window = none ∧ s.contact.tx = none → (settle (sendContact kind { s with dock := d })).contact
      = { s.contact with tx := some wire, txKind := some kind }) ∧
    (s.dock.window.isSome = true ∨ s.contact.tx.isSome = true →
      (settle (sendContact kind { s with dock := d })).contact = { s.contact with held := some kind }) := by
  have hsent : Spec.Sends (sendContact kind { s with dock := d }) := sends_of_eq hsends (by simp) (by simp)
  rw [settle_dock, sendContact_dock, (settle_outputs_of_sends hsent).1]
  refine ⟨rfl, fun hfree => ?_, fun hbusy => ?_⟩
  · rw [sendContact_of_free kind (by exact hwindow.trans hfree.1) (by exact hfree.2), hwire]
  · rw [sendContact_of_busy kind (by
      show d.window.isSome = true ∨ s.contact.tx.isSome = true
      rwa [hwindow])]

theorem exec_hailTimer {s : State} (hpower : s.ctl.power ≠ .ship) (hrun : s.dock.hailTimer.isSome = true) :
    exec .hailTimerExpiry s = .next (settle (sendContact .hail { s with
      dock := { s.dock with hailTimer := some (s.ctl.partTime + BitVec.ofNat 32 s.dock.hailPeriod) } })) :=
  event_occurs (f := fun s => sendContact .hail { s with
    dock := { s.dock with hailTimer := some (s.after s.dock.hailPeriod) } }) hrun hpower

theorem exec_pollTimer {s : State} (hpower : s.ctl.power ≠ .ship) (hrun : s.dock.pollTimer.isSome = true) :
    exec .pollTimerExpiry s = .next (settle (sendContact .poll { s with
      dock := { s.dock with pollTimer := some (s.ctl.partTime + 500) } })) :=
  event_occurs (f := fun s => sendContact .poll { s with
    dock := { s.dock with pollTimer := some (s.after 500) } }) hrun hpower

/-- Settles O54: the samples' condition qualified, or not, and the frames of the two timers. -/
theorem dockPresenceFollows : Obligations.DockPresenceFollows := by
  refine ⟨fun s mA hpower hsends hrole => ⟨fun hst => ?vacant, fun hst => ?present,
    fun hst t0 habsent ht hle => ?leaves⟩, fun s hpower hsends => ⟨fun hrun => ?hail, fun hrun => ?poll⟩⟩
  case vacant =>
    rw [exec_contactCurrent mA hpower hrole, currentSampled_vacant hst]
    refine ⟨fun habsent => ?_, fun hpresent ht => ?_, fun t0 hpresent ht hlt => ?_, fun t0 hpresent ht hle => ?_⟩
    · rw [sampleVacant_waits (s := currentTaken mA s) (qualify_absent _ _ _ (decide_eq_false (by omega)))]
      rfl
    · rw [sampleVacant_waits (s := currentTaken mA s) (qualify_begins _ _ (decide_eq_true hpresent) ht)]
      rfl
    · rw [sampleVacant_waits (s := currentTaken mA s) (qualify_waits (decide_eq_true hpresent) ht hlt), ← ht]
      rfl
    · rw [sampleVacant_enters (s := currentTaken mA s) (qualify_passes (decide_eq_true hpresent) ht hle)]
      obtain ⟨hdock, hcharger, hdrive, hevac, hship, htx, hframe⟩ := enterHailing_leaves
        { currentTaken mA s with dock := { (currentTaken mA s).dock with presentTimer := none } }
      generalize enterHailing { currentTaken mA s with dock := { (currentTaken mA s).dock with presentTimer := none } } = u
        at hdock hcharger hdrive hevac hship htx hframe
      have hreported := reportDock_dock .presence
        { currentTaken mA s with dock := { (currentTaken mA s).dock with presentTimer := none } } u
      have hsent : Spec.Sends (reportDock .presence
          { currentTaken mA s with dock := { (currentTaken mA s).dock with presentTimer := none } } u) :=
        sends_of_eq hsends (by rw [reportDock_ctl, hship]; rfl) (by rw [reportDock_host_tx, htx]; rfl)
      refine ⟨_, rfl, ?_⟩
      rw [hailPayload_congr (v := u) (by simp) (by simp), (settle_outputs_of_sends hsent).1, settle_dock, settle_charger,
        settle_drive, settle_evac, hreported, reportDock_charger, reportDock_drive, reportDock_evac, reportDock_contact,
        hdock, hcharger, hdrive, hevac]
      exact ⟨rfl, rfl, rfl, rfl, rfl, rfl, Charger.stop_rests _ _, hframe, rfl, rfl⟩
  case present =>
    rw [exec_contactCurrent mA hpower hrole, currentSampled_present hst]
    refine ⟨fun hpresent => ?_, fun habsent ht => ?_, fun t0 habsent ht hlt => ?_⟩
    · rw [samplePresent_waits (s := currentTaken mA s) (qualify_absent _ _ _ (decide_eq_false (by omega)))]
      rfl
    · rw [samplePresent_waits (s := currentTaken mA s) (qualify_begins _ _ (decide_eq_true (by omega)) ht)]
      rfl
    · rw [samplePresent_waits (s := currentTaken mA s) (qualify_waits (decide_eq_true (by omega)) ht hlt), ← ht]
      rfl
  case leaves =>
    rw [exec_contactCurrent mA hpower hrole, currentSampled_present hst,
      samplePresent_enters (s := currentTaken mA s) (qualify_passes (decide_eq_true (by omega)) ht hle)]
    refine ⟨_, rfl, ?_⟩
    rw [settle_dock, settle_charger, settle_evac]
    have hleaves := enterVacant_leaves { currentTaken mA s with dock := { (currentTaken mA s).dock with absentTimer := none } }
    rw [show ({ currentTaken mA s with dock := { (currentTaken mA s).dock with absentTimer := none } } : State).dock.contactI
      = some 0 from congrArg some habsent] at hleaves
    exact hleaves
  case hail => exact ⟨_, exec_hailTimer hpower hrun, timer_sends hsends rfl rfl⟩
  case poll => exact ⟨_, exec_pollTimer hpower hrun, timer_sends hsends rfl rfl⟩

end Sys2Proof.Machine

/-! The dock's reply windows, ANSWER and NEED (section 6.4). -/

namespace Sys2Proof.Machine

open Sys2Proof

/-! ### A frame held back (R119) -/

theorem sendHeld_of_none {s : State} (h : s.contact.held = none) : sendHeld s = s := by
  unfold sendHeld
  rw [h]

/-- The frame held back concerns the contact link alone. -/
theorem sendHeld_dock (s : State) : (sendHeld s).dock = s.dock := by
  unfold sendHeld
  split
  · rfl
  · dsimp only
    split
    · rw [sendContact_dock]
    · rfl

/-! ### A window that expires (R130, R132) -/

/-- The window closed. -/
def windowClosed (s : State) : State := { s with dock := { s.dock with window := none, windowDue := none } }

section
variable {s : State}

theorem exec_replyWindow (hpower : s.ctl.power ≠ .ship) (h : s.dock.window.isSome = true) :
    exec .replyWindowExpiry s = .next (settle (windowOver s)) := event_occurs h hpower

theorem windowOver_hail (h : s.dock.window = some .hail) : windowOver s = sendHeld (hailUnanswered (windowClosed s)) := by
  unfold windowOver
  rw [h]
  rfl

theorem windowOver_poll (h : s.dock.window = some .poll) : windowOver s = sendHeld (pollMissed (windowClosed s)) := by
  unfold windowOver
  rw [h]
  rfl

theorem hailUnanswered_counts (h : s.dock.hailCount < 19) :
    hailUnanswered s = { s with dock := { s.dock with hailCount := s.dock.hailCount + 1 } } := by
  have hcount : min 20 (s.dock.hailCount + 1) = s.dock.hailCount + 1 := Nat.min_eq_right (by omega)
  unfold hailUnanswered
  rw [hcount]
  exact if_neg fun hc => by omega

theorem hailUnanswered_logs (h : s.dock.hailCount = 19) (hlogged : s.dock.noAnswerLogged = false) :
    hailUnanswered s = appendFault .dockLink .noAnswer (.num 20) none
      { s with dock := { s.dock with hailCount := 20, noAnswerLogged := true, hailPeriod := 1000 } } := by
  unfold hailUnanswered
  rw [h]
  exact if_pos ⟨Nat.le_refl _, hlogged⟩

/-- The missed POLL counted in the binding. -/
def pollCounted (k : DockBinding) (s : State) : State :=
  { s with dock := { s.dock with binding := some { k with missCount := min 20 (k.missCount + 1) } } }

theorem pollMissed_counts {k : DockBinding} (hk : s.dock.binding = some k) :
    pollMissed s = missSession (min 20 (k.missCount + 1)) (pollCounted k s) := by
  unfold pollMissed State.missCount pollCounted
  rw [hk]
  rfl

/-- Without a binding and in VACANT a window that expires for a POLL counts nothing. -/
theorem pollMissed_vacant (hk : s.dock.binding = none) (hst : s.dock.state = .vacant) : pollMissed s = s := by
  have hsame : ({ s with dock := { s.dock with binding := none } } : State) = s := by rw [← hk]
  unfold pollMissed
  dsimp only
  rw [hk, Option.map_none, hsame, missSession, hst]

theorem missSession_stays {count : Nat} (hcount : count < 3 ∨ s.dock.state = .hold ∧ count < 20) : missSession count s = s := by
  unfold missSession
  split
  case h_1 hst | h_2 hst | h_3 hst =>
    rw [if_neg]
    intro h
    rcases hcount with hfew | ⟨hhold, -⟩
    · omega
    · rw [hst] at hhold
      cases hhold
  case h_4 =>
    rw [if_neg]
    omega
  all_goals rfl

theorem missSession_holds {count : Nat} (hcount : 3 ≤ count)
    (hst : s.dock.state = .bound ∨ s.dock.state = .charging ∨ s.dock.state = .evacuating) :
    missSession count s = enterHold s := by
  unfold missSession
  rcases hst with h | h | h <;> rw [h] <;> exact if_pos hcount

theorem missSession_drops {count : Nat} (hcount : 20 ≤ count) (hst : s.dock.state = .hold) :
    missSession count s = dropBinding s := by
  unfold missSession
  rw [hst]
  exact if_pos hcount

end

/-- The entry to HOLD keeps the binding's miss count and the poll timer, ends a run and logs NEED_LOST (R135). -/
theorem enterHold_leaves (s : State) :
    (enterHold s).dock.state = .hold ∧ (enterHold s).dock.window = s.dock.window ∧ (enterHold s).evac.phase = .none ∧
    (enterHold s).dock.binding.map DockBinding.missCount = s.dock.binding.map DockBinding.missCount ∧
    (enterHold s).dock.pollTimer = s.dock.pollTimer ∧ (enterHold s).contact = s.contact ∧
    ((enterHold s).charger.state = .off ∨ (enterHold s).charger.state = .fault ∧ s.charger.latched = true) ∧
    Spec.Logged s (enterHold s) .dockLink .needLost (.num 3) (some (.num (dockStateCode s.dock.state))) := by
  obtain ⟨hphase, hcharger, hcontact, hctl⟩ := failRun_leaves (chargerOff (sessionTo .hold s))
  obtain ⟨b, r, hdock, hmisses⟩ := failRun_dock (s := chargerOff (sessionTo .hold s)) (by simp [chargerOff, sessionTo])
  have heq : enterHold s = reportDock .miss s (appendFault .dockLink .needLost (.num 3)
    (some (.num (dockStateCode s.dock.state))) (failRun (chargerOff (sessionTo .hold s)))) := rfl
  have hfit : ((.num (dockStateCode s.dock.state) : Reading)).fit16 = .num (dockStateCode s.dock.state) := by
    cases s.dock.state <;> rfl
  have hlogged := appendFault_logged .dockLink .needLost (.num 3) (some (.num (dockStateCode s.dock.state))) (s := s)
    (u := failRun (chargerOff (sessionTo .hold s))) (by rw [hctl]; rfl)
  rw [Option.map_some, hfit] at hlogged
  have hreported := Logged.reported hlogged (reportDock_reported .miss s _)
  rw [heq]
  refine ⟨?_, ?_, ?_, ?_, ?_, ?_, ?_, hreported⟩
  · rw [reportDock_dock, appendFault_dock, hdock]
    rfl
  · rw [reportDock_dock, appendFault_dock, hdock]
    rfl
  · rw [reportDock_evac, appendFault_evac, hphase]
  · rw [reportDock_dock, appendFault_dock, hdock]
    exact hmisses
  · rw [reportDock_dock, appendFault_dock, hdock]
    rfl
  · rw [reportDock_contact, appendFault_contact, hcontact]
    rfl
  · rw [reportDock_charger, appendFault_charger, hcharger]
    exact Charger.stop_rests s.charger s.ctl.partTime

theorem dropBinding_leaves (s : State) : (dropBinding s).dock.state = .hailing ∧ (dropBinding s).dock.binding = none ∧
    (dropBinding s).dock.report = .idle ∧ (dropBinding s).dock.pollTimer = none ∧ (dropBinding s).dock.hailCount = 0 := by
  unfold dropBinding
  rw [reportDock_dock, (enterHailing_leaves _).1]
  exact ⟨rfl, rfl, rfl, rfl, rfl⟩

/-! ### ANSWER (R131, R148) -/

section
variable {s : State} {check : Byte}

theorem exec_answer {m : AnswerMsg} (hpower : s.ctl.power ≠ .ship) (hwindow : s.dock.window = some .hail)
    (h : s.completesMessage check = some (.answer m)) :
    exec (.answerAccepted check) s = .next (settle (acceptAnswer m (endFrame s))) := by
  have htaken : s.answerTaken check = some m := by
    unfold State.answerTaken
    rw [h, hwindow]
  have hexec : exec (.answerAccepted check) s = .next (settle (answerCompleted check s)) :=
    event_occurs (by rw [htaken]; rfl) hpower
  rw [hexec, answerCompleted, htaken]

theorem exec_need {m : NeedMsg} (hpower : s.ctl.power ≠ .ship) (hwindow : s.dock.window = some .poll)
    (h : s.completesMessage check = some (.need m)) :
    exec (.needAccepted check) s = .next (settle (acceptNeed m (endFrame s))) := by
  have htaken : s.needTaken check = some m := by
    unfold State.needTaken
    rw [h, hwindow]
  have hexec : exec (.needAccepted check) s = .next (settle (needCompleted check s)) :=
    event_occurs (by rw [htaken]; rfl) hpower
  rw [hexec, needCompleted, htaken]

end

theorem Charger.stop_faultCount (c : Charger) (now : Ms) : (c.stop now).faultCount = c.faultCount := by
  unfold Charger.stop
  split
  case h_5 => split <;> rfl
  all_goals rfl

/-- The session that the acceptance of an ANSWER leaves. -/
def boundDock (m : AnswerMsg) (state : DockState) (report : EvacState) (s : State) : Dock :=
  { s.dock with
    state := state, enteredAt := s.ctl.partTime, window := none, windowDue := none, report := report
    hailTimer := none, pollTimer := some (s.ctl.partTime + 500)
    binding := some ⟨m.cells, m.soc, m.binLoad, m.level, none, 0, 0, 0, none, s.ctl.partTime⟩ }

section
variable {s : State} {m : AnswerMsg} (hst : s.dock.state = .hailing) (hheld : s.contact.held = none)
  (htx : s.contact.tx = none)
include hst hheld htx

/-- An ANSWER accepted in HAILING binds the stick and polls it, whatever the session then is. -/
theorem acceptAnswer_binds {state : DockState} {report : EvacState} {c : Charger} {u : State}
    (hu : u = { s with dock := boundDock m state report s, charger := c })
    (hbind : bindStick m (closeWindow s) = reportDock .answer (closeWindow s) (sendContact .poll u)) :
    (acceptAnswer m s).dock = boundDock m state report s ∧ (acceptAnswer m s).charger = c ∧
    (acceptAnswer m s).evac = s.evac ∧ (acceptAnswer m s).drive = s.drive ∧
    (acceptAnswer m s).contact.tx = some (contactWire 0x12 (pollPayload (acceptAnswer m s))) ∧
    (acceptAnswer m s).contact.rx = s.contact.rx ∧ (acceptAnswer m s).ctl = s.ctl ∧
    (acceptAnswer m s).host.tx = s.host.tx := by
  have hsent := sendContact_of_free (s := u) .poll (by rw [hu]; rfl) (by rw [hu]; exact htx)
  have heq : acceptAnswer m s = reportDock .answer (closeWindow s) (sendContact .poll u) := by
    unfold acceptAnswer
    dsimp only
    rw [if_pos hst, hbind, sendHeld_of_none]
    rw [reportDock_contact, hsent, hu]
    exact hheld
  rw [heq, pollPayload_congr (v := u) (by simp) (by simp) (by simp)]
  simp only [reportDock_dock, reportDock_charger, reportDock_evac, reportDock_drive, reportDock_contact, reportDock_ctl,
    reportDock_host_tx]
  rw [hsent]
  subst hu
  exact ⟨rfl, rfl, rfl, rfl, rfl, rfl, rfl, rfl⟩

end

section
variable {s : State} {m : AnswerMsg}

theorem bindStick_idle (hphase : s.evac.phase = .none) : bindStick m (closeWindow s)
    = reportDock .answer (closeWindow s) (sendContact .poll { s with
        dock := boundDock m .bound .idle s
        charger := ({ s.charger with faultCount := 0 } : Charger).stop s.ctl.partTime }) := by
  have hrunning : decide ((closeWindow s).evac.phase ≠ .none) = false := decide_eq_false (Classical.not_not.mpr hphase)
  unfold bindStick
  dsimp only
  rw [hrunning]
  rfl

theorem bindStick_running (hphase : s.evac.phase ≠ .none) : bindStick m (closeWindow s)
    = reportDock .answer (closeWindow s) (sendContact .poll { s with
        dock := boundDock m .evacuating .running s
        charger := { s.charger with faultCount := 0 } }) := by
  have hrunning : decide ((closeWindow s).evac.phase ≠ .none) = true := decide_eq_true hphase
  unfold bindStick
  dsimp only
  rw [hrunning]
  rfl

end

/-! ### NEED (R132, R133) -/

/-- The values of a NEED in the charger's record, whatever its state (R144). -/
theorem Charger.run_takes (c : Charger) (n : Need) (now : Ms) :
    (c.run n now).target = n.target ∧ (c.run n now).needLimit = n.limit ∧ (c.run n now).setpoint ≤ n.limit ∧
    (c.state = .off → (c.run n now).state = .softstart ∧ (c.run n now).setpoint = 0) ∧
    (c.state ≠ .off → (c.run n now).state = c.state) := by
  unfold Charger.run
  cases hst : c.state with
  | off => exact ⟨rfl, rfl, Nat.zero_le _, fun _ => ⟨rfl, rfl⟩, fun h => absurd rfl h⟩
  | softstart | cc | cv => exact ⟨rfl, rfl, Nat.min_le_right _ _, fun h => absurd h (by decide), fun _ => hst⟩
  | fault =>
    dsimp only
    split
    · exact ⟨rfl, rfl, Nat.min_le_right _ _, fun h => absurd h (by decide), fun _ => hst⟩
    · exact ⟨rfl, rfl, Nat.min_le_right _ _, fun h => absurd h (by decide), fun _ => hst⟩

theorem asks_iff (n : Need) : n.asks = true ↔ n.permitted = true ∧ 0 < n.limit := by
  rw [Need.asks, Bool.and_eq_true, decide_eq_true_eq]

/-- The session step of a NEED concerns the session's state and the charger alone. -/
theorem needSession_only (n : Need) (s : State) : ∃ st at' c, needSession n s
    = { s with dock := { s.dock with state := st, enteredAt := at' }, charger := c } := by
  unfold needSession needInBound needInEvacuating
  split
  case h_5 | h_6 => exact ⟨_, _, _, rfl⟩
  case h_4 => split <;> split <;> exact ⟨_, _, _, rfl⟩
  all_goals split <;> exact ⟨_, _, _, rfl⟩

/-- The record of an accepted NEED, with its binding. -/
def needRecorded (m : NeedMsg) (k : DockBinding) (s : State) : State :=
  { s with dock := { s.dock with
      window := none, windowDue := none, report := doneReport m s.dock.report
      binding := some { k with need := some m, needTime := s.ctl.partTime, missCount := 0 } } }

section
variable {s : State} {m : NeedMsg} {k : DockBinding}

theorem recordNeed_eq (hk : s.dock.binding = some k) : recordNeed m s = needRecorded m k s := by
  unfold recordNeed closeWindow
  dsimp only
  rw [hk]
  rfl

/-- No counted run starts at a NEED that asks for none, after one, or with the fan or a run in the way (R150). -/
theorem countedRun_not_due (h : m.evacRequest = false ∨ k.evacsDone ≠ 0 ∨ s.drive.state ≠ .off ∨ s.evac.phase ≠ .none ∨
    (needSession m.need (needRecorded m k s)).dock.state = .evacuating) :
    (needSession m.need (needRecorded m k s)).countedRunDue = false := by
  obtain ⟨st, at', c, heq⟩ := needSession_only m.need (needRecorded m k s)
  rw [heq] at h ⊢
  simp only [State.countedRunDue, State.lastNeed, needRecorded, Option.bind_some, Option.map_some] at h ⊢
  rcases h with h | h | h | h | h <;> simp [h]

/-- An accepted NEED that starts no run: the session step and its report. -/
theorem acceptNeed_eq (hk : s.dock.binding = some k) (hheld : s.contact.held = none)
    (hdue : (needSession m.need (needRecorded m k s)).countedRunDue = false) :
    acceptNeed m s = reportNeed s (needSession m.need (needRecorded m k s)) := by
  unfold acceptNeed
  dsimp only
  rw [recordNeed_eq hk, hdue, if_neg Bool.false_ne_true, sendHeld_of_none]
  obtain ⟨st, at', c, heq⟩ := needSession_only m.need (needRecorded m k s)
  rw [reportNeed, reportDock_contact, heq]
  exact hheld

/-- What an accepted NEED that starts no run leaves: the session step in the session and the charger, and the rest of the
record. -/
theorem acceptNeed_leaves (hk : s.dock.binding = some k) (hheld : s.contact.held = none)
    (hdue : (needSession m.need (needRecorded m k s)).countedRunDue = false) :
    let t := settle (acceptNeed m s)
    t.dock.state = (needSession m.need (needRecorded m k s)).dock.state ∧
    t.charger = (needSession m.need (needRecorded m k s)).charger ∧ t.dock.window = none ∧
    t.dock.report = doneReport m s.dock.report ∧
    t.dock.binding = some { k with need := some m, needTime := s.ctl.partTime, missCount := 0 } ∧
    t.drive = s.drive ∧ t.evac = s.evac := by
  intro t
  obtain ⟨st, at', c, heq⟩ := needSession_only m.need (needRecorded m k s)
  show (settle (acceptNeed m s)).dock.state = _ ∧ (settle (acceptNeed m s)).charger = _ ∧
    (settle (acceptNeed m s)).dock.window = _ ∧ (settle (acceptNeed m s)).dock.report = _ ∧
    (settle (acceptNeed m s)).dock.binding = _ ∧ (settle (acceptNeed m s)).drive = _ ∧ (settle (acceptNeed m s)).evac = _
  rw [acceptNeed_eq hk hheld hdue, reportNeed, settle_dock, settle_charger, settle_drive, settle_evac, reportDock_dock,
    reportDock_charger, reportDock_drive, reportDock_evac, heq]
  exact ⟨rfl, rfl, rfl, rfl, rfl, rfl, rfl⟩

end

section
variable {n : Need} {u : State}

theorem needSession_charges (hst : u.dock.state = .bound ∨ u.dock.state = .charging) (hasks : n.asks = true) :
    (needSession n u).dock.state = .charging ∧ (needSession n u).charger = u.charger.run n u.ctl.partTime := by
  unfold needSession needInBound
  rcases hst with h | h
  · rw [h]
    dsimp only
    rw [if_pos hasks]
    exact ⟨rfl, rfl⟩
  · rw [h]
    dsimp only
    rw [if_pos hasks]
    exact ⟨h, rfl⟩

theorem needSession_binds (hst : u.dock.state = .bound ∨ u.dock.state = .charging) (hasks : ¬ n.asks = true) :
    (needSession n u).dock.state = .bound ∧
    (u.dock.state = .charging → (needSession n u).charger = u.charger.stop u.ctl.partTime) := by
  unfold needSession needInBound
  rcases hst with h | h
  · rw [h]
    dsimp only
    rw [if_neg hasks]
    exact ⟨h, fun hc => absurd hc (by decide)⟩
  · rw [h]
    dsimp only
    rw [if_neg hasks]
    exact ⟨rfl, fun _ => rfl⟩

theorem needInEvacuating_leaves (hst : u.dock.state = .evacuating) : (needInEvacuating n u).dock.state = .evacuating ∧
    (n.asks = true → (needInEvacuating n u).charger = u.charger.run n u.ctl.partTime) ∧
    (¬ n.asks = true → (needInEvacuating n u).charger = u.charger.stop u.ctl.partTime) := by
  unfold needInEvacuating
  split
  · next h => exact ⟨hst, fun _ => rfl, fun hn => absurd h hn⟩
  · next h => exact ⟨hst, fun hy => absurd hy h, fun _ => rfl⟩

/-- In EVACUATING, and from HOLD with a run in flight, the session evacuates and the charger follows the NEED (R133). -/
theorem needSession_evacuates (hst : u.dock.state = .evacuating ∨ u.dock.state = .hold ∧ u.evac.phase ≠ .none) :
    (needSession n u).dock.state = .evacuating ∧
    (n.asks = true → (needSession n u).charger = u.charger.run n u.ctl.partTime) ∧
    (¬ n.asks = true → (needSession n u).charger = u.charger.stop u.ctl.partTime) := by
  unfold needSession
  rcases hst with h | ⟨h, hphase⟩
  · rw [h]
    exact needInEvacuating_leaves h
  · rw [h]
    dsimp only
    rw [if_neg hphase]
    exact needInEvacuating_leaves (u := sessionTo .evacuating u) rfl

/-- From HOLD with no run in flight the session is BOUND or CHARGING again (R133). -/
theorem needSession_returns (hst : u.dock.state = .hold) (hphase : u.evac.phase = .none) :
    (n.asks = true → (needSession n u).dock.state = .charging ∧
      (needSession n u).charger = (u.charger.stop u.ctl.partTime).run n u.ctl.partTime) ∧
    (¬ n.asks = true → (needSession n u).dock.state = .bound ∧
      (needSession n u).charger = u.charger.stop u.ctl.partTime) := by
  unfold needSession needInBound
  rw [hst]
  dsimp only
  rw [if_pos hphase]
  refine ⟨fun h => ?_, fun h => ?_⟩
  · rw [if_pos h]
    exact ⟨rfl, rfl⟩
  · rw [if_neg h]
    exact ⟨rfl, rfl⟩

end

theorem Charger.stop_of_off {c : Charger} (h : c.state = .off) (now : Ms) : c.stop now = c := by
  unfold Charger.stop
  rw [h]

/-! ### The obligation -/

/-- A POLL's window that expires, by the binding's miss count. -/
theorem pollWindow_judges {s : State} {k : DockBinding} (hpower : s.ctl.power ≠ .ship) (hheld : s.contact.held = none)
    (hwindow : s.dock.window = some .poll) (hk : s.dock.binding = some k) (hvacant : s.dock.state ≠ .vacant)
    (hhailing : s.dock.state ≠ .hailing) :
    (k.missCount < 2 → exec .replyWindowExpiry s = .next (settle { s with dock := { s.dock with
      window := none, windowDue := none, binding := some { k with missCount := k.missCount + 1 } } })) ∧
    (k.missCount = 2 → s.dock.state ≠ .hold → ∃ t, exec .replyWindowExpiry s = .next t ∧ t.dock.state = .hold ∧
      t.dock.window = none ∧ t.evac.phase = .none ∧ (t.dock.binding.map DockBinding.missCount) = some 3 ∧
      t.dock.pollTimer = s.dock.pollTimer ∧
      (t.charger.state = .off ∨ t.charger.state = .fault ∧ s.charger.latched = true) ∧
      Spec.Logged s t .dockLink .needLost (.num 3) (some (.num (dockStateCode s.dock.state)))) ∧
    (2 ≤ k.missCount → k.missCount < 19 → s.dock.state = .hold → exec .replyWindowExpiry s
      = .next (settle { s with dock := { s.dock with
          state := .hold, window := none, windowDue := none,
          binding := some { k with missCount := k.missCount + 1 } } })) ∧
    (19 ≤ k.missCount → s.dock.state = .hold → ∃ t, exec .replyWindowExpiry s = .next t ∧ t.dock.state = .hailing ∧
      t.dock.binding = none ∧ t.dock.report = .idle ∧ t.dock.pollTimer = none ∧ t.dock.hailCount = 0) := by
  have hexec : exec .replyWindowExpiry s
      = .next (settle (sendHeld (missSession (min 20 (k.missCount + 1)) (pollCounted k (windowClosed s))))) := by
    rw [exec_replyWindow hpower (by rw [hwindow]; rfl), windowOver_poll hwindow,
      pollMissed_counts (s := windowClosed s) (by exact hk)]
  have hstays : k.missCount < 19 → (k.missCount < 2 ∨ s.dock.state = .hold) → exec .replyWindowExpiry s
      = .next (settle { s with dock := { s.dock with
          window := none, windowDue := none, binding := some { k with missCount := k.missCount + 1 } } }) := fun hlt hst => by
    have hcount : min 20 (k.missCount + 1) = k.missCount + 1 := Nat.min_eq_right (by omega)
    have hmiss : min 20 (k.missCount + 1) < 3 ∨
        (pollCounted k (windowClosed s)).dock.state = .hold ∧ min 20 (k.missCount + 1) < 20 := by
      rcases hst with h | h
      · exact .inl (by omega)
      · exact .inr ⟨h, by omega⟩
    rw [hexec, missSession_stays hmiss, sendHeld_of_none (by exact hheld), pollCounted, hcount]
    rfl
  refine ⟨fun hfew => hstays (by omega) (.inl hfew), fun htwo hnot => ?_, fun hlo hhi hst => ?_, fun hmany hst => ?_⟩
  · have hbound : s.dock.state = .bound ∨ s.dock.state = .charging ∨ s.dock.state = .evacuating := by
      cases hst : s.dock.state <;> simp_all
    obtain ⟨hstate, hclosed, hphase, hmisses, htimer, hcontact, hcharger, hlogged⟩ :=
      enterHold_leaves (pollCounted k (windowClosed s))
    refine ⟨_, hexec, ?_⟩
    rw [missSession_holds (by omega) (by exact hbound), sendHeld_of_none (by rw [hcontact]; exact hheld), settle_dock,
      settle_evac, settle_charger]
    refine ⟨hstate, hclosed, hphase, hmisses.trans ?_, htimer, hcharger, Logged.settled ?_⟩
    · show some (min 20 (k.missCount + 1)) = some 3
      rw [htwo]
      rfl
    · obtain ⟨hring, hseq, hnew⟩ := hlogged
      exact ⟨hring, hseq, hnew⟩
  · rw [hstays hhi (.inr hst), ← hst]
  · refine ⟨_, hexec, ?_⟩
    rw [settle_dock, sendHeld_dock, missSession_drops (by omega) (by exact hst)]
    exact dropBinding_leaves _

/-- Settles O55: the window's expiry by its frame, and the two acceptances. -/
theorem dockWindowsJudge : Obligations.DockWindowsJudge := by
  refine ⟨fun s hpower hrole htx => ?sent, fun s hpower hheld => ⟨fun hwindow hcount => ?counted,
    fun hwindow hcount hlogged => ?logged, fun hwindow hk hst => ?vacant,
    fun k hwindow hk hvacant hhailing => pollWindow_judges hpower hheld hwindow hk hvacant hhailing⟩,
    fun s check m hpower hsends hm hwindow hst hheld htx hphase => ?answerIdle,
    fun s check m hpower hsends hm hwindow hst hheld htx hphase => ?answerRunning,
    fun s check m k hpower hm hwindow hk hheld hst => ?report,
    fun s check m k hpower hm hwindow hk hheld hphase hnone hst => ?need,
    fun s check m k hpower hm hwindow hk hheld hquiet hst => ?evacuating⟩
  case sent =>
    have hoccurs : (s.isDock && s.contact.tx.isSome) = true := by simp [State.isDock, hrole, htx]
    exact event_occurs (f := frameSent) hoccurs hpower
  case counted =>
    rw [exec_replyWindow hpower (by rw [hwindow]; rfl), windowOver_hail hwindow,
      hailUnanswered_counts (s := windowClosed s) (by exact hcount), sendHeld_of_none (by exact hheld)]
    rfl
  case logged =>
    rw [exec_replyWindow hpower (by rw [hwindow]; rfl), windowOver_hail hwindow,
      hailUnanswered_logs (s := windowClosed s) (by exact hcount) (by exact hlogged),
      sendHeld_of_none (by rw [appendFault_contact]; exact hheld)]
    exact ⟨_, rfl, by rw [settle_dock, appendFault_dock]; rfl, Logged.settled (appendFault_logged _ _ _ _ (by rfl))⟩
  case vacant =>
    rw [exec_replyWindow hpower (by rw [hwindow]; rfl), windowOver_poll hwindow,
      pollMissed_vacant (s := windowClosed s) (by exact hk) (by exact hst), sendHeld_of_none (by exact hheld)]
    rfl
  case answerIdle =>
    obtain ⟨hdock, hcharger, hevac, hdrive, hpoll, hrx, hctl, hhost⟩ := acceptAnswer_binds (s := endFrame s) (m := m)
      (by exact hst) (by exact hheld) (by exact htx) rfl (bindStick_idle (s := endFrame s) (by exact hphase))
    have hsent : Spec.Sends (acceptAnswer m (endFrame s)) := sends_of_eq hsends (by rw [hctl]; rfl) hhost
    refine ⟨_, exec_answer hpower hwindow hm, ?_⟩
    rw [pollPayload_congr (v := acceptAnswer m (endFrame s)) (by simp) (by simp) (by simp),
      (settle_outputs_of_sends hsent).1, settle_dock, settle_charger, hcharger, Charger.stop_faultCount]
    rw [← hpoll, hdock, hrx]
    exact ⟨rfl, rfl, rfl, rfl, rfl, rfl, rfl, rfl, rfl⟩
  case answerRunning =>
    obtain ⟨hdock, hcharger, hevac, hdrive, hpoll, hrx, hctl, hhost⟩ := acceptAnswer_binds (s := endFrame s) (m := m)
      (by exact hst) (by exact hheld) (by exact htx) rfl (bindStick_running (s := endFrame s) (by exact hphase))
    have hsent : Spec.Sends (acceptAnswer m (endFrame s)) := sends_of_eq hsends (by rw [hctl]; rfl) hhost
    refine ⟨_, exec_answer hpower hwindow hm, ?_⟩
    rw [pollPayload_congr (v := acceptAnswer m (endFrame s)) (by simp) (by simp) (by simp),
      (settle_outputs_of_sends hsent).1, settle_dock, settle_charger, settle_evac, settle_drive, hcharger, hevac, hdrive]
    rw [← hpoll, hdock, hrx]
    exact ⟨rfl, rfl, rfl, rfl, rfl, rfl, rfl, rfl, rfl, rfl, rfl, rfl⟩
  case report =>
    refine ⟨_, exec_need hpower hwindow hm, ?_⟩
    have hleaves : m.evacRequest = false ∨ k.evacsDone ≠ 0 ∨ s.drive.state ≠ .off ∨ s.evac.phase ≠ .none →
        (settle (acceptNeed m (endFrame s))).dock.report = doneReport m s.dock.report ∧
        (settle (acceptNeed m (endFrame s))).evac = s.evac := fun hquiet => by
      have hdue := countedRun_not_due (s := endFrame s) (m := m) (k := k) (by
        rcases hquiet with h | h | h | h
        · exact .inl h
        · exact .inr (.inl h)
        · exact .inr (.inr (.inl h))
        · exact .inr (.inr (.inr (.inl h))))
      obtain ⟨-, -, -, hreport, -, -, hevac⟩ := acceptNeed_leaves (s := endFrame s) (by exact hk) (by exact hheld) hdue
      exact ⟨hreport, hevac⟩
    refine ⟨fun hno hdone => ?_, fun hno hnot => ?_, fun hasked hquiet => ?_⟩
    · exact (hleaves (.inl hno)).1.trans (if_pos ⟨hdone, hno⟩)
    · exact (hleaves (.inl hno)).1.trans (if_neg fun h => hnot h.1)
    · obtain ⟨hreport, hevac⟩ := hleaves (.inr hquiet)
      exact ⟨hreport.trans (if_neg fun h => by simp [hasked] at h), hevac⟩
  case need =>
    obtain ⟨hstate, hcharger, hclosed, -, hbinding, hdrive, hevac⟩ := acceptNeed_leaves (s := endFrame s) (m := m)
      (by exact hk) (by exact hheld) (countedRun_not_due (.inl hnone))
    obtain ⟨htarget, hlimit, hsetpoint, hoff, hon⟩ := s.charger.run_takes m.need s.ctl.partTime
    refine ⟨_, exec_need hpower hwindow hm, hclosed, hbinding, fun hasks => ?_, fun hasks => ?_, hdrive, hevac⟩
    · obtain ⟨hcharging, hrun⟩ := needSession_charges (n := m.need) (u := needRecorded m k (endFrame s)) (by exact hst)
        ((asks_iff _).mpr hasks)
      rw [hstate, hcharger, hrun]
      exact ⟨hcharging, htarget, hlimit, hsetpoint, hoff, hon⟩
    · obtain ⟨hbound, hstop⟩ := needSession_binds (n := m.need) (u := needRecorded m k (endFrame s)) (by exact hst)
        (fun h => hasks ((asks_iff _).mp h))
      refine ⟨hstate.trans hbound, fun hcharging => ?_⟩
      rw [hcharger, hstop (by exact hcharging)]
      exact Charger.stop_rests s.charger s.ctl.partTime
  case evacuating =>
    intro asks
    have hasks : m.need.asks = true ↔ asks := asks_iff m.need
    have hrests := Charger.stop_rests s.charger s.ctl.partTime
    by_cases hreturns : s.dock.state = .hold ∧ s.evac.phase = .none
    · obtain ⟨hhold, hphase⟩ := hreturns
      obtain ⟨hstate, hcharger, hclosed, -, hbinding, hdrive, hevac⟩ := acceptNeed_leaves (s := endFrame s) (m := m)
        (by exact hk) (by exact hheld) (countedRun_not_due (.inl (hquiet hhold hphase)))
      obtain ⟨hyes, hno⟩ := needSession_returns (n := m.need) (u := needRecorded m k (endFrame s)) (by exact hhold)
        (by exact hphase)
      obtain ⟨htarget, hlimit, hsetpoint, hoff, -⟩ := (s.charger.stop s.ctl.partTime).run_takes m.need s.ctl.partTime
      refine ⟨_, exec_need hpower hwindow hm, hclosed, hbinding, fun h => ?_, fun _ _ h => ?_, fun _ _ h => ?_, fun h => ?_,
        fun h => ?_, hdrive, hevac⟩
      · rcases h with h | h
        · rw [hhold] at h
          cases h
        · exact absurd hphase h
      · exact hstate.trans (hyes (hasks.mpr h)).1
      · exact hstate.trans (hno (fun ha => h (hasks.mp ha))).1
      · rw [hcharger, (hyes (hasks.mpr h)).2]
        refine ⟨htarget, hlimit, hsetpoint, fun hst => hoff ?_⟩
        rw [Charger.stop_of_off hst, hst]
      · rw [hcharger, (hno (fun ha => h (hasks.mp ha))).2]
        exact hrests
    · have hruns : s.dock.state = .evacuating ∨ s.dock.state = .hold ∧ s.evac.phase ≠ .none :=
        hst.imp id fun hhold => ⟨hhold, fun hphase => hreturns ⟨hhold, hphase⟩⟩
      obtain ⟨hevacuates, hyes, hno⟩ := needSession_evacuates (n := m.need) (u := needRecorded m k (endFrame s)) (by exact hruns)
      obtain ⟨hstate, hcharger, hclosed, -, hbinding, hdrive, hevac⟩ := acceptNeed_leaves (s := endFrame s) (m := m)
        (by exact hk) (by exact hheld) (countedRun_not_due (.inr (.inr (.inr (.inr hevacuates)))))
      obtain ⟨htarget, hlimit, hsetpoint, hoff, -⟩ := s.charger.run_takes m.need s.ctl.partTime
      refine ⟨_, exec_need hpower hwindow hm, hclosed, hbinding, fun _ => hstate.trans hevacuates,
        fun hhold hphase => absurd ⟨hhold, hphase⟩ hreturns, fun hhold hphase => absurd ⟨hhold, hphase⟩ hreturns,
        fun h => ?_, fun h => ?_, hdrive, hevac⟩
      · rw [hcharger, hyes (hasks.mpr h)]
        exact ⟨htarget, hlimit, hsetpoint, hoff⟩
      · rw [hcharger, hno (fun ha => h (hasks.mp ha))]
        exact hrests

end Sys2Proof.Machine

/-! The charger stage at readings, periods and restarts (sections 7.2 to 7.5). -/

namespace Sys2Proof.Machine

open Sys2Proof

/-! ### The means of a period (R143) -/

/-- The means that the record takes are those of the words. -/
theorem chargerMeans_spec (rs : List ChargerReadings) (c : Charger) :
    (chargerMeans rs c).vOut = Spec.meanVoltage (rs.map ChargerReadings.vOut) c.vOut ∧
    (chargerMeans rs c).supply = Spec.meanVoltage (rs.map ChargerReadings.supply) c.supply ∧
    (chargerMeans rs c).iOut = Spec.meanCurrent rs c.iOut := by
  have hmean : ∀ (f : ChargerReadings → Option Nat) (before : Option Nat), rs ≠ [] →
      meanVoltage (rs.map f) = Spec.meanVoltage (rs.map f) before := fun f before hrs => by
    have hne : rs.map f ≠ [] := fun h => hrs (List.map_eq_nil_iff.mp h)
    rw [Spec.meanVoltage, if_neg hne]
    by_cases hopen : none ∈ rs.map f
    · rw [if_pos hopen, meanVoltage_eq_none.mpr hopen]
    · rw [if_neg hopen]
      unfold meanVoltage
      rw [if_pos]
      refine Classical.byContradiction fun hnot => ?_
      exact hopen (meanVoltage_eq_none.mp (if_neg hnot))
  by_cases hrs : rs = []
  · subst hrs
    exact ⟨rfl, rfl, rfl⟩
  · obtain ⟨hv, hs⟩ := chargerMeans_voltages hrs c
    refine ⟨hv.trans (hmean _ _ hrs), hs.trans (hmean _ _ hrs), ?_⟩
    rw [chargerMeans_iOut hrs, Spec.meanCurrent, if_neg hrs]

/-! ### The faults of a period (R147) -/

section
variable (s : State)

/-- OVP judged, with its timer: V_out above the target + 300 mV. -/
def ovpJudged : Option Ms × Bool :=
  holdTimer s.ctl.partTime s.charger.ovpTimer (fasterThan s.charger.vOut (s.charger.target + 301)) 10

/-- OCP judged, with its timer: I_out above the setpoint + 1,000 mA. -/
def ocpJudged : Option Ms × Bool :=
  holdTimer s.ctl.partTime s.charger.ocpTimer (s.charger.iOut.gt ((s.charger.setpoint + 1000 : Nat) : Int)) 10

/-- The charger with the timers of the two conditions that have a time. -/
def faultsTimed : State :=
  { s with charger := { s.charger with ovpTimer := (ovpJudged s).1, ocpTimer := (ocpJudged s).1 } }

variable {s}

theorem evaluateFaults_finds {cause : ChargerFault} (hsw : s.charger.state.switches = true)
    (h : faultFound (ovpJudged s).2 (ocpJudged s).2 (supplyLow s.charger.supply) = some cause) :
    evaluateFaults s = chargerFault cause (faultsTimed s) := by
  unfold evaluateFaults
  dsimp only
  rw [if_pos hsw]
  unfold ovpJudged ocpJudged at h
  split
  case h_1 heq =>
    have hcause := h.symm.trans heq
    cases hcause
    rfl
  case h_2 heq => cases h.symm.trans heq

theorem evaluateFaults_clears (hsw : s.charger.state.switches = true)
    (h : faultFound (ovpJudged s).2 (ocpJudged s).2 (supplyLow s.charger.supply) = none) :
    evaluateFaults s = faultsTimed s := by
  unfold evaluateFaults
  dsimp only
  rw [if_pos hsw]
  unfold ovpJudged ocpJudged at h
  split
  case h_1 heq => cases h.symm.trans heq
  case h_2 => rfl

end

/-! ### The conditions as the words have them -/

theorem supplyLow_iff (v : Option Nat) : supplyLow v = true ↔ v = none ∨ ∃ w, v = some w ∧ w < 30000 := by
  cases v <;> simp [supplyLow]

/-- A condition with a time: what its timer becomes, and whether it has held. -/
theorem holdTimer_judges {now : Ms} {timer : Option Ms} {cond : Bool} {time : Nat} {P : Prop} (h : cond = true ↔ P) :
    (P → (holdTimer now timer cond time).1 = some (timer.getD now)) ∧ (¬ P → (holdTimer now timer cond time).1 = none) ∧
    ((holdTimer now timer cond time).2 = true ↔ P ∧ ∃ t0, timer = some t0 ∧ time ≤ (now - t0).toNat) := by
  cases hc : cond with
  | true =>
    have hp : P := h.mp hc
    obtain ⟨hset, hqualified⟩ := holdTimer_holds now timer time
    exact ⟨fun _ => hset, fun hn => absurd hp hn, hqualified.trans ⟨fun hq => ⟨hp, hq⟩, fun hq => hq.2⟩⟩
  | false =>
    have hp : ¬ P := fun hp => by rw [h.mpr hp] at hc; cases hc
    rw [holdTimer_absent now timer time rfl]
    exact ⟨fun hy => absurd hy hp, fun _ => rfl, ⟨fun hf => absurd hf Bool.false_ne_true, fun hy => absurd hy.1 hp⟩⟩

/-! ### The charger's record after a period -/

theorem chargerFault_charger (cause : ChargerFault) (s : State) : (chargerFault cause s).charger
    = s.charger.enterFault cause s.ctl.partTime (s.ctl.partTime + 5000) := by
  unfold chargerFault
  rw [appendFault_charger]
  rfl

/-- The charger in FAULT (R147). -/
theorem Charger.enterFault_leaves (c : Charger) (cause : ChargerFault) (now due : Ms) :
    let d := c.enterFault cause now due
    d.state = .fault ∧ d.setpoint = 0 ∧ d.iOut = .num 0 ∧ d.ovpTimer = none ∧ d.ocpTimer = none ∧ d.enteredAt = now ∧
    d.faultCount = c.faultCount + 1 ∧ (3 ≤ c.faultCount + 1 → d.latched = true) ∧
    (c.faultCount + 1 < 3 → d.latched = c.latched ∧ d.restartTimer = some due ∧ d.restartPending = false) ∧
    d.faultCause = some cause := by
  intro d
  by_cases hthird : 3 ≤ c.faultCount + 1
  · have hd : d = { c with
        state := .fault, setpoint := 0, iOut := .num 0, faultCause := some cause, ovpTimer := none, ocpTimer := none,
        faultCount := c.faultCount + 1, enteredAt := now, latched := true } := if_pos hthird
    rw [hd]
    exact ⟨rfl, rfl, rfl, rfl, rfl, rfl, rfl, fun _ => rfl, fun hlt => absurd hthird (Nat.not_le.mpr hlt), rfl⟩
  · have hd : d = { c with
        state := .fault, setpoint := 0, iOut := .num 0, faultCause := some cause, ovpTimer := none, ocpTimer := none,
        faultCount := c.faultCount + 1, enteredAt := now, restartPending := false, restartTimer := some due } :=
      if_neg hthird
    rw [hd]
    exact ⟨rfl, rfl, rfl, rfl, rfl, rfl, rfl, fun hle => absurd hle hthird, fun _ => ⟨rfl, rfl, rfl⟩, rfl⟩

/-- Regulation in the three states that switch (R145, R146). -/
theorem Charger.regulate_leaves (c : Charger) (cap age : Nat) (now : Ms) :
    let full := min c.needLimit cap
    let reached : Prop := ∃ w, c.vOut = some w ∧ c.target ≤ w + 20
    let takesOver : Prop := c.iOut = .above ∨ ∃ n : Int, c.iOut = .num n ∧ (full : Int) ≤ n
    let d := c.regulate cap age now
    (c.state = .softstart → age < 200 → d.state = .softstart ∧ d.enteredAt = c.enteredAt ∧ d.setpoint = full * age / 200) ∧
    (c.state = .softstart → 200 ≤ age → d.state = .cc ∧ d.enteredAt = now ∧ d.setpoint = full) ∧
    (c.state = .cc → d.setpoint = full ∧ (reached → d.state = .cv ∧ d.enteredAt = now) ∧
      (¬ reached → d.state = .cc ∧ d.enteredAt = c.enteredAt)) ∧
    (c.state = .cv → d.setpoint = full ∧ (takesOver → d.state = .cc ∧ d.enteredAt = now) ∧
      (¬ takesOver → d.state = .cv ∧ d.enteredAt = c.enteredAt)) := by
  intro full reached takesOver d
  have hreached : fasterThan c.vOut (c.target - 20) = true ↔ reached :=
    (fasterThan_iff _ _).trans (exists_congr fun w => and_congr_right fun _ => by omega)
  have htakes : c.iOut.ge (full : Int) = true ↔ takesOver := Reading.ge_iff _ _
  refine ⟨fun hst hlt => ?_, fun hst hle => ?_, fun hst => ?_, fun hst => ?_⟩
  · have hd : d = { c with setpoint := full * age / 200 } := by
      show c.regulate cap age now = _
      unfold Charger.regulate
      rw [hst]
      exact if_pos hlt
    rw [hd]
    exact ⟨hst, rfl, rfl⟩
  · have hd : d = { c with state := .cc, enteredAt := now, setpoint := full } := by
      show c.regulate cap age now = _
      unfold Charger.regulate
      rw [hst]
      exact if_neg (Nat.not_lt.mpr hle)
    rw [hd]
    exact ⟨rfl, rfl, rfl⟩
  · have hd : d = if fasterThan c.vOut (c.target - 20) then { c with setpoint := full, state := .cv, enteredAt := now }
        else { c with setpoint := full } := by
      show c.regulate cap age now = _
      unfold Charger.regulate
      rw [hst]
      rfl
    refine ⟨?_, fun hr => ?_, fun hr => ?_⟩
    · rw [hd]
      split <;> rfl
    · rw [hd, if_pos (hreached.mpr hr)]
      exact ⟨rfl, rfl⟩
    · rw [hd, if_neg (fun hf => hr (hreached.mp hf))]
      exact ⟨hst, rfl⟩
  · have hd : d = if c.iOut.ge (full : Int) then { c with setpoint := full, state := .cc, enteredAt := now }
        else { c with setpoint := full } := by
      show c.regulate cap age now = _
      unfold Charger.regulate
      rw [hst]
      rfl
    refine ⟨?_, fun hr => ?_, fun hr => ?_⟩
    · rw [hd]
      split <;> rfl
    · rw [hd, if_pos (htakes.mpr hr)]
      exact ⟨rfl, rfl⟩
    · rw [hd, if_neg (fun hf => hr (htakes.mp hf))]
      exact ⟨hst, rfl⟩

/-- Regulation leaves the counts, the limits of the NEED and the two timers. -/
theorem Charger.regulate_keeps (c : Charger) (cap age : Nat) (now : Ms) :
    (c.regulate cap age now).ovpTimer = c.ovpTimer ∧ (c.regulate cap age now).ocpTimer = c.ocpTimer ∧
    (c.regulate cap age now).faultCount = c.faultCount ∧ (c.regulate cap age now).latched = c.latched ∧
    (c.regulate cap age now).target = c.target ∧ (c.regulate cap age now).needLimit = c.needLimit := by
  unfold Charger.regulate Charger.goTo
  cases c.state with
  | off | fault => exact ⟨rfl, rfl, rfl, rfl, rfl, rfl⟩
  | softstart | cc | cv =>
    dsimp only
    split <;> exact ⟨rfl, rfl, rfl, rfl, rfl, rfl⟩

theorem Charger.regulate_of_fault {c : Charger} (h : c.state = .fault) (cap age : Nat) (now : Ms) :
    c.regulate cap age now = c := by
  unfold Charger.regulate
  rw [h]

/-! ### A period in DOCK role -/

/-- Stages 6 to 8 leave the charger, the ring and its sequence. -/
structure ChargerKept (u v : State) : Prop where
  charger : v.charger = u.charger
  ctl : v.ctl = u.ctl
  faultNew : v.host.faultNew = u.host.faultNew

theorem ChargerKept.trans {u v w : State} (h : ChargerKept u v) (k : ChargerKept v w) : ChargerKept u w :=
  ⟨k.charger.trans h.charger, k.ctl.trans h.ctl, k.faultNew.trans h.faultNew⟩

theorem governorDuty_keepsCharger (first : Bool) (s : State) : ChargerKept s (governorDuty first s) := by
  unfold governorDuty
  split
  · split <;> exact ⟨rfl, rfl, rfl⟩
  · exact ⟨rfl, rfl, rfl⟩

theorem handGrant_keepsCharger (grant : Nat) (s : State) : ChargerKept s (handGrant grant s) := by
  by_cases hrun : s.drive.state = .run
  · rw [handGrant_running grant hrun]
    split
    · have hfault : (noGrantCoast (grantCounted grant s)).host.faultNew = s.host.faultNew := by
        unfold noGrantCoast
        rw [(reportDrive_reported _ _).faultNew]
        simp [grantCounted]
      exact ⟨by simp [noGrantCoast, grantCounted], by simp [noGrantCoast, grantCounted], hfault⟩
    · exact ⟨rfl, rfl, rfl⟩
  · rw [handGrant_stopped grant hrun]
    exact ⟨rfl, rfl, rfl⟩

theorem evaluateFaults_role (s : State) : (evaluateFaults s).ctl.role = s.ctl.role := by
  unfold evaluateFaults
  dsimp only
  split
  · split
    · simp [chargerFault]
    · rfl
  · rfl

theorem governorPeriod_charger (readings : List ChargerReadings) {s : State} (hrole : s.ctl.role = .dock) :
    ChargerKept (chargerPeriod (chargerMeans readings s.charger) (driveTakeMean s)) (governorPeriod readings s) := by
  have hstages : ChargerKept (chargerPeriod (chargerMeans readings s.charger) (driveTakeMean s)) (governorStages readings s) := by
    unfold governorStages
    rw [hrole]
    exact ⟨rfl, rfl, rfl⟩
  have hhands : ∀ u : State, u.ctl.role = .dock → ChargerKept u (governorHands u) := fun u hu => by
    unfold governorHands
    rw [hu]
    exact handGrant_keepsCharger _ u
  have hduty := hstages.trans (governorDuty_keepsCharger (s.holding && s.gov.pHold.isNone) _)
  have hends : ∀ u : State, ChargerKept u (governorEnds u) := fun u => ⟨rfl, rfl, rfl⟩
  refine (hduty.trans (hhands _ ?_)).trans (hends _)
  rw [hduty.ctl]
  exact (evaluateFaults_role _).trans hrole

/-- The record of a period before its faults are judged: the means of the readings (R143). -/
def meansTaken (readings : List ChargerReadings) (s : State) : State :=
  { driveTakeMean s with charger := recordReadings (chargerMeans readings s.charger) s.charger }

/-- The supply split of a period in DOCK role (R141). -/
def periodSplit (readings : List ChargerReadings) (s : State) : Split :=
  splitOf (evaluateFaults (meansTaken readings s)).charger.budget (evaluateFaults (meansTaken readings s)).fanDemand
    (evaluateFaults (meansTaken readings s)).charger.vOut

section
variable {s : State} {readings : List ChargerReadings}

/-- The charger's record after a period: judged, regulated, and split. -/
theorem governorPeriod_record (hrole : s.ctl.role = .dock) : (governorPeriod readings s).charger
    = { (evaluateFaults (meansTaken readings s)).charger.regulate (periodSplit readings s).cap
          ((evaluateFaults (meansTaken readings s)).since (evaluateFaults (meansTaken readings s)).charger.enteredAt)
          (evaluateFaults (meansTaken readings s)).ctl.partTime with
        split := some (periodSplit readings s) } :=
  (governorPeriod_charger readings hrole).charger

/-- In DOCK role a period that finds a fault leaves the charger in FAULT, with the entry logged (R147). -/
theorem governorPeriod_faults {cause : ChargerFault} (hrole : s.ctl.role = .dock) (hsw : s.charger.state.switches = true)
    (h : faultFound (ovpJudged (meansTaken readings s)).2 (ocpJudged (meansTaken readings s)).2
      (supplyLow (meansTaken readings s).charger.supply) = some cause) :
    (governorPeriod readings s).charger = { (faultsTimed (meansTaken readings s)).charger.enterFault cause
      s.ctl.partTime (s.ctl.partTime + 5000) with split := some (periodSplit readings s) } ∧
    Spec.Logged s (governorPeriod readings s) .charger (chargerFaultEntry cause)
      (chargerFaultValues (faultsTimed (meansTaken readings s)).charger cause).1.fit16
      (some (chargerFaultValues (faultsTimed (meansTaken readings s)).charger cause).2.fit16) := by
  have hkept := governorPeriod_charger readings hrole
  have hfault := evaluateFaults_finds (s := meansTaken readings s) hsw h
  have hstate : ((faultsTimed (meansTaken readings s)).charger.enterFault cause s.ctl.partTime
      (s.ctl.partTime + 5000)).state = .fault := (Charger.enterFault_leaves _ _ _ _).1
  have hcharger : (evaluateFaults (meansTaken readings s)).charger
      = (faultsTimed (meansTaken readings s)).charger.enterFault cause s.ctl.partTime (s.ctl.partTime + 5000) := by
    rw [hfault, chargerFault_charger]
    rfl
  refine ⟨?_, ?_⟩
  · rw [governorPeriod_record hrole, hcharger, Charger.regulate_of_fault hstate]
  · have hlogged := appendFault_logged .charger (chargerFaultEntry cause)
      (chargerFaultValues (faultsTimed (meansTaken readings s)).charger cause).1
      (some (chargerFaultValues (faultsTimed (meansTaken readings s)).charger cause).2) (s := s)
      (u := { faultsTimed (meansTaken readings s) with
        charger := (faultsTimed (meansTaken readings s)).charger.enterFault cause s.ctl.partTime (s.ctl.partTime + 5000) })
      rfl
    obtain ⟨hring, hseq, hnew⟩ := hlogged
    have hctl : (governorPeriod readings s).ctl = (chargerFault cause (faultsTimed (meansTaken readings s))).ctl := by
      rw [hkept.ctl, ← hfault]
      rfl
    have hflag : (governorPeriod readings s).host.faultNew
        = (chargerFault cause (faultsTimed (meansTaken readings s))).host.faultNew := by
      rw [hkept.faultNew, ← hfault]
      rfl
    exact ⟨by rw [hctl]; exact hring, by rw [hctl]; exact hseq, by rw [hflag]; exact hnew⟩

/-- With no fault found the setpoint is regulated (R145, R146). -/
theorem governorPeriod_regulates (hrole : s.ctl.role = .dock) (hsw : s.charger.state.switches = true)
    (h : faultFound (ovpJudged (meansTaken readings s)).2 (ocpJudged (meansTaken readings s)).2
      (supplyLow (meansTaken readings s).charger.supply) = none) :
    (governorPeriod readings s).charger = { (faultsTimed (meansTaken readings s)).charger.regulate
      (periodSplit readings s).cap (s.ctl.partTime - s.charger.enteredAt).toNat s.ctl.partTime with
        split := some (periodSplit readings s) } := by
  rw [governorPeriod_record hrole, evaluateFaults_clears (s := meansTaken readings s) hsw h]
  rfl

end

/-- The cause found is the first of OVP, OCP and SUPPLY_UV that holds. -/
theorem faultFound_cases {ovp ocp uv : Bool} {P Q R : Prop} (hp : ovp = true ↔ P) (hq : ocp = true ↔ Q) (hr : uv = true ↔ R) :
    (P → faultFound ovp ocp uv = some .ovp) ∧ (¬ P → Q → faultFound ovp ocp uv = some .ocp) ∧
    (¬ P → ¬ Q → R → faultFound ovp ocp uv = some .supplyUv) ∧
    (¬ (P ∨ Q ∨ R) → faultFound ovp ocp uv = none) := by
  unfold faultFound
  refine ⟨fun h => ?_, fun h k => ?_, fun h k l => ?_, fun h => ?_⟩
  · rw [if_pos (hp.mpr h)]
  · rw [if_neg (fun e => h (hp.mp e)), if_pos (hq.mpr k)]
  · rw [if_neg (fun e => h (hp.mp e)), if_neg (fun e => k (hq.mp e)), if_pos (hr.mpr l)]
  · rw [if_neg (fun e => h (.inl (hp.mp e))), if_neg (fun e => h (.inr (.inl (hq.mp e)))),
      if_neg (fun e => h (.inr (.inr (hr.mp e))))]

/-! ### The obligation -/

/-- The expiry of the restart timer (R148). -/
theorem restart_acts {s : State} (hpower : s.ctl.power ≠ .ship) (hst : s.charger.state = .fault)
    (htimer : s.charger.restartTimer.isSome = true) : exec .restartTimerExpiry s = .next (settle (restart s)) :=
  event_occurs (by simp [hst, htimer]) hpower

theorem restart_asked (s : State) : (s.dock.state.charges && s.needAsks) = true ↔
    (s.dock.state = .charging ∨ s.dock.state = .evacuating) ∧
      ∃ k m, s.dock.binding = some k ∧ k.need = some m ∧ m.need.permitted = true ∧ 0 < m.need.limit := by
  have hstate : s.dock.state.charges = true ↔ s.dock.state = .charging ∨ s.dock.state = .evacuating := by
    cases s.dock.state <;> decide
  rw [Bool.and_eq_true, hstate, State.needAsks, State.lastNeed]
  refine and_congr_right fun _ => ?_
  cases hb : s.dock.binding with
  | none => simp
  | some k =>
    cases hn : k.need with
    | none => simp [hn]
    | some m => simp [hn, Need.asks]

theorem switches_reads (st : ChargerState) (a b : Reading) :
    (if st.switches then a else b) = if st = .off ∨ st = .fault then b else a := by
  cases st <;> rfl

/-- The means in the record, for a stage that switches. -/
theorem meansTaken_charger (readings : List ChargerReadings) {s : State} (hsw : s.charger.state.switches = true) :
    (meansTaken readings s).charger.vOut = Spec.meanVoltage (readings.map ChargerReadings.vOut) s.charger.vOut ∧
    (meansTaken readings s).charger.supply = Spec.meanVoltage (readings.map ChargerReadings.supply) s.charger.supply ∧
    (meansTaken readings s).charger.iOut = Spec.meanCurrent readings s.charger.iOut := by
  obtain ⟨hv, hs, hi⟩ := chargerMeans_spec readings s.charger
  exact ⟨hv, hs, (if_pos hsw).trans hi⟩

/-- Settles O56: the readings, the judgement of a period, and the restart. -/
theorem chargerActs : Obligations.ChargerActs := by
  refine ⟨fun s r hpower hrole htimer => ?reading, fun s readings hpower hrole htimer hsw => ?period,
    fun s hpower hst htimer => ?restart⟩
  case reading =>
    have hoccurs : (s.isDock && s.gov.timer.isNone) = true := by simp [State.isDock, hrole, htimer]
    have hexec : exec (.chargerReading r) s = .next (settle { s with charger := recordReadings r s.charger }) :=
      event_occurs (f := fun s => { s with charger := recordReadings r s.charger }) hoccurs hpower
    rw [hexec, recordReadings, switches_reads]
  case period =>
    intro c now vOut supply iOut overVoltage overCurrent weak held ovp ocp
    obtain ⟨hv, hs, hi⟩ := meansTaken_charger readings hsw
    have hover : fasterThan (meansTaken readings s).charger.vOut ((meansTaken readings s).charger.target + 301) = true
        ↔ overVoltage := by
      rw [hv]
      exact fasterThan_iff _ _
    have hcurrent : (meansTaken readings s).charger.iOut.gt (((meansTaken readings s).charger.setpoint + 1000 : Nat) : Int)
        = true ↔ overCurrent := by
      rw [hi]
      exact Reading.gt_iff _ _
    have hweak : supplyLow (meansTaken readings s).charger.supply = true ↔ weak := by
      rw [hs]
      exact supplyLow_iff _
    obtain ⟨hovpSet, hovpClear, hovp⟩ := holdTimer_judges (now := now) (timer := c.ovpTimer) (time := 10) hover
    obtain ⟨hocpSet, hocpClear, hocp⟩ := holdTimer_judges (now := now) (timer := c.ocpTimer) (time := 10) hcurrent
    obtain ⟨hfirst, hsecond, hthird, hnone⟩ := faultFound_cases (ovp := (ovpJudged (meansTaken readings s)).2)
      (ocp := (ocpJudged (meansTaken readings s)).2) hovp hocp hweak
    refine ⟨_, exec_governorPeriod readings hpower htimer, fun hfault => ?faults, fun hclear => ?regulates⟩
    case faults =>
      obtain ⟨cause, hfound⟩ : ∃ cause, faultFound (ovpJudged (meansTaken readings s)).2 (ocpJudged (meansTaken readings s)).2
          (supplyLow (meansTaken readings s).charger.supply) = some cause := by
        by_cases h1 : ovp
        · exact ⟨_, hfirst h1⟩
        · by_cases h2 : ocp
          · exact ⟨_, hsecond h1 h2⟩
          · exact ⟨_, hthird h1 h2 ((hfault.resolve_left h1).resolve_left h2)⟩
      obtain ⟨hcharger, hlogged⟩ := governorPeriod_faults hrole hsw hfound
      obtain ⟨hstate, hsetpoint, hiOut, hovpTimer, hocpTimer, hentered, hcount, hlatched, hrestart, hcause⟩ :=
        Charger.enterFault_leaves (faultsTimed (meansTaken readings s)).charger cause now (now + 5000)
      have hlog := Logged.settled hlogged
      rw [settle_charger, hcharger]
      refine ⟨hstate, hsetpoint, hiOut, hovpTimer, hocpTimer, hentered, hcount, hlatched, hrestart, fun w h1 hw => ?_,
        fun h1 h2 => ?_, fun h1 h2 => ?_⟩
      · cases Option.some.inj ((hfirst h1).symm.trans hfound)
        have hvalue : (chargerFaultValues (faultsTimed (meansTaken readings s)).charger .ovp).1 = .num w := by
          show optReading (meansTaken readings s).charger.vOut = .num w
          rw [hv]
          exact congrArg optReading hw
        rw [hvalue] at hlog
        exact ⟨hcause, hlog⟩
      · cases Option.some.inj ((hsecond h1 h2).symm.trans hfound)
        have hvalue : (chargerFaultValues (faultsTimed (meansTaken readings s)).charger .ocp).1 = iOut := hi
        rw [hvalue] at hlog
        exact ⟨hcause, hlog⟩
      · cases Option.some.inj ((hthird h1 h2 ((hfault.resolve_left h1).resolve_left h2)).symm.trans hfound)
        have hvalue : (chargerFaultValues (faultsTimed (meansTaken readings s)).charger .supplyUv).1 = optReading supply := by
          show optReading (meansTaken readings s).charger.supply = _
          rw [hs]
        rw [hvalue] at hlog
        refine ⟨hcause, ?_⟩
        clear_value supply
        cases supply <;> exact hlog
    case regulates =>
      have hcharger := governorPeriod_regulates hrole hsw (hnone hclear)
      refine ⟨periodSplit readings s, by rw [settle_charger, hcharger], ?_⟩
      intro full age reached takesOver
      obtain ⟨hk1, hk2, hk3, hk4, hk5, hk6⟩ := Charger.regulate_keeps (faultsTimed (meansTaken readings s)).charger
        (periodSplit readings s).cap age now
      have hregulated := Charger.regulate_leaves (faultsTimed (meansTaken readings s)).charger (periodSplit readings s).cap
        age now
      have hvOut : (faultsTimed (meansTaken readings s)).charger.vOut = vOut := hv
      have hiOut : (faultsTimed (meansTaken readings s)).charger.iOut = iOut := hi
      rw [hvOut, hiOut] at hregulated
      obtain ⟨hsoft, hfull, hcc, hcv⟩ := hregulated
      rw [settle_charger, hcharger]
      exact ⟨fun h => hk1.trans (hovpSet h), fun h => hk1.trans (hovpClear h), fun h => hk2.trans (hocpSet h),
        fun h => hk2.trans (hocpClear h), hk3, hk4, hk5, hk6, hsoft, hfull, hcc, hcv⟩
  case restart =>
    intro fresh asked
    rw [restart_acts hpower hst htimer, restart]
    refine ⟨fun h => ?_, fun h => ?_⟩
    · rw [if_pos ((restart_asked s).mpr h)]
      rfl
    · rw [if_neg (fun e => h ((restart_asked s).mp e))]
      rfl

end Sys2Proof.Machine

/-! How an evacuation run starts and ends (sections 6.4, 7.6 and 7.7). -/

namespace Sys2Proof.Machine

open Sys2Proof

/-! ### A start request in every power mode (R8, R17) -/

/-- The drive claimed by an owner, in ACTIVE. -/
def requested (owner : Owner) (s : State) : State := enterActive .drive { s with drive := claimed owner s.drive }

@[simp] theorem requested_drive (owner : Owner) (s : State) : (requested owner s).drive = claimed owner s.drive := enterActive_drive _ _
@[simp] theorem requested_dock (owner : Owner) (s : State) : (requested owner s).dock = s.dock := enterActive_dock _ _
@[simp] theorem requested_evac (owner : Owner) (s : State) : (requested owner s).evac = s.evac := enterActive_evac _ _
@[simp] theorem requested_charger (owner : Owner) (s : State) : (requested owner s).charger = s.charger := enterActive_charger _ _
@[simp] theorem requested_contact (owner : Owner) (s : State) : (requested owner s).contact = s.contact := enterActive_contact _ _
@[simp] theorem requested_store (owner : Owner) (s : State) : (requested owner s).store = s.store := enterActive_store _ _
@[simp] theorem requested_role (owner : Owner) (s : State) : (requested owner s).ctl.role = s.ctl.role := enterActive_ctl_role _ _
@[simp] theorem requested_partTime (owner : Owner) (s : State) : (requested owner s).ctl.partTime = s.ctl.partTime :=
  enterActive_ctl_partTime _ _

/-- A start request acts by the drive's state. -/
theorem startRequest_acts (owner : Owner) (s : State) :
    (s.drive.state = .off → startRequest owner s = startInOff (requested owner s)) ∧
    (s.drive.state = .coast → startRequest owner s = startInCoast (requested owner s)) ∧
    (s.drive.state ≠ .off → s.drive.state ≠ .coast → startRequest owner s = requested owner s) := by
  have hstate : (requested owner s).drive.state = s.drive.state := by rw [requested_drive]; rfl
  unfold requested claimed at hstate
  unfold startRequest
  dsimp only
  refine ⟨fun h => ?_, fun h => ?_, fun h k => ?_⟩
  · rw [hstate.trans h]
    rfl
  · rw [hstate.trans h]
    rfl
  · split
    case h_1 hoff => exact absurd (hstate.symm.trans hoff) h
    case h_2 hcoast => exact absurd (hstate.symm.trans hcoast) k
    all_goals rfl

/-! ### The start of a run (R134, R150) -/

/-- The run begun in its record and at the session, before the fan is asked for. -/
def runAsked (kind : RunKind) (s : State) : State :=
  { s with
    evac := { s.evac with phase := .spinning, kind := some kind, startTime := some s.ctl.partTime }
    dock := s.dock.runStarts kind s.ctl.partTime }

theorem startRun_eq (kind : RunKind) (s : State) :
    startRun kind s = reportStart s (startRequest .evacuation (runAsked kind s)) := rfl

section
variable (kind : RunKind) {s : State}

theorem startRun_leaves (s : State) : (startRun kind s).dock = s.dock.runStarts kind s.ctl.partTime ∧
    (startRun kind s).evac = { s.evac with phase := .spinning, kind := some kind, startTime := some s.ctl.partTime } ∧
    (startRun kind s).charger = s.charger ∧ (startRun kind s).store = s.store ∧ (startRun kind s).contact = s.contact := by
  obtain ⟨hoff, hcoast, helse⟩ := startRequest_acts .evacuation (runAsked kind s)
  rw [startRun_eq, reportStart_dock, reportStart_evac, reportStart_charger, reportStart_store, reportStart_contact]
  by_cases h : (runAsked kind s).drive.state = .off
  · rw [hoff h]
    simp [runAsked]
  · by_cases k : (runAsked kind s).drive.state = .coast
    · rw [hcoast k]
      simp [runAsked]
    · rw [helse h k]
      simp [runAsked]

/-- From OFF the fan of a dock enters ALIGN for the run. -/
theorem startRun_off (hrole : s.ctl.role = .dock) (h : s.drive.state = .off) :
    (startRun kind s).drive = aligned s.ctl.partTime (claimed .evacuation s.drive) := by
  have hok : (requested .evacuation (runAsked kind s)).startOk = true := by
    simp [State.startOk, State.runRequest, claimed, runAsked, h, hrole]
  rw [startRun_eq, reportStart_drive, (startRequest_acts .evacuation (runAsked kind s)).1 h, startInOff, if_pos hok,
    enterAlign_eq]
  dsimp only
  rw [requested_drive, requested_partTime]
  rfl

section
variable (h : s.drive.state = .coast)
include h

theorem startRun_coast :
    (startRun kind s).drive = (startInCoast (requested .evacuation (runAsked kind s))).drive := by
  rw [startRun_eq, reportStart_drive, (startRequest_acts .evacuation (runAsked kind s)).2.1 h]

theorem startRun_catching {n : Nat} (hcatch : s.drive.catchCount = some n) :
    (startRun kind s).drive = claimed .evacuation s.drive := by
  have hcatching : (claimed .evacuation s.drive).catchCount.isSome = true := by
    show s.drive.catchCount.isSome = true
    rw [hcatch]
    rfl
  rw [startRun_coast kind h, startInCoast, if_pos (by rw [requested_drive]; exact hcatching), requested_drive]
  rfl

theorem startRun_fast (hcatch : s.drive.catchCount = none) (hstop : s.drive.speedAtStop.isSome = true)
    (hspeed : ∃ v, s.drive.speed = some v ∧ 20000 ≤ v) :
    (startRun kind s).drive = { claimed .evacuation s.drive with catchCount := some 0, ring := [], speed := none } := by
  have hfast : (fasterThan s.drive.speed 20000 && s.drive.speedAtStop.isSome) = true := by
    rw [(fasterThan_iff _ _).mpr hspeed, hstop]
    rfl
  rw [startRun_coast kind h, startInCoast, if_neg (by rw [requested_drive]; simp [claimed, runAsked, hcatch]),
    if_pos (by rw [requested_drive]; exact hfast), beginCatch, requested_drive]
  rfl

theorem startRun_slow (hcatch : s.drive.catchCount = none)
    (hslow : ¬ (s.drive.speedAtStop.isSome = true ∧ ∃ v, s.drive.speed = some v ∧ 20000 ≤ v)) :
    (startRun kind s).drive = { claimed .evacuation s.drive with startPending := true } := by
  have hfast : ¬ (fasterThan s.drive.speed 20000 && s.drive.speedAtStop.isSome) = true := by
    rw [Bool.and_eq_true, fasterThan_iff]
    exact fun hf => hslow hf.symm
  rw [startRun_coast kind h, startInCoast, if_neg (by rw [requested_drive]; simp [claimed, runAsked, hcatch]),
    if_neg (by rw [requested_drive]; exact hfast), requested_drive]
  rfl

end

/-- A fan that drives changes its owner alone. -/
theorem startRun_drives (hoff : s.drive.state ≠ .off) (hcoast : s.drive.state ≠ .coast) :
    (startRun kind s).drive = claimed .evacuation s.drive := by
  rw [startRun_eq, reportStart_drive, (startRequest_acts .evacuation (runAsked kind s)).2.2 hoff hcoast, requested_drive]
  rfl

end

/-- The session at a run's start (R134). -/
theorem runStarts_manual (d : Dock) (now : Ms) :
    let e := d.runStarts .manual now
    e.report = .running ∧ e.binding = d.binding ∧
    (d.state = .bound ∨ d.state = .charging → e.state = .evacuating) ∧
    (d.state ≠ .bound → d.state ≠ .charging → e.state = d.state) := by
  intro e
  show (d.runStarts .manual now).report = _ ∧ (d.runStarts .manual now).binding = _ ∧
    (_ → (d.runStarts .manual now).state = _) ∧ (_ → _ → (d.runStarts .manual now).state = _)
  unfold Dock.runStarts
  cases hst : d.state with
  | bound | charging => exact ⟨rfl, rfl, fun _ => rfl, fun h k => by simp at h k⟩
  | vacant | hailing | evacuating | hold => exact ⟨rfl, rfl, fun h => by simp at h, fun _ _ => rfl⟩

theorem runStarts_counted {d : Dock} {k : DockBinding} (now : Ms) (hst : d.state = .bound ∨ d.state = .charging)
    (hk : d.binding = some k) : d.runStarts .counted now = { d with
      report := .running, binding := some { k with evacsDone := 1 }, state := .evacuating, enteredAt := now } := by
  unfold Dock.runStarts
  rcases hst with h | h <;> rw [h, hk] <;> rfl

/-! ### START_EVACUATION (R154) -/

section
variable {b : State} (p : List Byte)

theorem startEvacuationSpec_act_busy (h : b.evac.phase ≠ .none) : startEvacuationSpec.act p b = refuse .busy b := if_pos h

theorem startEvacuationSpec_act_denied (h : b.evac.phase = .none) (hfault : b.drive.state = .fault) :
    startEvacuationSpec.act p b = refuse .denied b := by
  unfold startEvacuationSpec
  dsimp only
  rw [if_neg (Classical.not_not.mpr h), if_pos hfault]

theorem startEvacuationSpec_act_starts (h : b.evac.phase = .none) (hfault : b.drive.state ≠ .fault) :
    startEvacuationSpec.act p b = ⟨.accepted, reportDock .evacuation b (startRun .manual b), []⟩ := by
  unfold startEvacuationSpec
  dsimp only
  rw [if_neg (Classical.not_not.mpr h), if_neg hfault]

end

/-! ### The end of the duration (R151, R152) -/

theorem exec_durationTimer {s : State} (hpower : s.ctl.power ≠ .ship) (hphase : s.evac.phase = .timing)
    (htimer : s.evac.durationTimer.isSome = true) : exec .durationTimerExpiry s = .next (settle (spellOver s)) :=
  event_occurs (by simp [hphase, htimer]) hpower

/-- The run ended DONE, in its record, at the session and at the fan. -/
theorem spellOver_leaves {s : State} (hphase : s.evac.phase ≠ .none) :
    (spellOver s).evac = { s.evac.ended .done s.ctl.partTime with endMisses := s.drive.missesInRun } ∧
    (spellOver s).dock = { (s.dock.recordResult s.evac.kind .done).afterRun (decide (s.charger.state ≠ .off))
      s.ctl.partTime with report := .done } ∧
    (spellOver s).drive = (driveStop (endRunRecords .done s)).drive ∧ (spellOver s).charger = s.charger ∧
    (spellOver s).ctl = s.ctl := by
  have hrecords := (endRunRecords_reported (r := .done) hphase).state
  unfold spellOver
  dsimp only
  rw [reportDock_evac, reportDock_dock, reportDock_drive, reportDock_charger, reportDock_ctl, reportMove_evac,
    reportMove_dock, reportMove_drive, reportMove_charger, reportMove_ctl, endRun_reported hphase]
  refine ⟨?_, ?_, rfl, ?_, ?_⟩
  · rw [driveStop_evac, hrecords]
    rfl
  · rw [driveStop_dock, hrecords]
    rfl
  · rw [driveStop_charger, endRunRecords_charger]
  · rw [driveStop_ctl, endRunRecords_ctl]

theorem afterRun_state (d : Dock) (on : Bool) (now : Ms) :
    (d.state = .evacuating → (d.afterRun on now).state = if on then .charging else .bound) ∧
    (d.state ≠ .evacuating → (d.afterRun on now).state = d.state) ∧ (d.afterRun on now).binding = d.binding := by
  unfold Dock.afterRun
  refine ⟨fun h => ?_, fun h => ?_, ?_⟩
  · rw [if_pos h]
  · rw [if_neg h]
  · split <;> rfl

theorem recordResult_leaves (d : Dock) (kind : Option RunKind) (r : RunResult) :
    (d.recordResult kind r).state = d.state ∧
    (∀ k, kind = some .counted → d.binding = some k → (d.recordResult kind r).binding = some { k with evacResult := some r }) := by
  unfold Dock.recordResult
  refine ⟨by split <;> rfl, fun k hkind hk => ?_⟩
  rw [if_pos hkind, hk]
  rfl

/-! ### A NEED that asks for a run (R133, R150) -/

/-- The session and the charger after a NEED taken with no run in flight, outside EVACUATING. -/
theorem needSession_answers {n : Need} {u : State} (hphase : u.evac.phase = .none)
    (hst : u.dock.state = .bound ∨ u.dock.state = .charging ∨ u.dock.state = .hold) :
    (n.asks = true → (needSession n u).dock.state = .charging ∧ (needSession n u).charger.target = n.target ∧
      (needSession n u).charger.needLimit = n.limit ∧
      (u.charger.state = .off → (needSession n u).charger.state = .softstart ∧ (needSession n u).charger.setpoint = 0)) ∧
    (¬ n.asks = true → (needSession n u).dock.state = .bound) := by
  by_cases hhold : u.dock.state = .hold
  · obtain ⟨hyes, hno⟩ := needSession_returns (n := n) hhold hphase
    obtain ⟨htarget, hlimit, -, hoff, -⟩ := (u.charger.stop u.ctl.partTime).run_takes n u.ctl.partTime
    refine ⟨fun h => ?_, fun h => (hno h).1⟩
    rw [(hyes h).2]
    exact ⟨(hyes h).1, htarget, hlimit, fun hst => hoff (by rw [Charger.stop_of_off hst, hst])⟩
  · have hcharges : u.dock.state = .bound ∨ u.dock.state = .charging := hst.imp id fun h => h.resolve_right hhold
    obtain ⟨htarget, hlimit, -, hoff, -⟩ := u.charger.run_takes n u.ctl.partTime
    refine ⟨fun h => ?_, fun h => (needSession_binds hcharges h).1⟩
    obtain ⟨hstate, hrun⟩ := needSession_charges hcharges h
    rw [hrun]
    exact ⟨hstate, htarget, hlimit, hoff⟩

section
variable {s : State} {m : NeedMsg} {k : DockBinding}

/-- An accepted NEED that starts a counted run: the session step, the run's start, and the report. -/
theorem acceptNeed_starts (hk : s.dock.binding = some k) (hheld : s.contact.held = none)
    (hdue : (needSession m.need (needRecorded m k s)).countedRunDue = true) :
    acceptNeed m s = reportNeed s (startRun .counted (needSession m.need (needRecorded m k s))) := by
  unfold acceptNeed
  dsimp only
  rw [recordNeed_eq hk, hdue, if_pos rfl, sendHeld_of_none]
  obtain ⟨st, at', c, heq⟩ := needSession_only m.need (needRecorded m k s)
  obtain ⟨-, -, -, -, hcontact⟩ := startRun_leaves .counted (needSession m.need (needRecorded m k s))
  rw [reportNeed, reportDock_contact, hcontact, heq]
  exact hheld

theorem countedRun_due (hasked : m.evacRequest = true) (hnew : k.evacsDone = 0) (hoff : s.drive.state = .off)
    (hphase : s.evac.phase = .none) (hst : (needSession m.need (needRecorded m k s)).dock.state = .bound ∨
      (needSession m.need (needRecorded m k s)).dock.state = .charging) :
    (needSession m.need (needRecorded m k s)).countedRunDue = true := by
  obtain ⟨st, at', c, heq⟩ := needSession_only m.need (needRecorded m k s)
  rw [heq] at hst ⊢
  dsimp only at hst
  rcases hst with h | h <;> simp [State.countedRunDue, State.lastNeed, needRecorded, hasked, hnew, hoff, hphase, h]

end

/-! ### The obligation -/

/-- What START_EVACUATION leaves at the fan, by its state. -/
theorem startRun_fan {b : State} (kind : RunKind) (hrole : b.ctl.role = .dock) :
    (startRun kind b).drive.owner = .evacuation ∧
    (b.drive.state = .off → (startRun kind b).drive.state = .align ∧ (startRun kind b).drive.duty = 330 ∧
      (startRun kind b).drive.alignTimer = some (b.ctl.partTime + 40)) ∧
    (b.drive.state = .coast → (startRun kind b).drive.state = .coast ∧
      (∀ n, b.drive.catchCount = some n → (startRun kind b).drive.catchCount = some n) ∧
      (∀ v, b.drive.catchCount = none → b.drive.speed = some v → 20000 ≤ v → b.drive.speedAtStop.isSome = true →
        (startRun kind b).drive.catchCount = some 0 ∧ (startRun kind b).drive.ring = []) ∧
      (b.drive.catchCount = none → b.drive.speed = none ∨ (∃ v, b.drive.speed = some v ∧ v < 20000) ∨
        b.drive.speedAtStop = none → (startRun kind b).drive.startPending = true)) ∧
    (b.drive.state = .align ∨ b.drive.state = .ramp ∨ b.drive.state = .run →
      (startRun kind b).drive = { b.drive with owner := .evacuation, attempts := 0, retryPending := false }) := by
  by_cases hoff : b.drive.state = .off
  · have hne : ∀ st, st ≠ .off → ¬ b.drive.state = st := fun st hst h => hst (h.symm.trans hoff)
    rw [startRun_off kind hrole hoff]
    exact ⟨rfl, fun _ => ⟨rfl, rfl, rfl⟩, fun h => absurd h (hne _ (by decide)), fun h => by
      rcases h with h | h | h <;> exact absurd h (hne _ (by decide))⟩
  · by_cases hcoast : b.drive.state = .coast
    · have hne : ∀ st, st ≠ .coast → ¬ b.drive.state = st := fun st hst h => hst (h.symm.trans hcoast)
      have hdriving : b.drive.state = .align ∨ b.drive.state = .ramp ∨ b.drive.state = .run →
          (startRun kind b).drive = { b.drive with owner := .evacuation, attempts := 0, retryPending := false } := fun h => by
        rcases h with h | h | h <;> exact absurd h (hne _ (by decide))
      cases hcatch : b.drive.catchCount with
      | some n =>
        refine ⟨?_, fun h => absurd h hoff, fun _ => ⟨?_, ?_, ?_, ?_⟩, hdriving⟩
        all_goals try rw [startRun_catching kind hcoast hcatch]
        · rfl
        · exact hcoast
        · exact fun _ h => hcatch.trans h
        · exact fun _ h => by cases h
        · exact fun h => by cases h
      | none =>
        by_cases hfast : b.drive.speedAtStop.isSome = true ∧ ∃ v, b.drive.speed = some v ∧ 20000 ≤ v
        · obtain ⟨hstop, v, hv, hle⟩ := hfast
          rw [startRun_fast kind hcoast hcatch hstop ⟨v, hv, hle⟩]
          refine ⟨rfl, fun h => absurd h hoff, fun _ => ⟨hcoast, fun _ h => (by cases h), fun _ _ _ _ _ => ⟨rfl, rfl⟩,
            fun _ hslow => ?_⟩, fun h => ?_⟩
          · rcases hslow with h | ⟨w, hw, hlt⟩ | h
            · rw [hv] at h
              cases h
            · cases hv.symm.trans hw
              omega
            · rw [h] at hstop
              cases hstop
          · rcases h with h | h | h <;> exact absurd h (hne _ (by decide))
        · rw [startRun_slow kind hcoast hcatch hfast]
          refine ⟨rfl, fun h => absurd h hoff, fun _ => ⟨hcoast, fun _ h => (by cases h), fun v _ hv hle hstop =>
            absurd ⟨hstop, v, hv, hle⟩ hfast, fun _ _ => rfl⟩, fun h => ?_⟩
          rcases h with h | h | h <;> exact absurd h (hne _ (by decide))
    · rw [startRun_drives kind hoff hcoast]
      exact ⟨rfl, fun h => absurd h hoff, fun h => absurd h hcoast, fun _ => rfl⟩

/-- Settles O57: the request, the end of the duration, and the NEED that asks for a run. -/
theorem evacuationRuns : Obligations.EvacuationRuns := by
  refine ⟨fun s kind rest heads hrole => ?request, fun s hpower hphase htimer => ?ended,
    fun s check m k hpower hm hwindow hk hheld hphase hasked hst => ?need⟩
  case request =>
    intro b
    have hphase : s.evac.phase = b.evac.phase := by rw [show b.evac = s.evac from beginTaking_evac rest s]
    have hdrive : s.drive = b.drive := (beginTaking_drive rest s).symm
    have hdock : s.dock = b.dock := (beginTaking_dock rest s).symm
    have hcharger : s.charger = b.charger := (beginTaking_charger rest s).symm
    have hstore : s.store = b.store := (beginTaking_store rest s).symm
    have htime : s.ctl.partTime = b.ctl.partTime := (beginTaking_ctl_partTime rest s).symm
    have hbrole : b.ctl.role = .dock := (beginTaking_ctl_role rest s).trans hrole
    rw [hphase, hdrive, hdock, hcharger, hstore, htime]
    refine ⟨fun hbusy => ?_, fun hfree hfault => ?_, fun hfree hfault => ?_⟩
    · exact request_acts_refused (r := .busy) (q := startEvacuationSpec) heads rfl rfl (accepts_dock hrole rfl) rfl rfl
        (startEvacuationSpec_act_busy [] hbusy)
    · exact request_acts_refused (r := .denied) (q := startEvacuationSpec) heads rfl rfl (accepts_dock hrole rfl) rfl rfl
        (startEvacuationSpec_act_denied [] hfree hfault)
    · obtain ⟨hrundock, hrunevac, hruncharger, hrunstore, -⟩ := startRun_leaves .manual b
      obtain ⟨hreport, hbinding, henters, hstays⟩ := runStarts_manual b.dock b.ctl.partTime
      obtain ⟨howner, hoff, hcoast, hdrives⟩ := startRun_fan .manual hbrole
      refine ⟨_, request_acts_accepted (q := startEvacuationSpec) heads rfl rfl (accepts_dock hrole rfl) rfl rfl
        (startEvacuationSpec_act_starts [] hfree hfault), ?_⟩
      rw [reportDock_evac, reportDock_drive, reportDock_dock, reportDock_charger, reportDock_store, hrunevac, hrundock]
      exact ⟨rfl, rfl, rfl, howner, hoff, hcoast, hdrives, hreport, hbinding, henters, hstays, hruncharger, hrunstore⟩
  case ended =>
    have hrunning : s.evac.phase ≠ .none := by rw [hphase]; decide
    obtain ⟨hevac, hdock, hdrive, hcharger, hctl⟩ := spellOver_leaves hrunning
    obtain ⟨hback, hstays, hbinding⟩ := afterRun_state (s.dock.recordResult s.evac.kind .done)
      (decide (s.charger.state ≠ .off)) s.ctl.partTime
    obtain ⟨hrecorded, hresult⟩ := recordResult_leaves s.dock s.evac.kind .done
    have hrecords : (endRunRecords .done s).drive = s.drive := endRunRecords_drive _ _
    refine ⟨_, exec_durationTimer hpower hphase htimer, ?_⟩
    rw [settle_evac, settle_dock, settle_drive, settle_charger, hevac, hdock]
    refine ⟨rfl, rfl, rfl, rfl, rfl, rfl, rfl, fun _ => ?_, fun hrun => ?_, fun hst => ?_, fun hst => ?_,
      fun k hkind hk => ?_, hcharger⟩
    · rw [hdrive, driveStop_drives]
    · have hcoasted : (spellOver s).drive = coastedRun s.ctl.partTime s.drive := by
        rw [hdrive, driveStop_of_run (by rw [hrecords]; exact hrun), stopDriving_drive_run (by rw [hrecords]; exact hrun),
          endRunRecords_ctl, hrecords]
      rw [hcoasted]
      refine ⟨rfl, rfl, rfl, rfl, fun hcatch => ?_⟩
      unfold State.missesAtEnd State.now
      rw [settle_drive, settle_evac, settle_ctl_partTime, hcoasted, hevac, hctl]
      rw [if_pos ⟨rfl, hcatch, rfl, rfl, rfl⟩]
      exact if_pos hrun
    · show (Dock.afterRun _ _ _).state = _
      rw [hback (hrecorded.trans hst)]
      by_cases hoff : s.charger.state = .off <;> simp [hoff]
    · exact (hstays (by rw [hrecorded]; exact hst)).trans hrecorded
    · exact hbinding.trans (hresult k hkind hk)
  case need =>
    intro asks heard
    have hrole : s.ctl.role = .dock := needTaken_role (b := check) (m := m) (by rw [State.needTaken, hm, hwindow])
    have hasks : m.need.asks = true ↔ asks := asks_iff m.need
    have hheldEnd : (endFrame s).contact.held = none := hheld
    obtain ⟨hyes, hno⟩ := needSession_answers (n := m.need) (u := needRecorded m k (endFrame s)) (by exact hphase)
      (by exact hst)
    by_cases hstarts : k.evacsDone = 0 ∧ s.drive.state = .off
    · obtain ⟨hnew, hoff⟩ := hstarts
      have hsession : (needSession m.need (needRecorded m k (endFrame s))).dock.state = .bound ∨
          (needSession m.need (needRecorded m k (endFrame s))).dock.state = .charging := by
        by_cases h : m.need.asks = true
        · exact .inr (hyes h).1
        · exact .inl (hno h)
      have haccepts := acceptNeed_starts (s := endFrame s) (by exact hk) hheldEnd
        (countedRun_due (s := endFrame s) hasked hnew (by exact hoff) (by exact hphase) hsession)
      obtain ⟨st, at', c, heq⟩ := needSession_only m.need (needRecorded m k (endFrame s))
      obtain ⟨hdock, hevac, hcharger, -, -⟩ := startRun_leaves .counted (needSession m.need (needRecorded m k (endFrame s)))
      have hdrive := startRun_off .counted (s := needSession m.need (needRecorded m k (endFrame s)))
        (by rw [heq]; exact hrole) (by rw [heq]; exact hoff)
      rw [runStarts_counted (k := heard) _ hsession (by rw [heq]; rfl)] at hdock
      refine ⟨_, exec_need hpower hwindow hm, ?_⟩
      rw [haccepts, reportNeed, settle_dock, settle_charger, settle_evac, settle_drive, reportDock_dock, reportDock_charger,
        reportDock_evac, reportDock_drive, hdock, hevac, hcharger, hdrive]
      refine ⟨by rw [heq]; rfl, fun h => (hyes (hasks.mpr h)).2, fun _ _ => ⟨rfl, rfl, rfl, rfl, rfl, ?_, rfl, rfl, rfl, ?_⟩,
        fun h => ?_⟩
      · rw [heq]
        rfl
      · rw [heq]
        rfl
      · rcases h with h | h
        · exact absurd hnew h
        · exact absurd hoff h
    · have hdue := countedRun_not_due (s := endFrame s) (m := m) (k := k) (by
        by_cases hnew : k.evacsDone = 0
        · exact .inr (.inr (.inl fun hoff => hstarts ⟨hnew, hoff⟩))
        · exact .inr (.inl hnew))
      obtain ⟨hstate, hcharger, hclosed, -, hbinding, hdrive, hevac⟩ := acceptNeed_leaves (s := endFrame s) (by exact hk)
        hheldEnd hdue
      refine ⟨_, exec_need hpower hwindow hm, hclosed, fun h => ?_, fun hnew hoff => absurd ⟨hnew, hoff⟩ hstarts,
        fun _ => ⟨?_, hbinding, hevac, hdrive⟩⟩
      · rw [hcharger]
        exact (hyes (hasks.mpr h)).2
      · rw [hstate]
        by_cases h : asks
        · rw [if_pos h]
          exact (hyes (hasks.mpr h)).1
        · rw [if_neg h]
          exact hno fun ha => h (hasks.mp ha)

end Sys2Proof.Machine

/-! A window of the debris sensor evaluated for the dirt reading (sections 4.2 to 4.4). -/

namespace Sys2Proof.Machine

open Sys2Proof

/-! ### The level (R86) -/

section
variable (l : DirtLevels) (d : Nat)

theorem dirtLevelCode_le (level : DirtLevel) : dirtLevelCode level ≤ 3 := by cases level <;> decide

theorem dirtLevelCode_injective {a b : DirtLevel} (h : dirtLevelCode a = dirtLevelCode b) : a = b := by
  cases a <;> cases b <;> simp_all [dirtLevelCode]

theorem dirtLevelCode_below {level : DirtLevel} (h : level ≠ .clean) :
    dirtLevelCode level = dirtLevelCode level.below + 1 := by
  cases level <;> simp_all [dirtLevelCode, DirtLevel.below]

/-- No level whose rising threshold D reaches lies above the highest. -/
theorem reachedLevel_highest {m : DirtLevel}
    (h : m = .light ∧ l.light ≤ d ∨ m = .medium ∧ l.medium ≤ d ∨ m = .heavy ∧ l.heavy ≤ d) :
    dirtLevelCode m ≤ dirtLevelCode (reachedLevel l d) := by
  unfold reachedLevel
  by_cases hheavy : l.heavy ≤ d
  · rw [if_pos hheavy]
    exact dirtLevelCode_le m
  rw [if_neg hheavy]
  by_cases hmedium : l.medium ≤ d
  · rw [if_pos hmedium]
    obtain ⟨rfl, -⟩ | ⟨rfl, -⟩ | ⟨-, hle⟩ := h
    · decide
    · decide
    · exact absurd hle hheavy
  rw [if_neg hmedium]
  obtain ⟨rfl, hle⟩ | ⟨-, hle⟩ | ⟨-, hle⟩ := h
  · exact Nat.le_of_eq (congrArg dirtLevelCode (if_pos hle).symm)
  · exact absurd hle hmedium
  · exact absurd hle hheavy

theorem nextLevel_rises {level : DirtLevel} (h : dirtLevelCode level < dirtLevelCode (reachedLevel l d)) :
    nextLevel l d level = reachedLevel l d := if_pos h

/-- Up to n falls in a row. -/
def fallTimes : Nat → DirtLevel → DirtLevel
  | 0, level => level
  | n + 1, level => fallTimes n (fallOnce l d level)

/-- Without a rise the level falls as often as there are levels above CLEAN. -/
theorem nextLevel_falls {level : DirtLevel} (h : dirtLevelCode (reachedLevel l d) ≤ dirtLevelCode level) :
    nextLevel l d level = fallTimes l d 3 level := if_neg (Nat.not_lt.mpr h)

/-- D keeps a level: it is CLEAN, or D is at or above its falling threshold. -/
def keepsLevel (level : DirtLevel) : Prop := level = .clean ∨ fallingThreshold l level ≤ d

theorem fallOnce_kept {level : DirtLevel} (h : keepsLevel l d level) : fallOnce l d level = level := by
  refine if_neg fun ⟨hne, hlt⟩ => ?_
  rcases h with h | h
  · exact hne h
  · exact Nat.not_lt.mpr h hlt

theorem fallOnce_falls {level : DirtLevel} (h : ¬ keepsLevel l d level) : fallOnce l d level = level.below :=
  if_pos ⟨fun hc => h (.inl hc), Nat.lt_of_not_le fun hle => h (.inr hle)⟩

theorem fallTimes_kept {level : DirtLevel} (h : keepsLevel l d level) (n : Nat) :
    fallTimes l d n level = level := by
  induction n with
  | zero => rfl
  | succ n ih => rw [fallTimes, fallOnce_kept l d h, ih]

/-- Enough falls end at a level that D keeps, past levels whose falling threshold D is below. -/
theorem fallTimes_spec (n : Nat) {level : DirtLevel} (h : dirtLevelCode level ≤ n) :
    keepsLevel l d (fallTimes l d n level) ∧
      ∀ m, dirtLevelCode (fallTimes l d n level) < dirtLevelCode m → dirtLevelCode m ≤ dirtLevelCode level →
        d < fallingThreshold l m := by
  induction n generalizing level with
  | zero =>
    refine ⟨.inl (dirtLevelCode_injective (Nat.le_zero.mp h)), fun m hlt hle => ?_⟩
    exact absurd hle (Nat.not_le.mpr hlt)
  | succ n ih =>
    by_cases hkeeps : keepsLevel l d level
    · rw [fallTimes_kept l d hkeeps]
      exact ⟨hkeeps, fun m hlt hle => absurd hle (Nat.not_le.mpr hlt)⟩
    · have hcode := dirtLevelCode_below fun hc => hkeeps (.inl hc)
      rw [fallTimes, fallOnce_falls l d hkeeps]
      obtain ⟨hkept, hpassed⟩ := ih (level := level.below) (by omega)
      refine ⟨hkept, fun m hlt hle => ?_⟩
      by_cases hm : dirtLevelCode m = dirtLevelCode level
      · rw [dirtLevelCode_injective hm]
        exact Nat.lt_of_not_le fun hle => hkeeps (.inr hle)
      · exact hpassed m hlt (by omega)

theorem nextLevel_le {level : DirtLevel} (h : dirtLevelCode (reachedLevel l d) ≤ dirtLevelCode level) :
    dirtLevelCode (nextLevel l d level) ≤ dirtLevelCode level := by
  have hfall : ∀ m : DirtLevel, dirtLevelCode (fallOnce l d m) ≤ dirtLevelCode m := fun m => by
    by_cases hkeeps : keepsLevel l d m
    · exact Nat.le_of_eq (by rw [fallOnce_kept l d hkeeps])
    · rw [fallOnce_falls l d hkeeps, dirtLevelCode_below fun hc => hkeeps (.inl hc)]
      exact Nat.le_succ _
  rw [nextLevel_falls l d h]
  exact Nat.le_trans (hfall _) (Nat.le_trans (hfall _) (hfall _))

end

/-! ### The window (R78 to R85) -/

/-- The window's count taken, with the timer that runs on in RUN (R78, R79). -/
def windowTaken (s : State) : State :=
  { s with debris := { s.debris with
      c := 0, windowTimer := if s.drive.state = .run then some (s.ctl.partTime + 50) else none } }

section
variable {s : State}

theorem exec_piezoPulse (hpower : s.ctl.power ≠ .ship) (htimer : s.debris.windowTimer.isSome = true) :
    exec .piezoPulse s = .next (settle { s with debris := { s.debris with c := min 65535 (s.debris.c + 1) } }) :=
  event_occurs (f := fun s => { s with debris := { s.debris with c := min 65535 (s.debris.c + 1) } }) htimer hpower

theorem exec_debrisWindow (ledOff ledOn : Nat) (hpower : s.ctl.power ≠ .ship)
    (htimer : s.debris.windowTimer.isSome = true) :
    exec (.debrisWindow ledOff ledOn) s = .next (settle (windowEnds ledOff ledOn s)) :=
  event_occurs (f := windowEnds ledOff ledOn) htimer hpower

theorem windowEnds_dirt (ledOff ledOn : Nat) (h : s.debris.cal = none) :
    windowEnds ledOff ledOn s = dirtWindow s.debris.c (beamDiff ledOff ledOn) (windowTaken s) := by
  simp [windowEnds, windowTaken, h, State.after]

/-- clear_ref after the drift of a window (R83). -/
def driftedRef (d : Debris) (diff : Nat) : Nat :=
  if d.d.isSome ∧ d.level = .clean ∧ d.clearRef < diff then min 1023 (d.clearRef + 1) else d.clearRef

theorem Debris.drift_eq (d : Debris) (diff : Nat) : d.drift diff = { d with clearRef := driftedRef d diff } := by
  unfold Debris.drift driftedRef
  split <;> rfl

/-- The debris record of a window with its figures and its index, before the drift (R80, R85, R86). -/
def windowIndexed (c diff : Nat) (s : State) : Debris :=
  { s.debris with last := windowFigures s.debris s.drive.speed c diff }.index (windowFigures s.debris s.drive.speed c diff).r

theorem windowIndexed_numeric {c diff x : Nat} (h : (windowFigures s.debris s.drive.speed c diff).r = some x) :
    windowIndexed c diff s = { s.debris with
      last := windowFigures s.debris s.drive.speed c diff, s := filterStep s.debris.s x,
      d := some (filterStep s.debris.s x / 4),
      level := nextLevel s.debris.levels (filterStep s.debris.s x / 4) s.debris.level } := by
  unfold windowIndexed
  rw [h]
  rfl

theorem windowIndexed_absent {c diff : Nat} (h : (windowFigures s.debris s.drive.speed c diff).r = none) :
    windowIndexed c diff s = { s.debris with last := windowFigures s.debris s.drive.speed c diff, d := none } := by
  unfold windowIndexed
  rw [h]
  rfl

/-- The debris record of a window after the drift (R83). -/
def windowDrifted (c diff : Nat) (s : State) : Debris :=
  { windowIndexed c diff s with clearRef := driftedRef (windowIndexed c diff s) diff }

/-- The state of a window after the SENSOR_DIRTY check (R83). -/
def windowChecked (c diff : Nat) (s : State) : State := checkDirty diff { s with debris := windowDrifted c diff s }

/-- The state of a window with the load collected and the request derived, before its report (R80, R88). -/
def windowCollected (c diff : Nat) (s : State) : State :=
  deriveRequest { windowChecked c diff s with
    debris := (windowChecked c diff s).debris.collect (windowFigures s.debris s.drive.speed c diff).r }

theorem dirtWindow_eq (c diff : Nat) (s : State) : dirtWindow c diff s = reportDirt s (windowCollected c diff s) := by
  unfold dirtWindow windowCollected windowChecked windowDrifted
  rw [← Debris.drift_eq]
  rfl

theorem checkDirty_enters (diff : Nat) (h : s.debris.clearRef < 100) (hnew : s.debris.dirtyLogged = false) :
    checkDirty diff s = appendFault .debrisSensor .sensorDirty (.num s.debris.clearRef) (some (.num diff))
      { s with debris := { s.debris with dirtyLogged := true } } := if_pos ⟨h, hnew⟩

theorem checkDirty_quiet (diff : Nat) (h : 100 ≤ s.debris.clearRef ∨ s.debris.dirtyLogged = true) :
    checkDirty diff s = s := by
  refine if_neg fun ⟨hlt, hnew⟩ => ?_
  rcases h with h | h
  · omega
  · rw [hnew] at h
    cases h

/-- The check changes the debris record in its mark alone (R83). -/
theorem checkDirty_debris (diff : Nat) (s : State) :
    (checkDirty diff s).debris = { s.debris with dirtyLogged := (checkDirty diff s).debris.dirtyLogged } := by
  unfold checkDirty
  split
  · simp
  · rfl

theorem handReport_reports_succ (r : Report) (s : State) :
    (handReport r s).host.reports.length ≤ s.host.reports.length + 1 := by
  rcases handReport_cases r s with h | ⟨-, h⟩ | ⟨-, h⟩ <;> rw [h]
  · exact Nat.le_succ _
  · exact Nat.le_of_eq List.length_append
  · exact Nat.le_succ _

/-- The check leaves the blocks, the transmitter and the mask, and queues one report at the most. -/
theorem windowChecked_leaves (c diff : Nat) (s : State) : (windowChecked c diff s).drive = s.drive ∧
    (windowChecked c diff s).pack = s.pack ∧
    (windowChecked c diff s).host.tx = s.host.tx ∧ (windowChecked c diff s).host.mask = s.host.mask ∧
    (windowChecked c diff s).host.reports.length ≤ s.host.reports.length + 1 := by
  unfold windowChecked checkDirty
  split
  · exact ⟨by simp, by simp, by simp, by simp, handReport_reports_succ _ _⟩
  · exact ⟨rfl, rfl, rfl, rfl, Nat.le_succ _⟩

/-! ### What the window leaves (R80, R87) -/

/-- The debris record of the window: the drifted record with its mark and the load collected. -/
theorem windowCollected_debris (c diff : Nat) (s : State) : (windowCollected c diff s).debris
    = { windowDrifted c diff s with dirtyLogged := (windowChecked c diff s).debris.dirtyLogged }.collect
        (windowFigures s.debris s.drive.speed c diff).r := by
  show (windowChecked c diff s).debris.collect _ = _
  rw [windowChecked, checkDirty_debris]

/-- What every window leaves, whatever its raw reading: its figures, the drift judged by its index, and all that the index
and the load do not touch. -/
theorem windowCollected_fields (c diff : Nat) (s : State) :
    let v := (windowCollected c diff s).debris
    v.c = s.debris.c ∧ v.windowTimer = s.debris.windowTimer ∧ v.last = windowFigures s.debris s.drive.speed c diff ∧
      v.floors = s.debris.floors ∧ v.levels = s.debris.levels ∧
      v.clearRef = (if v.d.isSome ∧ v.level = .clean ∧ s.debris.clearRef < diff then min 1023 (s.debris.clearRef + 1)
        else s.debris.clearRef) ∧
      v.clearRef = (windowDrifted c diff s).clearRef ∧ v.dirtyLogged = (windowChecked c diff s).debris.dirtyLogged := by
  rw [windowCollected_debris]
  unfold windowDrifted windowIndexed
  cases (windowFigures s.debris s.drive.speed c diff).r <;> exact ⟨rfl, rfl, rfl, rfl, rfl, rfl, rfl, rfl⟩

/-- A raw reading drives the filter, the index, the level and the load (R85, R86, R88). -/
theorem windowCollected_numeric {c diff x : Nat} {s : State}
    (h : (windowFigures s.debris s.drive.speed c diff).r = some x) :
    let v := (windowCollected c diff s).debris
    let f := filterStep s.debris.s x
    v.s = f ∧ v.d = some (f / 4) ∧ v.level = nextLevel s.debris.levels (f / 4) s.debris.level ∧
      v.b = min 1000000 (s.debris.b + x) ∧ v.binFull = decide (s.debris.levels.binThreshold ≤ v.b) := by
  rw [windowCollected_debris, h]
  unfold windowDrifted
  rw [windowIndexed_numeric h]
  exact ⟨rfl, rfl, rfl, rfl, rfl⟩

/-- Without a raw reading the index is ABSENT, and all else stands. -/
theorem windowCollected_absent {c diff : Nat} {s : State}
    (h : (windowFigures s.debris s.drive.speed c diff).r = none) :
    let v := (windowCollected c diff s).debris
    v.d = none ∧ v.s = s.debris.s ∧ v.level = s.debris.level ∧ v.b = s.debris.b ∧ v.binFull = s.debris.binFull := by
  rw [windowCollected_debris, h]
  unfold windowDrifted
  rw [windowIndexed_absent h]
  exact ⟨rfl, rfl, rfl, rfl, rfl⟩

theorem windowDrifted_dirtyLogged (c diff : Nat) (s : State) :
    (windowDrifted c diff s).dirtyLogged = s.debris.dirtyLogged := by
  unfold windowDrifted windowIndexed
  cases (windowFigures s.debris s.drive.speed c diff).r <;> rfl

/-- A clear_ref below 100 is entered once (R83). -/
theorem windowChecked_enters {c diff : Nat} {s u : State} (hctl : s.ctl = u.ctl) (hdiff : diff ≤ 1023)
    (hlow : (windowDrifted c diff s).clearRef < 100) (hnew : s.debris.dirtyLogged = false) :
    (windowChecked c diff s).debris.dirtyLogged = true ∧
      Spec.Logged u (windowChecked c diff s) .debrisSensor .sensorDirty (.num (windowDrifted c diff s).clearRef)
        (some (.num diff)) := by
  rw [windowChecked, checkDirty_enters diff (s := { s with debris := windowDrifted c diff s }) hlow
    ((windowDrifted_dirtyLogged c diff s).trans hnew)]
  refine ⟨by simp, ?_⟩
  have hlogged := appendFault_logged .debrisSensor .sensorDirty (.num (windowDrifted c diff s).clearRef) (some (.num diff))
    (s := u) (u := { s with debris := { windowDrifted c diff s with dirtyLogged := true } }) hctl
  rwa [Reading.fit16_num (by omega) (by omega), Option.map_some, Reading.fit16_num (by omega) (by omega)] at hlogged

/-- A clear_ref of 100 or more, or one entered already, is not entered. -/
theorem windowChecked_quiet {c diff : Nat} {s : State}
    (h : 100 ≤ (windowDrifted c diff s).clearRef ∨ s.debris.dirtyLogged = true) :
    windowChecked c diff s = { s with debris := windowDrifted c diff s } :=
  checkDirty_quiet diff (s := { s with debris := windowDrifted c diff s })
    (by rw [show (windowDrifted c diff s).dirtyLogged = s.debris.dirtyLogged from windowDrifted_dirtyLogged c diff s]
        exact h)

/-- A report of the DIRT type is the last one queued, where the event changed BIN_FULL or the reported level. -/
theorem reportDirt_queues {before after : State} (hmask : after.host.mask.getLsbD 2 = true)
    (hroom : after.host.reports.length < 8) :
    (after.debris.binFull ≠ before.debris.binFull → (reportDirt before after).host.reports.getLast? = some (.dirt
      (if after.debris.binFull then .binFull else .binEmptied) after.debris.d after.reportedLevel after.debris.b
      after.debris.binFull)) ∧
    (after.debris.binFull = before.debris.binFull → after.reportedLevel ≠ before.reportedLevel →
      (reportDirt before after).host.reports.getLast? = some (.dirt .level after.debris.d after.reportedLevel
        after.debris.b after.debris.binFull)) := by
  refine ⟨fun h => ?_, fun hsame h => ?_⟩
  · rw [reportDirt, if_pos h, handReport_queued _ _ hmask hroom]
    exact List.getLast?_concat ..
  · rw [reportDirt, if_neg (Classical.not_not.mpr hsame), if_pos h, handReport_queued _ _ hmask hroom]
    exact List.getLast?_concat ..

/-- A busy transmitter leaves the queued reports. -/
theorem settle_reports_of_busy {u : State} (h : u.host.tx.isSome = true) :
    (settle u).host.reports = u.host.reports := by
  obtain ⟨w, hw⟩ := Option.isSome_iff_exists.mp h
  rw [settle_of_sending (.inl h), startFrame_busy (w := w) (by exact hw)]
  rfl

theorem State.reportedLevel_congr {s t : State} (hrole : t.ctl.role = s.ctl.role) (h : t.debris = s.debris) :
    t.reportedLevel = s.reportedLevel := by
  rw [State.reportedLevel, State.reportedLevel, State.isDock, State.isDock, hrole, h]

end

/-- Settles O48: the pulses, the window's evaluation, and the level. -/
theorem debrisWindowEvaluates : Obligations.DebrisWindowEvaluates := by
  refine ⟨fun s hpower htimer => exec_piezoPulse hpower htimer, fun s ledOff ledOn hpower htimer hcal => ?window,
    fun l d level => ?level⟩
  case window =>
    intro diff n a r
    have hr : (windowFigures (windowTaken s).debris (windowTaken s).drive.speed s.debris.c diff).r = r := rfl
    obtain ⟨hc, hrestarts, hlast, hfloors, hlevels, hclear, hdrifted, hmark⟩ :=
      windowCollected_fields s.debris.c diff (windowTaken s)
    obtain ⟨hdrive, hpack, htx, hmask, hcount⟩ := windowChecked_leaves s.debris.c diff (windowTaken s)
    have hends : windowEnds ledOff ledOn s = dirtWindow s.debris.c diff (windowTaken s) := windowEnds_dirt ledOff ledOn hcal
    have hreported := reportDirt_reported (windowTaken s) (windowCollected s.debris.c diff (windowTaken s))
    refine ⟨_, exec_debrisWindow ledOff ledOn hpower htimer, ?_⟩
    rw [hends, dirtWindow_eq, settle_debris, settle_drive, reportDirt_debris, reportDirt_drive]
    refine ⟨hc, hrestarts, hlast, fun x hx => windowCollected_numeric (hr.trans hx),
      fun hnone => windowCollected_absent (hr.trans hnone), hclear, hfloors, hlevels, hdrive,
      packKept_settle ((reportDirt_pack _ _).trans hpack), fun hlow hnew => ?_, fun hquiet => ?_,
      fun hbusy hsubscribed hroom => ?_⟩
    · rw [hdrifted] at hlow ⊢
      obtain ⟨hlogs, hentry⟩ := windowChecked_enters (u := s) (s := windowTaken s) rfl (Nat.min_le_left _ _) hlow hnew
      exact ⟨hmark.trans hlogs,
        Logged.settled (Logged.reported (t := windowCollected s.debris.c diff (windowTaken s)) hentry hreported)⟩
    · rw [hdrifted] at hquiet
      have hstill := windowChecked_quiet (s := windowTaken s) hquiet
      rw [hmark, settle_ctl_ring, reportDirt_ctl, hstill]
      exact ⟨windowDrifted_dirtyLogged _ _ _, by rw [windowCollected, hstill]; rfl⟩
    · have hroom' : (windowCollected s.debris.c diff (windowTaken s)).host.reports.length < 8 :=
        Nat.lt_of_le_of_lt hcount (Nat.succ_lt_succ hroom)
      have hsends : (reportDirt (windowTaken s) (windowCollected s.debris.c diff (windowTaken s))).host.tx.isSome = true := by
        rw [reportDirt_host_tx, show (windowCollected s.debris.c diff (windowTaken s)).host.tx = s.host.tx from htx]
        exact hbusy
      rw [settle_reports_of_busy hsends, State.reportedLevel_congr (t := settle _) (settle_ctl_role _) (settle_debris _),
        State.reportedLevel_congr (t := reportDirt _ _) (by rw [reportDirt_ctl]) (reportDirt_debris _ _)]
      exact reportDirt_queues (by rw [show (windowCollected s.debris.c diff (windowTaken s)).host.mask = s.host.mask from hmask]
                                  exact hsubscribed) hroom'
  case level =>
    intro reached
    have hreached : reached = reachedLevel l d := rfl
    refine ⟨fun _ hmedium hle => ?_, fun m hm hlt => ?_, fun h => ?_, rfl, rfl, rfl, fun hkept hle => ?_, fun hle => ?_⟩
    · have hheavy : reachedLevel l d = .heavy := if_pos hle
      rcases Nat.lt_or_ge (dirtLevelCode level) (dirtLevelCode (reachedLevel l d)) with hrise | hfall
      · rw [nextLevel_rises l d hrise, hheavy]
      · have hlevel : level = .heavy := dirtLevelCode_injective
          (Nat.le_antisymm (dirtLevelCode_le level) (hheavy ▸ hfall))
        rw [nextLevel_falls l d hfall, hlevel]
        refine fallTimes_kept l d (.inr (Nat.max_le.mpr ⟨?_, ?_⟩)) 3
        · exact Nat.le_trans (Nat.sub_le _ _) hle
        · exact Nat.succ_le_of_lt (Nat.lt_of_lt_of_le hmedium hle)
    · have hrise := Nat.lt_of_lt_of_le hlt (reachedLevel_highest l d hm)
      rw [nextLevel_rises l d hrise]
      exact ⟨reachedLevel_highest l d hm, rfl⟩
    · rcases Nat.lt_or_ge (dirtLevelCode level) (dirtLevelCode (reachedLevel l d)) with hrise | hfall
      · exact nextLevel_rises l d hrise
      · exact absurd (nextLevel_le l d hfall) (Nat.not_le.mpr h)
    · rw [nextLevel_falls l d hle]
      exact fallTimes_kept l d (.inr hkept) 3
    · rw [nextLevel_falls l d hle]
      obtain ⟨hkept, hpassed⟩ := fallTimes_spec l d 3 (dirtLevelCode_le level)
      exact ⟨fun hne => hkept.resolve_left hne, hpassed⟩

end Sys2Proof.Machine

/-! A floor calibration (section 4.5): its start, its windows, its success and its end. -/

namespace Sys2Proof.Machine

open Sys2Proof

/-! ### CALIBRATE_FLOOR (R91, R100) -/

/-- What forbids a calibration's start (R100). -/
def calibrationDenied (s : State) : Prop :=
  s.stick.state ≠ .detached ∨ s.drive.mode ≠ .off ∨ s.drive.state ≠ .off ∨ s.prot.dischargeOk = false

section
variable (p : List Byte) {b : State}

theorem calibrateFloorSpec_act_busy (h : b.debris.cal.isSome = true ∨ b.store.op.isSome = true) :
    calibrateFloorSpec.act p b = refuse .busy b := if_pos h

theorem not_busy (hcal : b.debris.cal = none) (hop : b.store.op = none) :
    ¬ (b.debris.cal.isSome = true ∨ b.store.op.isSome = true) := by
  rw [hcal, hop]
  decide

theorem calibrateFloorSpec_act_denied (hcal : b.debris.cal = none) (hop : b.store.op = none) (h : calibrationDenied b) :
    calibrateFloorSpec.act p b = refuse .denied b :=
  (if_neg (not_busy hcal hop)).trans (if_pos h)

theorem calibrateFloorSpec_act_starts (hcal : b.debris.cal = none) (hop : b.store.op = none)
    (h : ¬ calibrationDenied b) : calibrateFloorSpec.act p b = ⟨.accepted, startCalibration b, []⟩ :=
  (if_neg (not_busy hcal hop)).trans (if_neg h)

end

/-- A calibration's start enters ALIGN with the calibration as owner (R8, R10, R91). -/
theorem startCalibration_reported {b : State} (hactive : b.ctl.power = .active) (hrole : b.ctl.role = .stick)
    (h : ¬ calibrationDenied b) :
    Reported { b with
      debris := { b.debris with cal := some newCalibration }
      drive := aligned b.ctl.partTime (claimed .calibration b.drive), pack := { b.pack with balance := [] } }
      (startCalibration b) := by
  simp only [calibrationDenied, not_or, Classical.not_not, Bool.not_eq_false] at h
  obtain ⟨hdetached, -, hoff, hok⟩ := h
  have hstarts : State.startOk { setCalibration newCalibration b with drive := claimed .calibration b.drive } = true := by
    simp [State.startOk, State.runRequest, claimed, setCalibration, hrole, hdetached, hok, hoff]
  have hstart : startRequest .calibration (setCalibration newCalibration b)
      = enterAlign { setCalibration newCalibration b with drive := claimed .calibration b.drive } :=
    (startRequest_off (s := setCalibration newCalibration b) hactive hoff).trans (if_pos hstarts)
  have hreported := reportStart_reported b (startRequest .calibration (setCalibration newCalibration b))
  rw [hstart] at hreported
  rw [startCalibration, hstart]
  exact hreported

/-! ### A window that serves the calibration (R78, R91, R92) -/

theorem inBand_iff (speed : Option Nat) (target : Nat) :
    inBand speed target = true ↔ ∃ v, speed = some v ∧ target ≤ v + 1000 ∧ v ≤ target + 1000 := by
  cases speed <;> simp [inBand]

section
variable {s : State} {k : FloorCal}

theorem windowEnds_calibration (ledOff ledOn : Nat) (hcal : s.debris.cal = some k) (howner : s.drive.owner = .calibration) :
    windowEnds ledOff ledOn s = calibrationWindow s.debris.c (beamDiff ledOff ledOn) k (windowTaken s) := by
  simp [windowEnds, windowTaken, hcal, howner, State.after]

theorem calibrationWindow_seeking (c diff : Nat) (h : k.phase = .seeking) :
    calibrationWindow c diff k s = setCalibration (seekWindow s.ctl.partTime s.drive.speed k) s := by
  unfold calibrationWindow
  rw [h]
  rfl

theorem calibrationWindow_counting (c diff : Nat) (h : k.phase = .counting) :
    calibrationWindow c diff k s = countWindow c diff k s := by
  unfold calibrationWindow
  rw [h]

theorem countWindow_leaves (c diff : Nat) (h : inBand s.drive.speed k.target = false) :
    countWindow c diff k s = setCalibration (k.restart .seeking (some (s.ctl.partTime + 3000))) s :=
  if_neg (Bool.eq_false_iff.mp h)

theorem countWindow_counts (c diff : Nat) (h : inBand s.drive.speed k.target = true) (hfew : k.windows < 7) :
    countWindow c diff k s = setCalibration (k.count c diff) s :=
  (if_pos h).trans (if_pos (Nat.succ_lt_succ hfew))

theorem countWindow_full (c diff : Nat) (h : inBand s.drive.speed k.target = true) (hfull : k.windows = 7) :
    countWindow c diff k s = if k.band = 7 then calibrationSucceeded (k.count c diff).stage s
      else setCalibration ((k.count c diff).stage.nextBand (s.ctl.partTime + 3000)) s :=
  (if_pos h).trans (if_neg (Nat.not_lt.mpr (Nat.succ_le_succ (Nat.le_of_eq hfull.symm))))

/-- The settle test of a window in SEEKING (R91). -/
theorem seekWindow_judges (now : Ms) (speed : Option Nat) (k : FloorCal) :
    (inBand speed k.target = false → seekWindow now speed k = { k with settle := none }) ∧
    (inBand speed k.target = true → k.settle = none → seekWindow now speed k = { k with settle := some now }) ∧
    (∀ t0, inBand speed k.target = true → k.settle = some t0 → (now - t0).toNat < 200 → seekWindow now speed k = k) ∧
    (∀ t0, inBand speed k.target = true → k.settle = some t0 → 200 ≤ (now - t0).toNat →
      seekWindow now speed k = k.restart .counting none) := by
  unfold seekWindow
  refine ⟨fun hout => ?_, fun hin hnew => ?_, fun t0 hin ht hwait => ?_, fun t0 hin ht hdone => ?_⟩
  · rw [qualify_absent now k.settle 200 hout]
    rfl
  · rw [qualify_begins now 200 hin hnew]
    rfl
  · rw [qualify_waits hin ht hwait, ← ht]
    rfl
  · rw [qualify_passes hin ht hdone]
    rfl

end

/-! ### The end of a calibration at the drive (R13, R14, R93) -/

theorem driveStop_debris_run {s : State} (h : s.drive.state = .run) :
    (driveStop s).debris = { s.debris with windowTimer := none, c := 0 } := by
  rw [driveStop_of_run h]
  show (leaveIfRun .coast s).debris = _
  rw [leaveIfRun_of_run _ h, leaveRun_debris]

/-- A stop request touches the window's timer and count alone (R78). -/
theorem driveStop_debris (s : State) : (driveStop s).debris
    = { s.debris with windowTimer := (driveStop s).debris.windowTimer, c := (driveStop s).debris.c } := by
  by_cases hrun : s.drive.state = .run
  · rw [driveStop_debris_run hrun]
  · have hstill : (driveStop s).debris = s.debris := by
      unfold driveStop
      split
      case h_2 | h_3 =>
        show (leaveIfRun .coast s).debris = _
        rw [leaveIfRun, if_neg hrun]
      case h_4 h => exact absurd h hrun
      case h_6 => exact releaseFault_debris s
      all_goals rfl
    rw [hstill]

/-- A stop request that finds channel A driving leaves COAST with nothing that waits and no owner (R14). -/
theorem driveStop_coasts {s : State} (h : s.drive.state.drives = true) :
    (driveStop s).drive.state = .coast ∧ (driveStop s).drive.owner = .none ∧ (driveStop s).drive.startPending = false ∧
      (driveStop s).drive.retryPending = false := by
  unfold driveStop
  split
  case h_2 | h_3 | h_4 => exact ⟨rfl, rfl, rfl, rfl⟩
  all_goals simp_all [DriveState.drives]

/-! ### The write of a successful calibration (R94, R182, R183) -/

theorem handReport_mem {r x : Report} {s : State} (h : x ∈ s.host.reports) : x ∈ (handReport r s).host.reports := by
  rcases handReport_cases r s with heq | ⟨-, heq⟩ | ⟨-, heq⟩ <;> rw [heq]
  · exact h
  · exact List.mem_append_left _ h
  · exact h

theorem reportMove_mem {x : Report} {cause : DriveCause} {before after : State} (h : x ∈ after.host.reports) :
    x ∈ (reportMove cause before after).host.reports := by
  unfold reportMove
  split
  · exact handReport_mem h
  · exact h

/-- The value of the FLOOR_TABLE record of a committed calibration (section 11.6). -/
theorem floorBytes_commit (d : Debris) (k : FloorCal) :
    floorBytes (d.commit k) = u16 (k.candidate.getD 0) ++ k.staged.flatMap u16 := by
  show u16 (k.candidate.getD 0) ++ (k.staged.map some).flatMap (fun f => u16 (f.getD 0xFFFF)) = _
  rw [List.flatMap_map]
  rfl

section
variable {v : State} {seg : Nat}

theorem writeFloors_of_idle (h : v.store.op = none) :
    writeFloors v = startUserWrite 0x23 0x04 (floorBytes v.debris) v := by
  unfold writeFloors
  rw [if_neg (by rw [h]; decide)]

theorem writeFloors_of_busy (h : v.store.op.isSome = true) :
    writeFloors v = handReport (.done 0x23 .storeFailed 7) v := if_pos h

theorem startUserWrite_compacts {value : List Byte} (origin tag : Nat) (hactive : v.store.active = some seg)
    (hfits : v.store.fits seg value.length = false) (hgen : segHeader v.store.mem seg ≠ 65534) :
    startUserWrite origin tag value v
      = startCompaction (seg % 3 + 1) (segHeader v.store.mem seg + 1) origin tag value v := by
  unfold startUserWrite
  rw [hactive]
  dsimp only
  rw [if_neg (by rw [hfits]; decide), if_neg hgen]
  rfl

theorem startUserWrite_exhausted {value : List Byte} (origin tag : Nat) (hactive : v.store.active = some seg)
    (hfits : v.store.fits seg value.length = false) (hgen : segHeader v.store.mem seg = 65534) :
    startUserWrite origin tag value v = failOp ⟨.write, seg, tag, origin, value, 0, 0⟩ .full seg v := by
  unfold startUserWrite
  rw [hactive]
  dsimp only
  rw [if_neg (by rw [hfits]; decide), if_pos hgen]

/-- An operation that fails before it began leaves the store, and its DONE report is queued where two places are free. -/
theorem failOp_before (op : StoreOp) (code : FaultCode) (hop : v.store.op = none) :
    (failOp op code seg v).store = v.store ∧ (v.host.mask.getLsbD 6 = true → v.host.reports.length < 7 →
      Report.done op.origin .storeFailed (opDetail op) ∈ (failOp op code seg v).host.reports) := by
  refine ⟨?_, fun hmask hroom => ?_⟩
  · unfold failOp
    rw [endOp_store, storeFault, appendFault_store, ← hop]
  · have hqueued : (storeFault code op.tag seg v).host.reports.length < 8 :=
      Nat.lt_of_le_of_lt (handReport_reports_succ _ _) (Nat.succ_lt_succ hroom)
    unfold failOp endOp
    rw [handReport_queued _ _ (by exact (congrArg (fun m => m.getLsbD 6) (appendFault_host_mask ..)).trans hmask)
      (by exact hqueued)]
    exact List.mem_append_right _ (List.mem_singleton_self _)

/-- The write begins where the record fits the active segment, as a compaction into the next segment of the ring or into
segment 1, and else it fails with its report. -/
theorem writeFloors_store (v : State) :
    let value := floorBytes v.debris
    let failed := v.host.mask.getLsbD 6 = true → v.host.reports.length < 7 →
      Report.done 0x23 .storeFailed 7 ∈ (writeFloors v).host.reports
    (∀ seg, v.store.op = none → v.store.active = some seg → v.store.fits seg value.length = true →
      (writeFloors v).store = { v.store with op := some ⟨.write, seg, 0x04, 0x23, value, 0, 0⟩ }) ∧
    (∀ seg, v.store.op = none → v.store.active = some seg → v.store.fits seg value.length = false →
      (segHeader v.store.mem seg ≠ 65534 → (writeFloors v).store.op = some
          ⟨.compaction, seg % 3 + 1, 0x04, 0x23, value, 1, segHeader v.store.mem seg + 1⟩ ∧
        (writeFloors v).store.mem = writeHeader v.store.mem (seg % 3 + 1) 0) ∧
      (segHeader v.store.mem seg = 65534 → (writeFloors v).store = v.store ∧ failed)) ∧
    (v.store.op = none → v.store.active = none →
      (writeFloors v).store.op = some ⟨.compaction, 1, 0x04, 0x23, value, 1, 1⟩ ∧
        (writeFloors v).store.mem = writeHeader v.store.mem 1 0) ∧
    (v.store.op.isSome = true → (writeFloors v).store = v.store ∧ failed) := by
  intro value failed
  refine ⟨fun seg hop hactive hfits => ?_, fun seg hop hactive hfits => ⟨fun hgen => ?_, fun hgen => ?_⟩,
    fun hop hactive => ?_, fun hop => ?_⟩
  · rw [writeFloors_of_idle hop, startUserWrite_fits _ _ hactive hfits]
  · rw [writeFloors_of_idle hop, startUserWrite_compacts _ _ hactive hfits hgen]
    exact ⟨rfl, rfl⟩
  · have hfails : writeFloors v = failOp ⟨.write, seg, 0x04, 0x23, value, 0, 0⟩ .full seg v :=
      (writeFloors_of_idle hop).trans (startUserWrite_exhausted _ _ hactive hfits hgen)
    obtain ⟨hstore, hdone⟩ := failOp_before (seg := seg) ⟨.write, seg, 0x04, 0x23, value, 0, 0⟩ .full hop
    show _ ∧ (_ → _ → Report.done 0x23 .storeFailed 7 ∈ (writeFloors v).host.reports)
    rw [hfails]
    exact ⟨hstore, hdone⟩
  · rw [writeFloors_of_idle hop, startUserWrite_inactive _ _ _ hactive]
    exact ⟨rfl, rfl⟩
  · show _ ∧ (_ → _ → Report.done 0x23 .storeFailed 7 ∈ (writeFloors v).host.reports)
    rw [writeFloors_of_busy hop]
    refine ⟨handReport_store _ _, fun hmask hroom => ?_⟩
    rw [handReport_queued _ _ (by exact hmask) (by omega)]
    exact List.mem_append_right _ (List.mem_singleton_self _)

end

/-- The write of the floors touches the store and the host link alone. -/
theorem writeFloors_leaves (v : State) : (writeFloors v).debris = v.debris ∧ (writeFloors v).drive = v.drive ∧
    (writeFloors v).gov = v.gov ∧ (writeFloors v).host.tx = v.host.tx := by
  unfold writeFloors startUserWrite
  split
  · exact ⟨handReport_debris _ _, handReport_drive _ _, handReport_gov _ _, handReport_host_tx _ _⟩
  · split
    · exact ⟨rfl, rfl, rfl, rfl⟩
    · split
      · exact ⟨rfl, rfl, rfl, rfl⟩
      · split
        · unfold failOp endOp storeFault
          exact ⟨by simp, by simp, by simp, by simp⟩
        · exact ⟨rfl, rfl, rfl, rfl⟩

/-! ### The success and the band timer (R91, R93, R94) -/

/-- The state of a successful calibration before its write (R93, R94). -/
def calibrationCommitted (k : FloorCal) (s : State) : State :=
  driveStop { s with debris := s.debris.commit k, gov := { s.gov with pHold := none } }

theorem calibrationSucceeded_eq (k : FloorCal) (s : State) :
    calibrationSucceeded k s = reportMove .calibration s (writeFloors (calibrationCommitted k s)) := rfl

theorem calibrationCommitted_debris (k : FloorCal) (s : State) :
    (calibrationCommitted k s).debris = { s.debris.commit k with
      windowTimer := (calibrationCommitted k s).debris.windowTimer, c := (calibrationCommitted k s).debris.c } :=
  driveStop_debris _

/-- What the success leaves (R93, R94). -/
theorem calibrationSucceeded_leaves (k : FloorCal) (s : State) :
    let t := settle (calibrationSucceeded k s)
    t.debris.cal = none ∧ t.debris.floors = none :: k.staged.map some ∧ t.debris.clearRef = k.candidate.getD 0 ∧
      t.drive.state.drives = false ∧ t.gov.pHold = none := by
  obtain ⟨hdebris, hdrive, hgov, -⟩ := writeFloors_leaves (calibrationCommitted k s)
  intro t
  have hd : t.debris = (calibrationCommitted k s).debris := by
    rw [settle_debris, calibrationSucceeded_eq, reportMove_debris, hdebris]
  have hm : t.drive = (calibrationCommitted k s).drive := by
    rw [settle_drive, calibrationSucceeded_eq, reportMove_drive, hdrive]
  have hg : t.gov.pHold = (calibrationCommitted k s).gov.pHold := by
    rw [settle_gov_pHold, calibrationSucceeded_eq, reportMove_gov, hgov]
  rw [hd, hm, hg, calibrationCommitted_debris]
  exact ⟨rfl, rfl, rfl, driveStop_drives _, driveStop_pHold rfl⟩

/-- The write that the success begins, or fails to begin (R94). -/
theorem calibrationSucceeded_store {k : FloorCal} {candidate : Option Nat} {staged : List Nat} (s : State)
    (hcandidate : k.candidate = candidate) (hstaged : k.staged = staged) :
    let t := settle (calibrationSucceeded k s)
    let value := u16 (candidate.getD 0) ++ staged.flatMap u16
    let failed := s.host.tx.isSome = true → s.host.mask.getLsbD 6 = true → s.host.reports.length < 7 →
      Report.done 0x23 .storeFailed 7 ∈ t.host.reports
    (∀ seg, s.store.op = none → s.store.active = some seg → s.store.fits seg value.length = true →
      t.store = { s.store with op := some ⟨.write, seg, 0x04, 0x23, value, 0, 0⟩ }) ∧
    (∀ seg, s.store.op = none → s.store.active = some seg → s.store.fits seg value.length = false →
      (segHeader s.store.mem seg ≠ 65534 → t.store.op = some
          ⟨.compaction, seg % 3 + 1, 0x04, 0x23, value, 1, segHeader s.store.mem seg + 1⟩ ∧
        t.store.mem = writeHeader s.store.mem (seg % 3 + 1) 0) ∧
      (segHeader s.store.mem seg = 65534 → t.store = s.store ∧ failed)) ∧
    (s.store.op = none → s.store.active = none →
      t.store.op = some ⟨.compaction, 1, 0x04, 0x23, value, 1, 1⟩ ∧ t.store.mem = writeHeader s.store.mem 1 0) ∧
    (s.store.op.isSome = true → t.store = s.store ∧ failed) := by
  intro t value failed
  have hstore : t.store = (writeFloors (calibrationCommitted k s)).store := by
    rw [settle_store, calibrationSucceeded_eq, reportMove_store]
  have hkept : (calibrationCommitted k s).store = s.store := driveStop_store _
  have hhost : (calibrationCommitted k s).host = s.host := driveStop_host _
  have hvalue : floorBytes (calibrationCommitted k s).debris = value := by
    rw [calibrationCommitted_debris]
    exact (floorBytes_commit s.debris k).trans (by rw [hcandidate, hstaged])
  obtain ⟨-, -, -, htx⟩ := writeFloors_leaves (calibrationCommitted k s)
  have hreport : (s.host.mask.getLsbD 6 = true → s.host.reports.length < 7 →
      Report.done 0x23 .storeFailed 7 ∈ (writeFloors (calibrationCommitted k s)).host.reports) → failed := by
    intro h hbusy hmask hroom
    rw [settle_reports_of_busy (by rw [calibrationSucceeded_eq, reportMove_host_tx, htx, hhost]; exact hbusy)]
    exact reportMove_mem (h hmask hroom)
  obtain ⟨hwrites, hcompacts, hfirst, hbusy⟩ := writeFloors_store (calibrationCommitted k s)
  rw [hvalue, hkept] at hwrites hfirst
  rw [hvalue, hkept, hhost] at hcompacts
  rw [hkept, hhost] at hbusy
  rw [hstore]
  refine ⟨hwrites, fun seg hop hactive hfits => ?_, hfirst, fun hop => ?_⟩
  · obtain ⟨hbegins, hfull⟩ := hcompacts seg hop hactive hfits
    exact ⟨hbegins, fun hgen => ⟨(hfull hgen).1, hreport (hfull hgen).2⟩⟩
  · exact ⟨(hbusy hop).1, hreport (hbusy hop).2⟩

theorem exec_bandTimerExpiry {s : State} {k : FloorCal} (hpower : s.ctl.power ≠ .ship) (hcal : s.debris.cal = some k)
    (hphase : k.phase = .seeking) (htimer : k.bandTimer.isSome = true) :
    exec .bandTimerExpiry s = .next (settle (bandExpired s)) := by
  have hoccurs : s.bandTimed = true := by
    unfold State.bandTimed
    rw [hcal]
    exact Bool.and_eq_true_iff.mpr ⟨decide_eq_true hphase, htimer⟩
  exact event_occurs (f := bandExpired) hoccurs hpower

/-- The state of a calibration that the band timer ends, before its window is judged (R93). -/
def calibrationTimedOut (s : State) : State := driveStop (endCalibration .noSpeed s)

theorem endCalibration_debris {r : DoneResult} {s : State} (h : s.debris.cal.isSome = true) :
    (endCalibration r s).debris = { s.debris with cal := none } := by
  rw [(endCalibration_reported h).state]

theorem endCalibration_pHold {r : DoneResult} {s : State} (h : s.debris.cal.isSome = true) :
    (endCalibration r s).gov.pHold = none := by
  rw [(endCalibration_reported h).state]

/-- The end keeps the drive and the governor's figures, whatever becomes of the window. -/
theorem bandExpired_leaves (s : State) : (bandExpired s).drive = (calibrationTimedOut s).drive ∧
    (bandExpired s).gov = (calibrationTimedOut s).gov ∧
    (s.debris.windowTimer ≠ some s.ctl.partTime → (bandExpired s).debris = (calibrationTimedOut s).debris) ∧
    (s.debris.windowTimer = some s.ctl.partTime → (bandExpired s).debris
      = { (calibrationTimedOut s).debris.calibrationLeft with
          c := s.debris.c, windowTimer := some s.ctl.partTime }) := by
  have hmoved : ∀ u, (reportMove .calibration s u).drive = u.drive ∧ (reportMove .calibration s u).gov = u.gov ∧
      (reportMove .calibration s u).debris = u.debris := fun u =>
    ⟨reportMove_drive _ _ _, reportMove_gov _ _ _, reportMove_debris _ _ _⟩
  obtain ⟨hdrive, hgov, hdebris⟩ := hmoved (keepWindow s (calibrationTimedOut s))
  have hband : bandExpired s = reportMove .calibration s (keepWindow s (calibrationTimedOut s)) := rfl
  rw [hband, hdrive, hgov, hdebris]
  by_cases hdue : s.debris.windowTimer = some s.ctl.partTime
  · have hkept : keepWindow s (calibrationTimedOut s) = reportDirt (calibrationTimedOut s) { calibrationTimedOut s with
        debris := { (calibrationTimedOut s).debris.calibrationLeft with
          c := s.debris.c, windowTimer := some s.ctl.partTime } } := if_pos hdue
    rw [hkept, reportDirt_drive, reportDirt_gov, reportDirt_debris]
    exact ⟨rfl, rfl, fun h => absurd hdue h, fun _ => rfl⟩
  · have hkept : keepWindow s (calibrationTimedOut s) = calibrationTimedOut s := if_neg hdue
    rw [hkept]
    exact ⟨rfl, rfl, fun _ => rfl, fun h => absurd h hdue⟩

/-- The debris record after the band timer's end: with the drive in RUN a window due at the instant stays due, for the
dirt reading, and another one goes (R91, R93; log 51). -/
theorem bandExpired_debris {s : State} (hcal : s.debris.cal.isSome = true) :
    let x := (bandExpired s).debris
    x.cal = none ∧ x.floors = s.debris.floors ∧ x.clearRef = s.debris.clearRef ∧
      (s.drive.state = .run → s.debris.windowTimer = some s.ctl.partTime →
        x = { s.debris with cal := none, s := 0, d := none, dirtyLogged := false }) ∧
      (s.drive.state = .run → s.debris.windowTimer ≠ some s.ctl.partTime →
        x = { s.debris with cal := none, windowTimer := none, c := 0 }) := by
  obtain ⟨-, -, hleft, hkept⟩ := bandExpired_leaves s
  have hended := endCalibration_debris (r := .noSpeed) hcal
  have hstopped : (calibrationTimedOut s).debris = { s.debris with
      cal := none, windowTimer := (calibrationTimedOut s).debris.windowTimer
      c := (calibrationTimedOut s).debris.c } := by
    conv => lhs; rw [calibrationTimedOut, driveStop_debris, hended]
    rfl
  by_cases hdue : s.debris.windowTimer = some s.ctl.partTime
  · rw [hkept hdue, hstopped]
    refine ⟨rfl, rfl, rfl, fun _ _ => ?_, fun _ hnot => absurd hdue hnot⟩
    rw [← hdue]
    rfl
  · rw [hleft hdue]
    have hsame : (calibrationTimedOut s).debris.cal = none ∧ (calibrationTimedOut s).debris.floors = s.debris.floors ∧
        (calibrationTimedOut s).debris.clearRef = s.debris.clearRef := by
      rw [hstopped]
      exact ⟨rfl, rfl, rfl⟩
    obtain ⟨hnone, hfloors, hclear⟩ := hsame
    refine ⟨hnone, hfloors, hclear, fun _ h => absurd h hdue, fun hrun _ => ?_⟩
    rw [calibrationTimedOut, driveStop_debris_run (by rw [endCalibration_drive]; exact hrun), hended]

/-- Settles O49: the start, the windows in SEEKING and in COUNTING, the success, and the band timer. -/
theorem calibrationRuns : Obligations.CalibrationRuns := by
  refine ⟨fun s kind rest heads hrole => ?start, fun s _ hpower htimer _ => exec_piezoPulse hpower htimer,
    fun s k ledOff ledOn v hpower htimer hcal howner hphase hspeed hlo hhi => ?counts,
    fun s k ledOff ledOn hpower htimer hcal howner => ?windows,
    fun s k hpower hcal hphase htimer => ?ended⟩
  case start =>
    intro b denied
    have hdebris : s.debris = b.debris := (beginTaking_debris rest s).symm
    have hstore : s.store = b.store := (beginTaking_store rest s).symm
    have hstick : b.stick = s.stick := beginTaking_stick rest s
    have hprot : b.prot = s.prot := beginTaking_prot rest s
    have hdenied : denied ↔ calibrationDenied b := by
      unfold calibrationDenied
      rw [hstick, hprot, show b.drive = s.drive from beginTaking_drive rest s]
    rw [hdebris, hstore, hdenied]
    refine ⟨fun hbusy => ?_, fun hcal hop hdeny => ?_, fun hcal hop hfree => ?_⟩
    · exact request_acts_refused (r := .busy) (q := calibrateFloorSpec) heads rfl rfl (accepts_stick hrole rfl) rfl rfl
        (calibrateFloorSpec_act_busy [] hbusy)
    · exact request_acts_refused (r := .denied) (q := calibrateFloorSpec) heads rfl rfl (accepts_stick hrole rfl) rfl rfl
        (calibrateFloorSpec_act_denied [] hcal hop hdeny)
    · refine ⟨_, request_acts_accepted (q := calibrateFloorSpec) heads rfl rfl (accepts_stick hrole rfl) rfl rfl
        (calibrateFloorSpec_act_starts [] hcal hop hfree), ?_⟩
      have hbrole : b.ctl.role = .stick := (beginTaking_ctl_role rest s).trans hrole
      have hstarted := (startCalibration_reported (heads_active heads) hbrole hfree).state
      simp only [calibrationDenied, not_or, Classical.not_not] at hfree
      obtain ⟨-, hmode, -, -⟩ := hfree
      rw [hstarted]
      exact ⟨rfl, rfl, rfl, hmode, rfl, rfl,
        congrArg (fun time => some (time + 40)) (beginTaking_ctl_partTime rest s), rfl, hprot, hstick, rfl⟩
  case counts =>
    intro diff count diffs floor candidate due
    have hin : inBand s.drive.speed k.target = true := (inBand_iff _ _).mpr ⟨v, hspeed, hlo, hhi⟩
    have hexec : exec (.debrisWindow ledOff ledOn) s
        = .next (settle (countWindow s.debris.c diff k (windowTaken s))) := by
      rw [exec_debrisWindow ledOff ledOn hpower htimer, windowEnds_calibration ledOff ledOn hcal howner,
        calibrationWindow_counting _ _ hphase]
      rfl
    rw [hexec]
    refine ⟨fun hfew => ?_, fun hfull hband => ?_, fun hfull hband => ⟨_, rfl, ?_⟩⟩
    · rw [countWindow_counts _ _ (s := windowTaken s) hin hfew]
      rfl
    · rw [countWindow_full _ _ (s := windowTaken s) hin hfull, if_neg hband]
      rfl
    · rw [countWindow_full _ _ (s := windowTaken s) hin hfull, if_pos hband]
      obtain ⟨hnone, hfloors, hclear, hdrives, hhold⟩ :=
        calibrationSucceeded_leaves (k.count s.debris.c diff).stage (windowTaken s)
      exact ⟨hnone, hfloors, hclear, hdrives, hhold, calibrationSucceeded_store
        (k := (k.count s.debris.c diff).stage) (candidate := candidate) (staged := k.staged ++ [floor]) (windowTaken s)
        rfl rfl⟩
  case windows =>
    intro held due leaves
    have hin : inBand s.drive.speed k.target = true ↔ held := inBand_iff _ _
    have hout : ¬ held → inBand s.drive.speed k.target = false := fun h => Bool.eq_false_iff.mpr fun ht => h (hin.mp ht)
    have hexec : exec (.debrisWindow ledOff ledOn) s
        = .next (settle (calibrationWindow s.debris.c (beamDiff ledOff ledOn) k (windowTaken s))) := by
      rw [exec_debrisWindow ledOff ledOn hpower htimer, windowEnds_calibration ledOff ledOn hcal howner]
    refine ⟨fun hphase => ?_, fun hphase hleft => ?_⟩
    · have hleaves : ∀ after, seekWindow s.ctl.partTime s.drive.speed k = after → leaves after := fun after h => by
        show exec (.debrisWindow ledOff ledOn) s = _
        rw [hexec, calibrationWindow_seeking _ _ hphase]
        exact congrArg (fun k => Host.Outcome.next (settle (setCalibration k (windowTaken s)))) h
      obtain ⟨hclears, hsets, hwaits, hsettles⟩ := seekWindow_judges s.ctl.partTime s.drive.speed k
      exact ⟨fun h => hleaves _ (hclears (hout h)), fun h hnew => hleaves _ (hsets (hin.mpr h) hnew),
        fun t0 h ht hwait => hleaves _ (hwaits t0 (hin.mpr h) ht hwait),
        fun t0 h ht hdone => hleaves _ (hsettles t0 (hin.mpr h) ht hdone)⟩
    · show exec (.debrisWindow ledOff ledOn) s = _
      rw [hexec, calibrationWindow_counting _ _ hphase, countWindow_leaves _ _ (s := windowTaken s) (hout hleft)]
      rfl
  case ended =>
    have hsome : s.debris.cal.isSome = true := by rw [hcal]; rfl
    obtain ⟨hdrive, hgov, -, -⟩ := bandExpired_leaves s
    obtain ⟨hnone, hfloors, hclear, hwaits, hstops⟩ := bandExpired_debris hsome
    refine ⟨_, exec_bandTimerExpiry hpower hcal hphase htimer, ?_⟩
    rw [settle_debris, settle_drive, settle_gov_pHold, hdrive, hgov]
    exact ⟨hnone, driveStop_pHold (endCalibration_pHold hsome), driveStop_drives _,
      fun hdrives => driveStop_coasts (by rw [endCalibration_drive]; exact hdrives), hstops, hwaits, hfloors, hclear⟩

end Sys2Proof.Machine

/-! A governor period (chapter 2): its stages in either role, the duty, the hand-overs, and what they leave. -/

namespace Sys2Proof.Machine

open Sys2Proof

/-! ### Stages 1 to 5 in STICK role (R29 to R35, R41) -/

/-- The allowance that a period computes (R29). -/
def periodAllowance (s : State) : Nat :=
  allowanceOf s.gov.limits.discharge (factorsOf s.pack.record) s.prot.dischargeOk

/-- The mean bus current that a period takes, in mA as P_meas has it (R13, R35). -/
def periodCurrent (s : State) : Nat := motorCurrent (busMean s.gov.busSamples)

/-- The demand of a period in STICK role (R30, R41). -/
def periodDemand (s : State) : Nat := s.stickDemand s.heldPower

/-- The available power of a period in STICK role (R35). -/
def periodAvailable (s : State) : Nat := powerAt s.packVoltage (suctionGrant (periodAllowance s) s.rollDemand)

/-- The measured power of a period in STICK role (R35). -/
def periodMeasured (s : State) : Nat := powerAt (s.gov.vStart.or s.packVoltage) (periodCurrent s)

/-- The governor after the first five stages of a period in STICK role. -/
def stickGov (s : State) : Gov :=
  { s.gov with
    allowance := some (periodAllowance s), fTp := some (factorsOf s.pack.record).tp
    fV := some (factorsOf s.pack.record).v, fTb := some (factorsOf s.pack.record).tb
    row1 := ⟨.overhead, 150, overheadGrant (periodAllowance s), some s.ctl.partTime⟩
    row2 := ⟨.roll, s.rollDemand, rollGrant (periodAllowance s) s.rollDemand, some s.ctl.partTime⟩
    row3 := ⟨.suction, suctionDemand (periodDemand s) s.packVoltage, suctionGrant (periodAllowance s) s.rollDemand,
      some s.ctl.partTime⟩
    rollDuty := rollDuty (s.dutyInForce.getD 0) (rollGrant (periodAllowance s) s.rollDemand) s.rollDemand
    pDem := periodDemand s, pAv := periodAvailable s, pCmd := min (periodDemand s) (periodAvailable s)
    pMeas := periodMeasured s, e := powerError (min (periodDemand s) (periodAvailable s)) (periodMeasured s)
    pHold := s.heldPower, busSamples := CurrentSum.empty, rollSamples := CurrentSum.empty }

theorem governorStages_inStick (readings : List ChargerReadings) {s : State} (hrole : s.ctl.role = .stick) :
    governorStages readings s = { s with
      drive := { s.drive with busCurrent := busMean s.gov.busSamples }
      roll := { s.roll with current := meanReading s.gov.rollSamples }, gov := stickGov s } := by
  have hbase : (rollTakeMean (driveTakeMean s)).ctl.role = .stick := hrole
  unfold governorStages
  rw [hrole]
  dsimp only
  unfold recomputeAllowance
  rw [hbase]
  rfl

theorem powerAt_eq (v : Option Reading) (mA : Nat) : powerAt v mA = Spec.milliwatts v mA := by
  unfold powerAt Spec.milliwatts
  rcases v with _ | v
  · rfl
  · cases v <;> rfl

theorem rollDemand_eq (s : State) : s.rollDemand = match s.matched with
    | some e => if s.drive.state = .run ∧ 0 < e.rollDuty ∧ s.debris.cal = none ∧ s.roll.state.held = false
        then e.rollCap else 0
    | none => 0 := by
  unfold State.rollDemand State.rollWanted State.rollEntry
  cases s.matched with
  | none => simp
  | some e => simp [and_assoc]

theorem rollDuty_eq (s : State) (grant : Nat) : rollDuty (s.dutyInForce.getD 0) grant s.rollDemand = match s.matched with
    | some e => if s.rollDemand = 0 then 0 else e.rollDuty * grant / s.rollDemand
    | none => 0 := by
  unfold rollDuty State.dutyInForce
  cases s.matched with
  | none => simp
  | some e => rfl

/-- The figures of a period that stages 6 to 8 leave: the grant table, the roll duty, the powers and the allowance. -/
structure FiguresKept (g x : Gov) : Prop where
  row1 : x.row1 = g.row1
  row2 : x.row2 = g.row2
  row3 : x.row3 = g.row3
  rollDuty : x.rollDuty = g.rollDuty
  pDem : x.pDem = g.pDem
  pAv : x.pAv = g.pAv
  pCmd : x.pCmd = g.pCmd
  pMeas : x.pMeas = g.pMeas
  e : x.e = g.e
  allowance : x.allowance = g.allowance
  samples : g.busSamples = CurrentSum.empty → x.busSamples = CurrentSum.empty

theorem FiguresKept.refl (g : Gov) : FiguresKept g g := ⟨rfl, rfl, rfl, rfl, rfl, rfl, rfl, rfl, rfl, rfl, id⟩

theorem FiguresKept.trans {g x y : Gov} (h : FiguresKept g x) (k : FiguresKept x y) : FiguresKept g y :=
  ⟨k.row1.trans h.row1, k.row2.trans h.row2, k.row3.trans h.row3, k.rollDuty.trans h.rollDuty, k.pDem.trans h.pDem,
    k.pAv.trans h.pAv, k.pCmd.trans h.pCmd, k.pMeas.trans h.pMeas, k.e.trans h.e, k.allowance.trans h.allowance,
    k.samples ∘ h.samples⟩

section
variable {s : State} {x : Gov}

/-- The grant table of a period in STICK role (R32, R33). -/
theorem stickGov_grants (h : FiguresKept (stickGov s) x) :
    x.row2.consumer = .roll ∧ x.row3.consumer = .suction ∧ x.allowance = some (periodAllowance s) ∧
      x.row2.grant + x.row3.grant = x.allowance.getD 0 - 150 ∧
      (s.prot.dischargeOk = false → x.row2.grant = 0 ∧ x.row3.grant = 0) ∧
      x.row1.demand = 150 ∧ x.row1.grant = (if x.allowance.getD 0 < 150 then 0 else 150) ∧
      x.row2.demand = s.rollDemand ∧ x.row2.grant = min x.row2.demand (x.allowance.getD 0 - 150) ∧
      x.rollDuty = Machine.rollDuty (s.dutyInForce.getD 0) x.row2.grant s.rollDemand := by
  rw [h.row1, h.row2, h.row3, h.allowance, h.rollDuty]
  refine ⟨rfl, rfl, rfl, ?_, fun hno => ?_, rfl, rfl, rfl, rfl, rfl⟩
  · exact Nat.add_sub_cancel' (Nat.min_le_right _ _)
  · have hzero : periodAllowance s = 0 := by
      unfold periodAllowance allowanceOf
      rw [hno]
      rfl
    show rollGrant (periodAllowance s) s.rollDemand = 0 ∧ suctionGrant (periodAllowance s) s.rollDemand = 0
    rw [hzero]
    exact ⟨Nat.min_zero _, Nat.zero_sub _⟩

/-- The power figures of a period in STICK role (R30, R31, R35). -/
theorem stickGov_powers (h : FiguresKept (stickGov s) x) :
    (∀ v : Nat, 0 < v → s.pack.record.map PackRecord.packV = some (.num v) → x.row3.demand = x.pDem * 1000 / v) ∧
      (s.drive.owner ≠ .calibration → x.pDem = s.modeDemand) ∧
      (s.drive.owner = .calibration → x.pDem = s.heldPower.getD 0) ∧
      x.pAv = Spec.milliwatts (s.pack.record.map PackRecord.packV) x.row3.grant ∧
      x.pMeas = Spec.milliwatts (s.gov.vStart.or (s.pack.record.map PackRecord.packV)) (periodCurrent s) := by
  rw [h.row3, h.pDem, h.pAv, h.pMeas]
  refine ⟨fun v hv hpack => ?_, fun howner => if_neg howner, fun howner => if_pos howner, powerAt_eq _ _, powerAt_eq _ _⟩
  show suctionDemand (periodDemand s) (s.pack.record.map PackRecord.packV) = _
  rw [hpack]
  exact if_neg (by omega)

end

/-! ### Stages 1 to 5 in DOCK role (R34, R35, R141, R143) -/

/-- What the charger's judgement of a period leaves (R147). -/
structure FaultsLeave (s u : State) : Prop where
  drive : u.drive = s.drive
  gov : u.gov = s.gov
  debris : u.debris = s.debris
  evac : u.evac = s.evac
  evacSet : u.evacSet = s.evacSet
  role : u.ctl.role = s.ctl.role
  time : u.ctl.partTime = s.ctl.partTime
  record : u.pack.record = s.pack.record
  govSat : u.host.govSat = s.host.govSat
  budget : u.charger.budget = s.charger.budget
  vOut : u.charger.vOut = s.charger.vOut
  supply : u.charger.supply = s.charger.supply
  needLimit : u.charger.needLimit = s.charger.needLimit
  iOut : u.charger.state.switches = true → s.charger.state.switches = true ∧ u.charger.iOut = s.charger.iOut
  rests : s.charger.state.switches = false → u.charger = s.charger

theorem Charger.enterFault_keeps (c : Charger) (cause : ChargerFault) (now due : Ms) :
    (c.enterFault cause now due).budget = c.budget ∧ (c.enterFault cause now due).vOut = c.vOut ∧
      (c.enterFault cause now due).supply = c.supply ∧ (c.enterFault cause now due).needLimit = c.needLimit := by
  unfold Charger.enterFault
  dsimp only
  split <;> exact ⟨rfl, rfl, rfl, rfl⟩

theorem chargerFault_leaves (cause : ChargerFault) {s : State} (hsw : s.charger.state.switches = true) :
    FaultsLeave s (chargerFault cause s) := by
  have hcharger := chargerFault_charger cause s
  obtain ⟨hbudget, hvOut, hsupply, hlimit⟩ := Charger.enterFault_keeps s.charger cause s.ctl.partTime (s.ctl.partTime + 5000)
  have hfault := (Charger.enterFault_leaves s.charger cause s.ctl.partTime (s.ctl.partTime + 5000)).1
  refine ⟨by simp [chargerFault], by simp [chargerFault], by simp [chargerFault], by simp [chargerFault],
    by simp [chargerFault], by simp [chargerFault], by simp [chargerFault], by simp [chargerFault],
    by simp [chargerFault], by rw [hcharger, hbudget], by rw [hcharger, hvOut], by rw [hcharger, hsupply],
    by rw [hcharger, hlimit], fun h => ?_, fun h => ?_⟩
  · rw [hcharger, hfault] at h
    cases h
  · rw [hsw] at h
    cases h

theorem evaluateFaults_leaves (s : State) : FaultsLeave s (evaluateFaults s) := by
  by_cases hsw : s.charger.state.switches = true
  · cases hfound : faultFound (ovpJudged s).2 (ocpJudged s).2 (supplyLow s.charger.supply) with
    | none =>
      rw [evaluateFaults_clears hsw hfound]
      exact ⟨rfl, rfl, rfl, rfl, rfl, rfl, rfl, rfl, rfl, rfl, rfl, rfl, rfl, fun _ => ⟨hsw, rfl⟩,
        fun h => absurd hsw (by rw [h]; decide)⟩
    | some cause =>
      rw [evaluateFaults_finds hsw hfound]
      obtain ⟨hdrive, hgov, hdebris, hevac, hset, hrole, htime, hrecord, hsat, hbudget, hvOut, hsupply, hlimit, hiOut,
        -⟩ := chargerFault_leaves cause (s := faultsTimed s) hsw
      exact ⟨hdrive, hgov, hdebris, hevac, hset, hrole, htime, hrecord, hsat, hbudget, hvOut, hsupply, hlimit, hiOut,
        fun h => absurd hsw (by rw [h]; decide)⟩
  · have hstill : evaluateFaults s = s := if_neg hsw
    rw [hstill]
    exact ⟨rfl, rfl, rfl, rfl, rfl, rfl, rfl, rfl, rfl, rfl, rfl, rfl, rfl, fun h => ⟨h, rfl⟩, fun _ => rfl⟩

section
variable (readings : List ChargerReadings) {s : State}

/-- The supply split of a period, from the budget, the fan's demand and the mean output voltage. -/
theorem periodSplit_eq (s : State) : periodSplit readings s
    = splitOf s.charger.budget s.fanDemand (Spec.meanVoltage (readings.map ChargerReadings.vOut) s.charger.vOut) := by
  have hleft := evaluateFaults_leaves (meansTaken readings s)
  have hdemand : (evaluateFaults (meansTaken readings s)).fanDemand = s.fanDemand := by
    unfold State.fanDemand
    rw [hleft.evac, hleft.evacSet]
    rfl
  unfold periodSplit
  rw [hleft.budget, hdemand, hleft.vOut]
  exact congrArg (splitOf s.charger.budget s.fanDemand) (chargerMeans_spec readings s.charger).1

/-- The grant table and the figures of a period in DOCK role (R34, R35). -/
def dockFilled (g : Gov) (split : Split) (measured : Nat) (now : Ms) : Gov :=
  (g.fill ⟨.overhead, 2000, 2000, some now⟩ ⟨.fan, split.fanDemand, split.fanGrant, some now⟩
    ⟨.charger, 0, split.allowance, some now⟩).figures split.fanDemand split.fanGrant measured

/-- The governor after the first five stages of a period in DOCK role. -/
def dockGov (s : State) : Gov :=
  dockFilled { s.gov with busSamples := CurrentSum.empty } (periodSplit readings s)
    ((Spec.meanVoltage (readings.map ChargerReadings.supply) s.charger.supply).getD 0 * periodCurrent s / 1000)
    s.ctl.partTime

/-- Regulation leaves the readings and the budget, and keeps a stage from switching that does not switch. -/
theorem Charger.regulate_reads (c : Charger) (cap age : Nat) (now : Ms) :
    (c.regulate cap age now).vOut = c.vOut ∧ (c.regulate cap age now).supply = c.supply ∧
    (c.regulate cap age now).iOut = c.iOut ∧ (c.regulate cap age now).budget = c.budget ∧
    (c.regulate cap age now).state.switches = c.state.switches := by
  unfold Charger.regulate Charger.goTo
  cases h : c.state with
  | off | fault => exact ⟨rfl, rfl, rfl, rfl, congrArg ChargerState.switches h⟩
  | softstart | cc | cv =>
    dsimp only
    split <;> exact ⟨rfl, rfl, rfl, rfl, rfl⟩

/-- The state of a period in DOCK role after the charger's part (R141, R143 to R147). -/
def chargerTaken (s : State) : State := chargerPeriod (chargerMeans readings s.charger) (driveTakeMean s)

theorem chargerTaken_eq (s : State) : chargerTaken readings s = { evaluateFaults (meansTaken readings s) with
    charger := { (evaluateFaults (meansTaken readings s)).charger.regulate (periodSplit readings s).cap
        ((evaluateFaults (meansTaken readings s)).since (evaluateFaults (meansTaken readings s)).charger.enteredAt)
        (evaluateFaults (meansTaken readings s)).ctl.partTime with
      split := some (periodSplit readings s) } } := rfl

theorem governorStages_inDock (hrole : s.ctl.role = .dock) :
    governorStages readings s = { chargerTaken readings s with gov := dockGov readings s } := by
  have hleft := evaluateFaults_leaves (meansTaken readings s)
  obtain ⟨hvOut, hsupply, -, hbudget, -⟩ := Charger.regulate_reads (evaluateFaults (meansTaken readings s)).charger
    (periodSplit readings s).cap
    ((evaluateFaults (meansTaken readings s)).since (evaluateFaults (meansTaken readings s)).charger.enteredAt)
    (evaluateFaults (meansTaken readings s)).ctl.partTime
  have hsplit : splitOf (chargerTaken readings s).charger.budget (chargerTaken readings s).fanDemand
      (chargerTaken readings s).charger.vOut = periodSplit readings s := by
    rw [chargerTaken_eq]
    dsimp only
    rw [hvOut, hbudget]
    rfl
  have htime : (chargerTaken readings s).ctl.partTime = s.ctl.partTime := hleft.time
  have hmeasured : powerAt ((chargerTaken readings s).charger.supply.map (fun v => Reading.num v))
      (motorCurrent (chargerTaken readings s).drive.busCurrent)
      = (Spec.meanVoltage (readings.map ChargerReadings.supply) s.charger.supply).getD 0 * periodCurrent s / 1000 := by
    have hmean : (chargerTaken readings s).charger.supply
        = Spec.meanVoltage (readings.map ChargerReadings.supply) s.charger.supply :=
      hsupply.trans (hleft.supply.trans (chargerMeans_spec readings s.charger).2.1)
    have hcurrent : motorCurrent (chargerTaken readings s).drive.busCurrent = periodCurrent s :=
      congrArg (fun d => motorCurrent (Drive.busCurrent d)) hleft.drive
    rw [hmean, hcurrent]
    cases Spec.meanVoltage (readings.map ChargerReadings.supply) s.charger.supply with
    | none => simp [powerAt]
    | some v => simp [powerAt]
  have hgov : (chargerTaken readings s).gov = { s.gov with busSamples := CurrentSum.empty } := hleft.gov
  have hstages : governorStages readings s = { chargerTaken readings s with
      gov := dockFilled (chargerTaken readings s).gov (splitOf (chargerTaken readings s).charger.budget
        (chargerTaken readings s).fanDemand (chargerTaken readings s).charger.vOut)
        (powerAt ((chargerTaken readings s).charger.supply.map (fun v => Reading.num v))
          (motorCurrent (chargerTaken readings s).drive.busCurrent)) (chargerTaken readings s).ctl.partTime } := by
    unfold governorStages
    rw [hrole]
    rfl
  rw [hstages, hgov, hmeasured, hsplit, htime]
  rfl

end

/-- What the first five stages leave of the drive, the PI state and the pack, in either role. -/
structure Staged (s m : State) : Prop where
  drive : m.drive = { s.drive with busCurrent := busMean s.gov.busSamples }
  a : m.gov.a = s.gov.a
  residue : m.gov.residue = s.gov.residue
  prev : m.gov.prev = s.gov.prev
  limits : m.gov.limits = s.gov.limits
  duty : ∀ e lifted, dutyStep m.gov e lifted = dutyStep s.gov e lifted
  samples : m.gov.busSamples = CurrentSum.empty
  role : m.ctl.role = s.ctl.role
  record : m.pack.record = s.pack.record
  govSat : m.host.govSat = s.host.govSat

theorem governorStages_staged (readings : List ChargerReadings) (s : State) : Staged s (governorStages readings s) := by
  cases hrole : s.ctl.role with
  | stick =>
    rw [governorStages_inStick readings hrole]
    exact ⟨rfl, rfl, rfl, rfl, rfl, fun _ _ => rfl, rfl, rfl, rfl, rfl⟩
  | dock =>
    have hleft := evaluateFaults_leaves (meansTaken readings s)
    rw [governorStages_inDock readings hrole]
    exact ⟨hleft.drive, rfl, rfl, rfl, rfl, fun _ _ => rfl, rfl, hleft.role, hleft.record, hleft.govSat⟩

/-! ### Stages 6 to 8 (R13, R36, R38 to R41) -/

theorem FiguresKept.leaveRun (g : Gov) : FiguresKept g g.leaveRun := ⟨rfl, rfl, rfl, rfl, rfl, rfl, rfl, rfl, rfl, rfl, id⟩

theorem governorDuty_figures (first : Bool) (m : State) : FiguresKept m.gov (governorDuty first m).gov := by
  unfold governorDuty
  split
  · split <;> exact ⟨rfl, rfl, rfl, rfl, rfl, rfl, rfl, rfl, rfl, rfl, id⟩
  · exact ⟨rfl, rfl, rfl, rfl, rfl, rfl, rfl, rfl, rfl, rfl, id⟩

theorem noGrantCoast_figures (s : State) : FiguresKept s.gov (noGrantCoast s).gov := by
  have hgov : (noGrantCoast s).gov = (driveStop (endCalibration .noSpeed s)).gov := reportDrive_gov _ _
  have hended : FiguresKept s.gov (endCalibration .noSpeed s).gov := by
    rcases endCalibration_gov .noSpeed s with h | h <;> rw [h]
    · exact .refl _
    · exact ⟨rfl, rfl, rfl, rfl, rfl, rfl, rfl, rfl, rfl, rfl, id⟩
  rw [hgov]
  refine hended.trans ?_
  rcases driveStop_gov (endCalibration .noSpeed s) with h | h <;> rw [h]
  · exact .refl _
  · exact .leaveRun _

theorem handGrant_figures (grant : Nat) (s : State) : FiguresKept s.gov (handGrant grant s).gov := by
  by_cases hrun : s.drive.state = .run
  · rw [handGrant_running grant hrun]
    split
    · exact noGrantCoast_figures (grantCounted grant s)
    · exact .refl _
  · rw [handGrant_stopped grant hrun]
    exact .refl _

/-- The grant that the drive is handed: the suction grant, or the fan grant (R13). -/
def Gov.driveGrant (role : Role) (g : Gov) : Nat := if role = .stick then g.row3.grant else g.row2.grant

/-- The hand-overs leave the drive and the governor as the drive's own hand-over does. -/
theorem governorHands_leaves (u : State) :
    let v := handGrant (u.gov.driveGrant u.ctl.role) u
    (governorHands u).drive = v.drive ∧ (governorHands u).gov = v.gov ∧ (governorHands u).debris = v.debris ∧
      (governorHands u).pack = v.pack ∧ (governorHands u).ctl.role = v.ctl.role ∧
      (governorHands u).host.govSat = v.host.govSat := by
  intro v
  cases hrole : u.ctl.role with
  | stick =>
    have hv : v = handGrant u.gov.row3.grant u := by
      show handGrant (u.gov.driveGrant u.ctl.role) u = _
      rw [hrole]
      rfl
    have hacts := rollHandOver_acts u.gov.row2.grant u.gov.rollDuty v
    rw [governorHands_stick hrole, ← hv]
    exact ⟨hacts.drive, hacts.gov, hacts.debris, hacts.pack, hacts.role, hacts.govSat⟩
  | dock =>
    have hv : v = governorHands u := by
      show handGrant (u.gov.driveGrant u.ctl.role) u = _
      unfold governorHands
      rw [hrole]
      rfl
    rw [hv]
    exact ⟨rfl, rfl, rfl, rfl, rfl, rfl⟩

/-- The period up to its duty (R27). -/
def dutyMade (readings : List ChargerReadings) (s : State) : State :=
  governorDuty (s.holding && s.gov.pHold.isNone) (governorStages readings s)

/-- The period up to the grant that it hands the drive (R27). -/
def grantHanded (readings : List ChargerReadings) (s : State) : State :=
  handGrant ((governorStages readings s).gov.driveGrant s.ctl.role) (dutyMade readings s)

/-- The PI state, P_hold and the duty handed agree in two states. -/
structure DutyKept (g x : Gov) : Prop where
  a : x.a = g.a
  residue : x.residue = g.residue
  prev : x.prev = g.prev
  saturated : x.saturated = g.saturated
  pHold : x.pHold = g.pHold
  handed : x.handedDuty = g.handedDuty

theorem governorDuty_role (first : Bool) (m : State) : (governorDuty first m).ctl.role = m.ctl.role := by
  unfold governorDuty
  split
  · split <;> rfl
  · rfl

/-- What a period leaves, through the grant handed to the drive. -/
theorem governorPeriod_leaves (readings : List ChargerReadings) (s : State) :
    let t := settle (governorPeriod readings s)
    let v := grantHanded readings s
    t.drive = v.drive ∧ t.debris = v.debris ∧ t.pack.record = v.pack.record ∧ t.ctl.role = v.ctl.role ∧
      t.host.govSat = v.host.govSat ∧ DutyKept v.gov t.gov ∧ FiguresKept (governorStages readings s).gov t.gov := by
  intro t v
  have hstaged := governorStages_staged readings s
  have hfigures := governorDuty_figures (s.holding && s.gov.pHold.isNone) (governorStages readings s)
  have hv : v = handGrant ((dutyMade readings s).gov.driveGrant (dutyMade readings s).ctl.role) (dutyMade readings s) := by
    show handGrant ((governorStages readings s).gov.driveGrant s.ctl.role) _ = _
    unfold Gov.driveGrant
    rw [show (dutyMade readings s).ctl.role = s.ctl.role from (governorDuty_role _ _).trans hstaged.role,
      show (dutyMade readings s).gov.row2 = _ from hfigures.row2, show (dutyMade readings s).gov.row3 = _ from hfigures.row3]
  obtain ⟨hdrive, hgov, hdebris, hpack, hrole, hsat⟩ := governorHands_leaves (dutyMade readings s)
  rw [← hv] at hdrive hgov hdebris hpack hrole hsat
  have hkept : FiguresKept (governorStages readings s).gov (governorHands (dutyMade readings s)).gov := by
    rw [hgov, hv]
    exact hfigures.trans (handGrant_figures _ _)
  have hsamples : t.gov.busSamples = CurrentSum.empty := by
    rcases settle_samples (governorPeriod readings s) with ⟨h, -⟩ | ⟨-, h, -⟩
    · exact h.trans (hkept.samples hstaged.samples)
    · exact h
  refine ⟨(settle_drive _).trans hdrive, (settle_debris _).trans hdebris,
    (settle_pack_record _).trans (congrArg Pack.record hpack), (settle_ctl_role _).trans hrole,
    (settle_host_govSat _).trans hsat, ?_, ?_⟩
  · rw [← hgov]
    exact ⟨settle_gov_a _, settle_gov_residue _, settle_gov_prev _, settle_gov_saturated _, settle_gov_pHold _,
      settle_gov_handedDuty _⟩
  · exact ⟨(settle_gov_row1 _).trans hkept.row1, (settle_gov_row2 _).trans hkept.row2,
      (settle_gov_row3 _).trans hkept.row3, (settle_gov_rollDuty _).trans hkept.rollDuty,
      (settle_gov_pDem _).trans hkept.pDem, (settle_gov_pAv _).trans hkept.pAv, (settle_gov_pCmd _).trans hkept.pCmd,
      (settle_gov_pMeas _).trans hkept.pMeas, (settle_gov_e _).trans hkept.e,
      (settle_gov_allowance _).trans hkept.allowance, fun _ => hsamples⟩

/-! ### The duty of a period (R13, R36, R40, R41) -/

section
variable {readings : List ChargerReadings} {s : State}

theorem dutyMade_stopped (h : s.drive.state ≠ .run) : dutyMade readings s = holdPi (governorStages readings s) :=
  if_neg (by rw [(governorStages_staged readings s).drive]; exact h)

theorem dutyMade_running (h : s.drive.state = .run) : dutyMade readings s
    = if (s.holding && s.gov.pHold.isNone) = true then firstHold (governorStages readings s)
      else settleStep (dutyStep s.gov (governorStages readings s).gov.e (governorStages readings s).slewLifted)
        (governorStages readings s) := by
  have hstaged := governorStages_staged readings s
  rw [← hstaged.duty]
  exact if_pos (by rw [hstaged.drive]; exact h)

theorem dutyMade_steps (h : s.drive.state = .run) (hno : s.drive.owner ≠ .calibration ∨ s.gov.pHold.isSome = true) :
    dutyMade readings s
      = settleStep (dutyStep s.gov (governorStages readings s).gov.e (governorStages readings s).slewLifted)
        (governorStages readings s) := by
  rw [dutyMade_running h, if_neg]
  rw [Bool.and_eq_true, State.holding, Bool.and_eq_true]
  rintro ⟨⟨howner, -⟩, hnone⟩
  rcases hno with hno | hno
  · exact hno (of_decide_eq_true howner)
  · rw [Option.isNone_iff_eq_none.mp hnone] at hno
    cases hno

theorem dutyMade_first (h : s.drive.state = .run) (howner : s.drive.owner = .calibration) (hhold : s.gov.pHold = none) :
    dutyMade readings s = firstHold (governorStages readings s) := by
  rw [dutyMade_running h, if_pos]
  simp [State.holding, h, howner, hhold]

/-- In RUN the duty alone is written to the drive. -/
theorem dutyMade_drive (h : s.drive.state = .run) : ∃ held, (dutyMade readings s).drive
    = { s.drive with busCurrent := busMean s.gov.busSamples, heldDuty := held } := by
  have hwrites : ∀ held, { (governorStages readings s).drive with heldDuty := held }
      = { s.drive with busCurrent := busMean s.gov.busSamples, heldDuty := held } := fun held => by
    rw [(governorStages_staged readings s).drive]
  rw [dutyMade_running h]
  split
  · exact ⟨some (governorStages readings s).gov.prev, hwrites _⟩
  · exact ⟨some (dutyStep s.gov (governorStages readings s).gov.e (governorStages readings s).slewLifted).duty, hwrites _⟩

theorem dutyMade_state (h : s.drive.state = .run) : (dutyMade readings s).drive.state = .run := by
  obtain ⟨held, hdrive⟩ := dutyMade_drive (readings := readings) h
  rw [hdrive]
  exact h

/-- A period in which the drive stays in RUN writes the count of periods without a grant alone (R13). -/
theorem grantHanded_of_run (h : (grantHanded readings s).drive.state = .run) : grantHanded readings s
    = grantCounted ((governorStages readings s).gov.driveGrant s.ctl.role) (dutyMade readings s) :=
  handGrant_of_run h

/-- Fewer than ten periods in a row without a grant leave the drive in RUN (R13). -/
theorem grantHanded_stays (h : s.drive.state = .run)
    (hfew : (governorStages readings s).gov.driveGrant s.ctl.role = 0 → s.drive.zeroGrant < 9) :
    grantHanded readings s
      = grantCounted ((governorStages readings s).gov.driveGrant s.ctl.role) (dutyMade readings s) := by
  obtain ⟨held, hdrive⟩ := dutyMade_drive (readings := readings) h
  unfold grantHanded
  rw [handGrant_running _ (dutyMade_state h), if_neg]
  unfold grantCounted
  dsimp only
  rw [hdrive]
  dsimp only
  split
  · have := hfew ‹_›
    omega
  · decide

/-- The tenth period in a row without a grant takes the drive to COAST, and ends a floor calibration (R13, R95). -/
theorem grantHanded_coasts (h : s.drive.state = .run) (hnone : (governorStages readings s).gov.driveGrant s.ctl.role = 0)
    (hten : 9 ≤ s.drive.zeroGrant) : grantHanded readings s = noGrantCoast (grantCounted 0 (dutyMade readings s)) := by
  obtain ⟨held, hdrive⟩ := dutyMade_drive (readings := readings) h
  unfold grantHanded
  rw [hnone, handGrant_running _ (dutyMade_state h), if_pos]
  show 10 ≤ (if (0 : Nat) = 0 then (dutyMade readings s).drive.zeroGrant + 1 else 0)
  rw [if_pos rfl, hdrive]
  exact Nat.succ_le_succ hten

theorem noGrantCoast_leaves {u : State} (h : u.drive.state = .run) :
    (noGrantCoast u).drive = coastedRun u.ctl.partTime u.drive ∧ (noGrantCoast u).debris.cal = none := by
  unfold noGrantCoast
  rw [reportDrive_drive, reportDrive_debris, driveStop_cal, endCalibration_cal,
    driveStop_of_run (by rw [endCalibration_drive]; exact h), stopDriving_drive_run (by rw [endCalibration_drive]; exact h),
    endCalibration_drive, endCalibration_ctl]
  exact ⟨rfl, rfl⟩

theorem State.slewLifted_congr {u v : State} (hrole : v.ctl.role = u.ctl.role) (hrecord : v.pack.record = u.pack.record)
    (hallow : v.gov.allowance = u.gov.allowance) : v.slewLifted = u.slewLifted := by
  unfold State.slewLifted State.isStick State.allowance
  rw [hrole, hrecord, hallow]

/-- The slew bound is lifted after a period as it was when its duty was made. -/
theorem slewLifted_after (h : (grantHanded readings s).drive.state = .run) :
    (settle (governorPeriod readings s)).slewLifted = (governorStages readings s).slewLifted := by
  obtain ⟨-, -, hrecord, hrole, -, -, hfigures⟩ := governorPeriod_leaves readings s
  rw [grantHanded_of_run h] at hrecord hrole
  have hduty : (dutyMade readings s).pack.record = (governorStages readings s).pack.record ∧
      (dutyMade readings s).ctl.role = (governorStages readings s).ctl.role := by
    unfold dutyMade governorDuty
    split
    · split <;> exact ⟨rfl, rfl⟩
    · exact ⟨rfl, rfl⟩
  exact State.slewLifted_congr (hrole.trans hduty.2) (hrecord.trans hduty.1) hfigures.allowance

end

/-! ### The period timer (R26) -/

theorem settle_timer {u : State} {due : Ms} (h : u.gov.timer = some due) :
    (settle u).gov.timer = if (settle u).govRuns then some due else none := by
  unfold settle enterShipIfDrained
  split
  · rfl
  · have hruns : (startFrame (followTimers u)).govRuns = u.govRuns := by
      unfold State.govRuns
      simp [followTimers]
    rw [hruns, startFrame_gov]
    cases hr : u.govRuns with
    | true =>
      show (u.gov.follow u.govRuns _).timer = _
      rw [Gov.follow_runs _ _ hr, h]
      rfl
    | false =>
      show (u.gov.follow u.govRuns _).timer = _
      rw [Gov.follow_stopped _ _ hr]
      rfl

end Sys2Proof.Machine

/-! A governor period as the words have it (chapter 2). -/

namespace Sys2Proof.Machine

open Sys2Proof

/-- The setpoint of a stage that switches is within the cap (R145, R146). -/
theorem Charger.regulate_le (c : Charger) (cap age : Nat) (now : Ms) (h : c.state.switches = true) :
    (c.regulate cap age now).setpoint ≤ cap := by
  obtain ⟨hsoft, hfull, hcc, hcv⟩ := Charger.regulate_leaves c cap age now
  have hmin : min c.needLimit cap ≤ cap := Nat.min_le_right _ _
  cases hst : c.state with
  | softstart =>
    rcases Nat.lt_or_ge age 200 with hlt | hge
    · obtain ⟨-, -, hset⟩ := hsoft hst hlt
      rw [hset]
      refine Nat.le_trans (Nat.div_le_of_le_mul ?_) hmin
      rw [Nat.mul_comm 200]
      exact Nat.mul_le_mul_left _ (Nat.le_of_lt hlt)
    · obtain ⟨-, -, hset⟩ := hfull hst hge
      rw [hset]
      exact hmin
  | cc => exact Nat.le_trans (Nat.le_of_eq (hcc hst).1) hmin
  | cv => exact Nat.le_trans (Nat.le_of_eq (hcv hst).1) hmin
  | off | fault =>
    rw [hst] at h
    cases h

section
variable (readings : List ChargerReadings) (s : State)

/-! ### In both roles -/

/-- The command power, the power error and the rows' times, in either role (R32, R34, R35). -/
theorem governorStages_common :
    let g := (governorStages readings s).gov
    g.pCmd = min g.pDem g.pAv ∧ g.e = max (-600000) (min 500000 ((g.pCmd : Int) - g.pMeas)) ∧
      g.row1.consumer = .overhead ∧ g.row1.time = some s.ctl.partTime ∧ g.row2.time = some s.ctl.partTime ∧
      g.row3.time = some s.ctl.partTime := by
  cases hrole : s.ctl.role with
  | stick =>
    rw [governorStages_inStick readings hrole]
    exact ⟨rfl, rfl, rfl, rfl, rfl, rfl⟩
  | dock =>
    rw [governorStages_inDock readings hrole]
    exact ⟨rfl, rfl, rfl, rfl, rfl, rfl⟩

theorem governorPeriod_timer : (settle (governorPeriod readings s)).gov.timer
    = if (settle (governorPeriod readings s)).govRuns then some (s.ctl.partTime + 1) else none := by
  refine settle_timer (u := governorPeriod readings s) ?_
  have htime : (governorHands (dutyMade readings s)).ctl.partTime = s.ctl.partTime :=
    (((governorStages_kept readings s).trans (governorDuty_kept _ _)).trans (governorHands_kept _)).partTime
  exact congrArg (fun now : Ms => some (now + 1)) htime

theorem busMean_eq (c : CurrentSum) : busMean c
    = if c.above ∨ 45000 < c.sum / c.count then .above else .num (c.sum / c.count : Nat) := by
  unfold busMean meanReading
  by_cases hbig : 45000 < c.sum / c.count <;> by_cases habove : c.above = true <;> simp [hbig, habove]

/-- The mean bus current of the period is the drive's record, whatever the drive does with the grant (R13). -/
theorem governorPeriod_busCurrent :
    (settle (governorPeriod readings s)).drive.busCurrent = busMean s.gov.busSamples := by
  rw [(governorPeriod_leaves readings s).1]
  by_cases hrun : s.drive.state = .run
  · obtain ⟨held, hdrive⟩ := dutyMade_drive (readings := readings) hrun
    by_cases hstays : (governorStages readings s).gov.driveGrant s.ctl.role = 0 → s.drive.zeroGrant < 9
    · rw [grantHanded_stays hrun hstays]
      exact congrArg Drive.busCurrent hdrive
    · obtain ⟨hnone, hten⟩ := Classical.not_imp.mp hstays
      obtain ⟨hcoasted, -⟩ := noGrantCoast_leaves (u := grantCounted 0 (dutyMade readings s)) (dutyMade_state hrun)
      rw [grantHanded_coasts hrun hnone (Nat.not_lt.mp hten), hcoasted]
      exact congrArg Drive.busCurrent hdrive
  · unfold grantHanded
    rw [dutyMade_stopped hrun, handGrant_stopped _ (by rw [holdPi, (governorStages_staged readings s).drive]; exact hrun)]
    exact congrArg Drive.busCurrent (governorStages_staged readings s).drive

/-- Outside RUN the PI state is held at 0 and no duty is handed (R36). -/
theorem governorPeriod_stopped (h : s.drive.state ≠ .run) :
    let t := settle (governorPeriod readings s)
    t.gov.a = 0 ∧ t.gov.residue = 0 ∧ t.gov.prev = 0 ∧ t.gov.saturated = false ∧
      t.drive.heldDuty = s.drive.heldDuty ∧ t.drive.duty = s.drive.duty ∧ t.drive.state = s.drive.state := by
  intro t
  obtain ⟨hdrive, -, -, -, -, hduty, -⟩ := governorPeriod_leaves readings s
  have hstaged := governorStages_staged readings s
  have hv : grantHanded readings s = holdPi (governorStages readings s) := by
    unfold grantHanded
    rw [dutyMade_stopped h, handGrant_stopped _ (by rw [holdPi, hstaged.drive]; exact h)]
  rw [hv] at hdrive hduty
  have hd : t.drive = (governorStages readings s).drive := hdrive
  rw [hd, hstaged.drive]
  exact ⟨hduty.a, hduty.residue, hduty.prev, hduty.saturated, rfl, rfl, rfl⟩

/-- The duty step of a period in RUN (R38 to R40). -/
theorem governorPeriod_steps (h : s.drive.state = .run) (hno : s.drive.owner ≠ .calibration ∨ s.gov.pHold.isSome = true)
    (hstays : (settle (governorPeriod readings s)).drive.state = .run) :
    let t := settle (governorPeriod readings s)
    let r := dutyStep s.gov t.gov.e t.slewLifted
    t.gov.a = r.a ∧ t.gov.residue = r.residue ∧ t.gov.prev = r.duty ∧ t.gov.saturated = r.saturated ∧
      t.gov.handedDuty = r.duty ∧ t.drive.heldDuty = some r.duty ∧ t.host.govSat = (s.host.govSat || r.saturated) := by
  intro t r
  obtain ⟨hdrive, -, -, -, hsat, hduty, hfigures⟩ := governorPeriod_leaves readings s
  have hrun : (grantHanded readings s).drive.state = .run := by rw [← hdrive]; exact hstays
  have hr : r = dutyStep s.gov (governorStages readings s).gov.e (governorStages readings s).slewLifted := by
    show dutyStep s.gov t.gov.e t.slewLifted = _
    rw [hfigures.e, slewLifted_after hrun]
  rw [grantHanded_of_run hrun, dutyMade_steps h hno, ← hr] at hdrive hduty hsat
  refine ⟨hduty.a, hduty.residue, hduty.prev, hduty.saturated, hduty.handed, congrArg Drive.heldDuty hdrive, ?_⟩
  rw [hsat]
  show ((governorStages readings s).host.govSat || r.saturated) = _
  rw [(governorStages_staged readings s).govSat]

/-- The first period of a speed hold (R41). -/
theorem governorPeriod_firstHold (h : s.drive.state = .run) (howner : s.drive.owner = .calibration)
    (hhold : s.gov.pHold = none) (hstays : (settle (governorPeriod readings s)).drive.state = .run) :
    let t := settle (governorPeriod readings s)
    t.gov.pHold = some (min 500000 t.gov.pMeas) ∧ t.gov.a = s.gov.a ∧ t.gov.residue = s.gov.residue ∧
      t.gov.prev = s.gov.prev ∧ t.gov.saturated = false ∧ t.gov.handedDuty = s.gov.prev ∧
      t.drive.heldDuty = some s.gov.prev ∧ t.host.govSat = s.host.govSat := by
  intro t
  obtain ⟨hdrive, -, -, -, hsat, hduty, hfigures⟩ := governorPeriod_leaves readings s
  have hrun : (grantHanded readings s).drive.state = .run := by rw [← hdrive]; exact hstays
  have hstaged := governorStages_staged readings s
  rw [grantHanded_of_run hrun, dutyMade_first h howner hhold] at hdrive hduty hsat
  refine ⟨?_, hduty.a.trans hstaged.a, hduty.residue.trans hstaged.residue, hduty.prev.trans hstaged.prev,
    hduty.saturated, hduty.handed.trans hstaged.prev, ?_, hsat.trans hstaged.govSat⟩
  · rw [hfigures.pMeas]
    exact hduty.pHold
  · exact (congrArg Drive.heldDuty hdrive).trans (congrArg some hstaged.prev)

/-- The grant handed, among the figures left. -/
theorem governorPeriod_grant (t : State) (h : FiguresKept (governorStages readings s).gov t.gov) :
    (if s.ctl.role = .stick then t.gov.row3.grant else t.gov.row2.grant)
      = (governorStages readings s).gov.driveGrant s.ctl.role := by
  rw [h.row3, h.row2]
  rfl

/-- A period in RUN with fewer than ten in a row without a grant (R13). -/
theorem governorPeriod_stays (h : s.drive.state = .run)
    (hfew : (governorStages readings s).gov.driveGrant s.ctl.role = 0 → s.drive.zeroGrant < 9) :
    (settle (governorPeriod readings s)).drive.state = .run ∧ (settle (governorPeriod readings s)).drive.zeroGrant
      = if (governorStages readings s).gov.driveGrant s.ctl.role = 0 then s.drive.zeroGrant + 1 else 0 := by
  obtain ⟨held, hd⟩ := dutyMade_drive (readings := readings) h
  rw [(governorPeriod_leaves readings s).1, grantHanded_stays h hfew]
  refine ⟨(congrArg Drive.state hd).trans h, ?_⟩
  show (if (governorStages readings s).gov.driveGrant s.ctl.role = 0 then (dutyMade readings s).drive.zeroGrant + 1
    else 0) = _
  rw [hd]

/-- The tenth period in a row without a grant (R13, R95). -/
theorem governorPeriod_coasts (h : s.drive.state = .run)
    (hnone : (governorStages readings s).gov.driveGrant s.ctl.role = 0) (hten : 9 ≤ s.drive.zeroGrant) :
    let t := settle (governorPeriod readings s)
    t.drive.state = .coast ∧ t.drive.duty = 0 ∧ t.drive.owner = .none ∧ t.drive.mode = s.drive.mode ∧
      t.drive.lastRunDuty = s.drive.duty ∧ t.debris.cal = none := by
  intro t
  obtain ⟨hdrive, hdebris, -⟩ := governorPeriod_leaves readings s
  obtain ⟨held, hd⟩ := dutyMade_drive (readings := readings) h
  have hmode : (dutyMade readings s).drive.mode = s.drive.mode := by rw [hd]
  have hlast : (dutyMade readings s).drive.duty = s.drive.duty := by rw [hd]
  have hcoasts := grantHanded_coasts h hnone hten
  obtain ⟨hcoasted, hcal⟩ := noGrantCoast_leaves (u := grantCounted 0 (dutyMade readings s)) (dutyMade_state h)
  rw [hdrive, hdebris, hcoasts, hcal, hcoasted]
  exact ⟨rfl, rfl, rfl, hmode, hlast, rfl⟩

/-! ### In DOCK role (R141, R143) -/

variable {s}

/-- The charger's record after a period in DOCK role. -/
theorem governorPeriod_dockCharger (hrole : s.ctl.role = .dock) :
    let c := (settle (governorPeriod readings s)).charger
    c.vOut = Spec.meanVoltage (readings.map ChargerReadings.vOut) s.charger.vOut ∧
      c.supply = Spec.meanVoltage (readings.map ChargerReadings.supply) s.charger.supply ∧
      (s.charger.state.switches = false → c.iOut = .num 0) ∧
      (c.state.switches = true → c.iOut = Spec.meanCurrent readings s.charger.iOut) ∧
      c.split = some (periodSplit readings s) ∧
      (s.charger.state.switches = true → c.state.switches = true → c.setpoint ≤ (periodSplit readings s).cap) := by
  obtain ⟨hv, hsup, hi⟩ := chargerMeans_spec readings s.charger
  have hleft := evaluateFaults_leaves (meansTaken readings s)
  obtain ⟨hvOut, hsupply, hiOut, -, hswitches⟩ := Charger.regulate_reads (evaluateFaults (meansTaken readings s)).charger
    (periodSplit readings s).cap
    ((evaluateFaults (meansTaken readings s)).since (evaluateFaults (meansTaken readings s)).charger.enteredAt)
    (evaluateFaults (meansTaken readings s)).ctl.partTime
  have hsplit := periodSplit_eq readings s
  rw [settle_charger, governorPeriod_record hrole]
  refine ⟨hvOut.trans (hleft.vOut.trans hv), hsupply.trans (hleft.supply.trans hsup), fun hrests => ?_, fun hsw => ?_,
    rfl, fun _ hsw => ?_⟩
  · refine hiOut.trans ?_
    rw [hleft.rests hrests]
    exact if_neg (by rw [hrests]; decide)
  · obtain ⟨hbefore, hkept⟩ := hleft.iOut (hswitches.symm.trans hsw)
    exact hiOut.trans (hkept.trans ((if_pos hbefore).trans hi))
  · exact Charger.regulate_le _ _ _ _ (hswitches.symm.trans hsw)

end

section
variable (readings : List ChargerReadings) {s : State}

/-- The grant table, the powers and the split of a period in DOCK role (R34, R35, R141). -/
theorem dockGov_figures {x : Gov} (h : FiguresKept (dockGov readings s) x) :
    x.row2.consumer = .fan ∧ x.row3.consumer = .charger ∧ x.row1.demand = 2000 ∧ x.row1.grant = 2000 ∧
      x.row2.demand = s.fanDemand ∧ x.row2.grant = min x.row2.demand (s.charger.budget - 2000) ∧
      x.pDem = x.row2.demand ∧ x.pAv = x.row2.grant ∧
      x.pMeas = (Spec.meanVoltage (readings.map ChargerReadings.supply) s.charger.supply).getD 0 * periodCurrent s / 1000 ∧
      x.row3.grant = (s.charger.budget - 2000 - x.row2.grant) * 15 / 16 ∧
      x.row2.grant = (periodSplit readings s).fanGrant ∧ x.row3.grant = (periodSplit readings s).allowance := by
  rw [h.row1, h.row2, h.row3, h.pDem, h.pAv, h.pMeas]
  unfold dockGov
  rw [periodSplit_eq]
  exact ⟨rfl, rfl, rfl, rfl, rfl, rfl, rfl, rfl, rfl, rfl, rfl, rfl⟩

end

theorem meanCurrent_nil (before : Reading) : Spec.meanCurrent [] before = before := if_pos rfl

theorem meanCurrent_read {readings : List ChargerReadings} (h : readings ≠ []) (before : Reading) :
    Spec.meanCurrent readings before = if ∃ r ∈ readings, r.iOut = .above then .above
      else .num ((readings.map (fun r => (r.iOut.toInt?.getD 0).toNat)).sum / readings.length : Nat) := if_neg h

/-! ### The speed hold (R41) -/

theorem heldPower_none {s : State} (h : s.gov.pHold = none) : s.heldPower = none := by
  unfold State.heldPower
  rw [h]
  exact ite_self _

theorem heldPower_steps {s : State} {h : Nat} {k : FloorCal} (hrun : s.drive.state = .run)
    (howner : s.drive.owner = .calibration) (hhold : s.gov.pHold = some h) (hcal : s.debris.cal = some k) :
    s.heldPower = some (holdStep h k.target s.drive.speed) := by
  have hholding : s.holding = true := by
    unfold State.holding
    rw [howner, hrun]
    rfl
  unfold State.heldPower
  rw [if_pos hholding, hhold, hcal]
  rfl

/-- A later period of a speed hold leaves P_hold as its third stage found it. -/
theorem governorPeriod_pHold (readings : List ChargerReadings) {s : State} (hrole : s.ctl.role = .stick)
    (hrun : s.drive.state = .run) (hhold : s.gov.pHold.isSome = true)
    (hstays : (settle (governorPeriod readings s)).drive.state = .run) :
    (settle (governorPeriod readings s)).gov.pHold = s.heldPower := by
  obtain ⟨hdrive, -, -, -, -, hduty, -⟩ := governorPeriod_leaves readings s
  have hv : (grantHanded readings s).drive.state = .run := by rw [← hdrive]; exact hstays
  have hstage : (governorStages readings s).gov.pHold = s.heldPower := by rw [governorStages_inStick readings hrole]; rfl
  rw [grantHanded_of_run hv, dutyMade_steps hrun (.inr hhold)] at hduty
  exact hduty.pHold.trans hstage

/-- Settles O44: the figures in either role, the duty, the speed hold, and the periods without a grant. -/
theorem governorPeriodGrants : Obligations.GovernorPeriodGrants := by
  intro s readings hpower htimer vOut supply
  obtain ⟨-, -, -, -, -, -, hfigures⟩ := governorPeriod_leaves readings s
  obtain ⟨hcmd, herror, hoverhead, htime1, htime2, htime3⟩ := governorStages_common readings s
  have hbus := governorPeriod_busCurrent readings s
  refine ⟨settle (governorPeriod readings s), exec_governorPeriod readings hpower htimer, ?_⟩
  intro grant mA
  have hgrant : grant = (governorStages readings s).gov.driveGrant s.ctl.role := governorPeriod_grant readings s _ hfigures
  have hmA : mA = periodCurrent s := by
    show _ = motorCurrent (busMean s.gov.busSamples)
    rw [← hbus]
    simp only [mA]
    generalize (settle (governorPeriod readings s)).drive.busCurrent = r
    cases r <;> rfl
  refine ⟨governorPeriod_timer readings s, ?cmd, ?error, ?overhead, ?time1, ?time2, ?time3, fun hrole => ?stick,
    hfigures.samples (governorStages_staged readings s).samples, hbus.trans (busMean_eq _), fun hrole => ?dock,
    governorPeriod_stopped readings s, fun hrun howner hstick hdock => ?granted,
    fun hrun hstays hno => governorPeriod_steps readings s hrun hno hstays, fun hrole hrun howner => ?hold,
    fun hrun hnone hfew => ?counts, fun hrun hnone hten => ?coasts⟩
  case cmd => rw [hfigures.pCmd, hfigures.pDem, hfigures.pAv, hcmd]
  case error => rw [hfigures.e, hfigures.pCmd, hfigures.pMeas, herror]
  case overhead => rw [hfigures.row1, hoverhead]
  case time1 => rw [hfigures.row1, htime1]
  case time2 => rw [hfigures.row2, htime2]
  case time3 => rw [hfigures.row3, htime3]
  case stick =>
    have hstick : FiguresKept (stickGov s) (settle (governorPeriod readings s)).gov := by
      rw [governorStages_inStick readings hrole] at hfigures
      exact hfigures
    obtain ⟨hroll, hsuction, hallow, hsum, hzero, hdemand1, hgrant1, hdemand2, hgrant2, hrollDuty⟩ := stickGov_grants hstick
    obtain ⟨hdemand3, hmode, -, hav, hmeas⟩ := stickGov_powers hstick
    refine ⟨hroll, hsuction, hallow, hsum, hzero, hdemand1, hgrant1, hdemand2.trans (rollDemand_eq s), hgrant2, ?_,
      hdemand3, hmode, fun howner hauto => ?_, hav, ?_⟩
    · rw [hdemand2]
      exact hrollDuty.trans (rollDuty_eq s _)
    · rw [hmode howner, State.modeDemand, hauto]
    · rw [hmeas, hmA]
      cases s.gov.vStart <;> rfl
  case dock =>
    have hfilled : FiguresKept (dockGov readings s) (settle (governorPeriod readings s)).gov := by
      rw [governorStages_inDock readings hrole] at hfigures
      exact hfigures
    obtain ⟨hfan, hcharger, hdemand1, hgrant1, hdemand2, hgrant2, hdem, hav, hmeas, hgrant3, hfanGrant, hallowance⟩ :=
      dockGov_figures readings hfilled
    obtain ⟨hv, hsup, hrests, hreads, hsplit, hcap⟩ := governorPeriod_dockCharger readings hrole
    have hsplitEq := periodSplit_eq readings s
    refine ⟨hfan, hcharger, fun hb => ?_, hdemand1, hgrant1, hdemand2, hgrant2, hdem, hav, ?_, hv, hsup, hrests,
      fun hsw hempty => ?_, fun hsw hsome => (hreads hsw).trans (meanCurrent_read hsome _), fun hbudget => ?_, hgrant3,
      periodSplit readings s, hsplit, hfanGrant.symm, hallowance.symm, hcap, fun v hvOut => ?_, fun hvOut => ?_⟩
    · obtain ⟨hlimit, -, -⟩ := ((governorPeriod_kept readings s).trans (settle_kept _)).charger hb
      exact hlimit
    · rw [hmeas, hmA]
    · rw [hreads hsw, hempty, meanCurrent_nil]
    · rw [hgrant3, hgrant2]
      omega
    · rw [hallowance, hsplitEq]
      show chargerCap _ vOut = _
      rw [hvOut]
      rfl
    · rw [hsplitEq]
      show chargerCap _ vOut = _
      rw [hvOut]
      rfl
  case granted =>
    have hpos : (governorStages readings s).gov.driveGrant s.ctl.role ≠ 0 := by
      rw [← hgrant]
      cases hrole : s.ctl.role with
      | stick =>
        simp only [grant, hrole, if_true]
        exact Nat.ne_of_gt (hstick hrole)
      | dock =>
        simp only [grant, hrole, reduceCtorEq, if_false]
        exact Nat.ne_of_gt (hdock hrole)
    obtain ⟨hstate, hcount⟩ := governorPeriod_stays readings s hrun fun h => absurd h hpos
    obtain ⟨-, -, hprev, -, hhanded, hheld, -⟩ := governorPeriod_steps readings s hrun (.inl howner) hstate
    refine ⟨hstate, hheld.trans (congrArg some hprev.symm), hhanded.trans hprev.symm, ?_, hcount.trans (if_neg hpos)⟩
    rw [hprev, dutyStep_duty]
    exact clampDuty_le _ _ _ _
  case hold =>
    have hstick : FiguresKept (stickGov s) (settle (governorPeriod readings s)).gov := by
      rw [governorStages_inStick readings hrole] at hfigures
      exact hfigures
    obtain ⟨-, -, hdemand, -, -⟩ := stickGov_powers hstick
    refine ⟨fun hnone => ⟨?_, governorPeriod_firstHold readings s hrun howner hnone⟩, fun h k hhold hcal => ?_⟩
    · rw [hdemand howner, heldPower_none hnone]
      rfl
    · intro held
      have hheld : s.heldPower = some held := heldPower_steps hrun howner hhold hcal
      refine ⟨by rw [hdemand howner, hheld]; rfl, fun hstays => ?_⟩
      rw [governorPeriod_pHold readings hrole hrun (by rw [hhold]; rfl) hstays, hheld]
  case counts =>
    rw [hgrant] at hnone
    obtain ⟨hstate, hcount⟩ := governorPeriod_stays readings s hrun fun _ => hfew
    exact ⟨hstate, hcount.trans (if_pos hnone)⟩
  case coasts =>
    rw [hgrant] at hnone
    exact governorPeriod_coasts readings s hrun hnone hten

end Sys2Proof.Machine
